-- ==== Sys2Proof/Word.lean ====
section
/-!
DEFINITION. The raw byte of the Command Link and of the flash store, and the plain data that commands carry: colours,
rects, pictures and the answers of the flash store.
-/

namespace Sys2Proof

/-- A byte of a frame or of a store page. -/
abbrev Byte := BitVec 8

/-- A colour or a pixel value: three channels, each 0..255 (00_scope.md 1.5). -/
structure Rgb where
  r : Nat
  g : Nat
  b : Nat
deriving DecidableEq, Repr

/-- Black, the colour of a cleared buffer. -/
def Rgb.black : Rgb := ⟨0, 0, 0⟩

/-- White, the colour of the broken mark (R33). -/
def Rgb.white : Rgb := ⟨255, 255, 255⟩

/-- A menu item's fill: a colour and an alpha 0..255 (R1). -/
structure Fill where
  colour : Rgb
  alpha : Nat
deriving DecidableEq, Repr

/-- A rectangle in screen coordinates; x and y may lie off the screen (00_scope.md 1.5, R195). -/
structure Rect where
  x : Int
  y : Int
  w : Nat
  h : Nat
deriving DecidableEq, Repr

/-- The identity by which a still is cached: asset key and check (R43). -/
structure Ident where
  key : Nat
  check : Nat
deriving DecidableEq, Repr

/-- A decoded picture: its size and its pixels, row by row from the top, each row from the left. -/
structure Picture where
  width : Nat
  height : Nat
  pixels : List Rgb
deriving DecidableEq, Repr

/-- The outcome of one page of a completed page read (R145). -/
inductive PageOutcome where
  | clean
  | corrected (bits : Nat)
  | uncorrectable
deriving DecidableEq, Repr

/-- One page of a completed page read: its outcome and its bytes. A list shorter than a page stands for a page whose
remaining bytes are FFh, as an erased page reads (log entry 25). -/
structure PageRead where
  outcome : PageOutcome
  data : List Byte
deriving DecidableEq, Repr

/-- The end of a page program (R129, R139): the store reports PASS or FAIL, or the program limit is reached. -/
inductive ProgramOutcome where
  | pass
  | fail
  | limitReached
deriving DecidableEq, Repr

/-- The end of the PANEL self-test (R180): every word read back, or the first panel whose loop failed. -/
inductive PanelLoop where
  | bothPass
  | panel0Fails
  | panel1Fails
deriving DecidableEq, Repr

/-- The moments of a pass at which the Compositor read what it does not hold in its snapshot (R35, R39): for each lane
window, each broken mark (in cell order) and each menu item's text, the number of views that the pass had taken since its start
when the reading was made (log entry 7). A window or an item is never read before
the ones before it in table order; a mark with no number is read at the pass start. -/
structure DrawMoments where
  windows : List Nat
  marks : List Nat
  items : List Nat
deriving DecidableEq, Repr

end Sys2Proof
end

