-- ==== Sys2Proof/Config.lean ====
section
/-!
DEFINITION. The values the spec leaves open and the model leaves free: constants without a body, so that no proof can
lean on a value of theirs. Each is an entry of the assumption log.
-/

namespace Sys2Proof.Config

/-- A pixel of a frame buffer whose content the spec calls unspecified (R102) or does not give (R26, R178): screen,
buffer, how often the screen's buffers have become unspecified, column, row. Log entry 9. -/
opaque unspecifiedPixel : Fin 2 → Bool → Nat → Nat → Nat → BitVec 24

/-- What a 48-bit lane clock or display time holds where the exact tick count does not fit (R63). Log entry 10. -/
opaque ticksBeyond48 : Nat → BitVec 48

/-- What a 40-bit pass number holds where the exact number does not fit (R63). Log entry 10. -/
opaque passBeyond40 : Nat → BitVec 40

/-- The sequence of a root record formed when the highest sequence is already 4,294,967,295 (R133). Log entry 11. -/
opaque sequenceAfterLast : BitVec 32

end Sys2Proof.Config
end

