-- ==== Sys2Proof/Syntax.lean ====
section
/-!
DEFINITION. The commands the block takes: one constructor per row of spec/opcode_table.json. A request carries its tag
and the payload fields of R198 in the order of that table (reserved fields are 0 and are the Link's to check, so they are
no operands); enumeration fields are the codes of R196 as they come, so that a code without a meaning can be refused. An
event carries what the spec leaves to its agent (log entry 5).
-/

namespace Sys2Proof

inductive Instr where
  -- resets and the line
  | powerOnReset
  | supplyDip
  | resetLineLow
  | resetLineRelease
  /-- A character from RX: its byte, and whether its stop bit was received high (R182). -/
  | rxCharacter (byte : Byte) (stopHigh : Bool)
  | frameTimeout
  /-- A low run of RX reaches 2 ms; `seenHigh`: the line was seen high between the end of the last reset and the low run (R186,
  R194). -/
  | linkBreak (seenHigh : Bool)
  | requestHandoff
  | txFrameSent
  -- the Link's own requests
  | echo (tag : Nat) (data : List Byte)
  | status (tag : Nat)
  | setLinkRate (tag rate : Nat)
  | reset (tag : Nat)
  -- the Power Controller's requests
  | setPower (tag state : Nat)
  | causes (tag : Nat)
  | selfTest (tag flags : Nat)
  | settingGet (tag index : Nat)
  | settingPut (tag index value : Nat)
  | settingsSave (tag : Nat)
  -- the Store Controller's requests
  | storeInfo (tag : Nat)
  | remount (tag : Nat)
  -- the Catalog's requests
  | stageOpen (tag mode : Nat)
  | stageDiscard (tag : Nat)
  | titlePut (tag title badge : Nat) (tint : Rgb) (stillKey clipKey : Nat) (name : List Byte)
  | titleDrop (tag title : Nat)
  | titleGet (tag generation mode title : Nat)
  | setGlyphs (tag key : Nat)
  | assetBegin (tag key kind length check : Nat)
  | assetData (tag key offset : Nat) (chunk : List Byte)
  | assetAbort (tag key : Nat)
  | assetInfo (tag generation key : Nat)
  | publish (tag : Nat)
  -- the Still Cache's requests
  | cacheInfo (tag : Nat)
  | cacheFlush (tag : Nat)
  -- the Plan Unit's requests
  | planBackdrop (tag screen : Nat) (colour : Rgb)
  | planWall (tag screen presence : Nat) (rect : Rect) (columns rows gap border : Nat) (focusColour : Rgb)
  | planTitles (tag screen start removeCount : Nat) (titles : List Nat)
  | planItem (tag screen index : Nat) (rect : Rect) (normal lit : Fill) (text : Rgb) (alignment scale : Nat)
      (glyphs : List Byte)
  | planItemClear (tag screen index : Nat)
  | planWindow (tag screen window lane : Nat) (rect : Rect)
  | planRevert (tag screen : Nat)
  | present (tag screen kind length : Nat)
  | scroll (tag screen speed target : Nat)
  | focus (tag screen kind index : Nat)
  -- the Lane Engine's requests
  | lanePlay (tag lane clockScreen endAction loops title stallLimit : Nat)
  | laneStop (tag lane : Nat)
  | laneStatus (tag lane : Nat)
  -- Scanout's and the Backlight Controller's requests
  | screenStatus (tag screen : Nat)
  | lightMode (tag screen mode level : Nat)
  | lightStatus (tag : Nat)
  -- power and frame events
  | wakeEdge
  | panelSignalOn (screen : Fin 2)
  | powerUpEnd (screen : Fin 2)
  | panelSignalOff (screen : Fin 2)
  | powerDownEnd (screen : Fin 2)
  /-- A VBLANK; `lanesFirst`: the lanes' work of this VBLANK is done before the pass start (R97). -/
  | vblank (screen : Fin 2) (lanesFirst : Bool)
  | passComplete (screen : Fin 2) (moments : DrawMoments)
  -- lane events
  | laneHeaderReadDone (lane : Fin 3) (pages : List PageRead)
  | laneReadIssue (lane : Fin 3)
  | laneReadDone (lane : Fin 3) (pages : List PageRead)
  | clipDecodeStart
  /-- The clip decoder ends: the picture, or none where it could not decode the unit (R74). -/
  | clipDecodeDone (result : Option Picture)
  | stallTimerExpiry (lane : Fin 3)
  -- still events
  | fetchTake
  | stillReadDone (pages : List PageRead)
  | stillDecodeStart
  /-- The still decoder ends: the picture, or none where the coded data could not be decoded or did not end with the
  picture (R54). -/
  | stillDecodeDone (result : Option Picture)
  | cacheClear
  -- store events
  | pageProgramDone (outcome : ProgramOutcome)
  | relocationReadDone (page : PageRead)
  | rootWriteStart
  | glyphReadDone (pages : List PageRead)
  | portGrant
  | storeReadTimeout
  | eraseUnitReport (unit : Nat) (passed : Bool)
  | eraseDeadline
  | descriptorReadDone (page : List Byte)
  | rootUnitReadDone (pages : List PageRead)
  | catalogImageReadDone (pages : List PageRead)
  -- sensor and self-test events
  | sampleTimer
  /-- A sensor read ends: the reading, or none where the sensor did not acknowledge (R151). -/
  | sensorReadDone (reading : Option Int)
  | sensorReadTimeout
  | memoryTestDone (matched : Bool)
  | storeTestReadDone (page : PageRead)
  | panelTestDone (result : PanelLoop)
  | sensorTestStart
  | timebaseTestEnd (ticks : Nat)
  | descriptorReadTimeout
deriving DecidableEq, Repr

end Sys2Proof
end

