-- ==== Sys2Proof/Machine/State.lean ====
section
/-!
DEFINITION. The state of the TK-36 as plain data, block by block, and its value right after a power-on reset. Every field
cites the rule that names it; a field the rules do not name says that it is the model's own.
-/

namespace Sys2Proof.Machine

/-- Two like things, one per screen. -/
structure Two (α : Type) where
  s0 : α
  s1 : α
deriving DecidableEq, Repr

/-- Three like things, one per lane or lane window. -/
structure Three (α : Type) where
  e0 : α
  e1 : α
  e2 : α
deriving DecidableEq, Repr

/-- The status codes of R197. -/
inductive Status where
  | ok | badKind | badLength | fieldNonzero | badParam | noSuch | notNow | busy | sealed | pending | queueFull | intakeFull
  | outOfOrder | checkMismatch | badFormat | incomplete | noSpace | extentLimit | storeOffline | storeReadOnly | storeFault
  | damaged | stalled | stopped
deriving DecidableEq, Repr

/-! ### The Command Link (R182 to R194) -/

/-- The supported link rates (R182). -/
inductive LinkRate where
  | b115200 | b460800 | b1000000 | b3000000
deriving DecidableEq, Repr

/-- A request frame as the receiver completes it (R183). -/
structure Frame where
  kind : Nat
  tag : Nat
  payload : List Byte
deriving DecidableEq, Repr

/-- What the Link does once a message's last byte has been sent: nothing, the rate change of R192, the reset of R193. -/
inductive AfterSend where
  | nothing
  | setRate (rate : LinkRate)
  | resetPart
deriving DecidableEq, Repr

/-- A message of the outbound queue: a reply or a notice (R190). -/
structure LinkMsg where
  kind : Nat
  tag : Nat
  payload : List Byte
  after : AfterSend := .nothing
deriving DecidableEq, Repr

structure Link where
  /-- the current link rate (R182) -/
  rate : LinkRate := .b115200
  /-- the bytes of the frame in progress, its SYNC first; none while hunting (R184) -/
  rxFrame : List Byte := []
  /-- the held bytes waiting to be examined again (R184) -/
  rxHeld : List Byte := []
  /-- a character since the last reset shows that RX has been seen high, so that the next low run is a break (R186, R194;
  log entry 14) -/
  breakArmed : Bool := false
  /-- HELLO has been handed to the outbound queue (R187) -/
  helloSent : Bool := false
  /-- a RESET request has been taken (R193) -/
  resetTaken : Bool := false
  /-- the request queue, oldest first (R187) -/
  requests : List Frame := []
  /-- the outbound queue, oldest first (R190) -/
  outbound : List LinkMsg := []
  /-- the places held for replies not yet made (R188, R190) -/
  places : Nat := 0
  /-- the message the transmitter is sending (R190) -/
  sending : Option LinkMsg := none
  /-- the notices-dropped flag (R190) -/
  noticesDropped : Bool := false
deriving DecidableEq, Repr

/-! ### The Plan Unit (R1 to R24) -/

/-- A wall of a plan with its title list (R1). -/
structure Wall where
  rect : Rect
  columns : Nat
  rows : Nat
  gap : Nat
  border : Nat
  focusColour : Rgb
  titles : List Nat
deriving DecidableEq, Repr

/-- Alignment of a menu item's text (R1, R38). -/
inductive Alignment where
  | left | center | right
deriving DecidableEq, Repr

/-- A present menu item (R1). -/
structure Item where
  rect : Rect
  normal : Fill
  lit : Fill
  text : Rgb
  glyphs : List Byte
  alignment : Alignment
  scale : Nat
deriving DecidableEq, Repr

/-- A present lane window (R1). -/
structure Window where
  lane : Fin 3
  rect : Rect
deriving DecidableEq, Repr

/-- A plan record (R1). -/
structure Plan where
  backdrop : Rgb := Rgb.black
  wall : Option Wall := none
  items : List (Option Item) := List.replicate 48 none
  windows : Three (Option Window) := ⟨none, none, none⟩
deriving DecidableEq, Repr

/-- The transition a PRESENT asks for (R9). -/
inductive TransitionKind where
  | cut | fade
deriving DecidableEq, Repr

/-- The seal mark of a pending plan, with what the PRESENT recorded and the tag of its deferred reply (R9). -/
structure Seal where
  kind : TransitionKind
  length : Nat
  tag : Nat
deriving DecidableEq, Repr

/-- The transition record (R11): `fading` is kind FADE. -/
structure Transition where
  fading : Bool := false
  length : Nat := 0
  step : Nat := 0
  level : Nat := 0
deriving DecidableEq, Repr

/-- The scroll record (R13); `down` is the last direction. -/
structure ScrollRec where
  position : Nat := 0
  target : Nat := 0
  speed : Nat := 1
  down : Bool := true
deriving DecidableEq, Repr

/-- The focus (R15). -/
inductive Focus where
  | none
  | wall (index : Nat)
  | item (index : Nat)
deriving DecidableEq, Repr

/-- The appearance state of a cell (R17, R21). -/
inductive Appearance where
  | empty
  | broken
  | waiting
  | fading (k : Nat)
  | shown
deriving DecidableEq, Repr

/-- A visible-cell record (R16); `tint` is the tint found at the cell's resolution (R32). -/
structure Cell where
  index : Nat
  title : Option Nat
  ident : Option Ident
  tint : Rgb
  appearance : Appearance
  pinned : Bool
deriving DecidableEq, Repr

/-- A poster record (R18): the poster identity, whether it may be pinned and offered (it is neither failed nor DAMAGED),
the title's tint where the window draws one (none: black), and whether the record holds a pin. -/
structure Poster where
  ident : Option Ident
  usable : Bool
  tint : Option Rgb
  pinned : Bool
deriving DecidableEq, Repr

/-- What the Plan Unit keeps for one screen (R1). -/
structure PlanScreen where
  live : Plan := {}
  pending : Plan := {}
  sealMark : Option Seal := none
  transition : Transition := {}
  scroll : ScrollRec := {}
  focus : Focus := .none
  cells : List Cell := []
  posters : Three (Option Poster) := ⟨none, none, none⟩
  wantedVisible : List Ident := []
  wantedPrefetch : List Ident := []
  reResolve : Bool := false
deriving DecidableEq, Repr

/-! ### Lanes (R63 to R88) -/

/-- The lane states (R64). -/
inductive LaneState where
  | idle | priming | playing | starved | held | ended
deriving DecidableEq, Repr

/-- What happens when the clip ends (R63, R81). -/
inductive EndAction where
  | loop | freeze | poster | clear
deriving DecidableEq, Repr

/-- Why a lane is HELD (R63). -/
inductive HeldCause where
  | stall | store | damaged
deriving DecidableEq, Repr

/-- Why a lane last ended (R63). -/
inductive EndedReason where
  | clipEnd | retired | power
deriving DecidableEq, Repr

/-- The clip description (R63). -/
structure ClipDesc where
  width : Nat := 0
  height : Nat := 0
  period : Nat := 0
  units : Nat := 0
deriving DecidableEq, Repr

/-- An entry of a clip's unit index (R63, R201); the offset counts from the first byte after the index. -/
structure UnitEntry where
  offset : Nat
  length : Nat
  isKey : Bool
  cue : Nat
  corrupt : Bool
deriving DecidableEq, Repr

/-- A unit of a pass (R63). -/
structure UnitPos where
  unit : Nat := 0
  pass : Nat := 0
deriving DecidableEq, Repr

/-- A decoded picture of a lane (R63). -/
structure LanePicture where
  unit : Nat
  pass : Nat
  time : Nat
  cue : Nat
  picture : Picture
deriving DecidableEq, Repr

/-- A coded unit that holds ring space: `arrived` once its read request has completed (R69, R71). -/
structure RingUnit where
  unit : Nat
  pass : Nat
  length : Nat
  arrived : Bool
  bytes : List Byte
deriving DecidableEq, Repr

/-- A run of consecutive store pages (R105, R129). -/
structure Run where
  first : Nat
  count : Nat
deriving DecidableEq, Repr

/-- The header and index read of a priming lane (R67): the runs after the one asked for, the bytes read. -/
structure HeaderRead where
  rest : List Run
  data : List Byte
deriving DecidableEq, Repr

/-- A read request outstanding (R70): its byte range of the asset, the asset page its next completed operation begins
with, the runs after the one asked for, the bytes read so far from its first page on. -/
structure LaneRequest where
  start : Nat
  stop : Nat
  nextPage : Nat
  rest : List Run
  data : List Byte
deriving DecidableEq, Repr

/-- A lane record (R63). `endReason` is the end reason fixed at R72; `header` and `request` are the reads of R67 and R70. -/
structure Lane where
  state : LaneState := .idle
  title : Nat := 0
  clip : Option Nat := none
  clockScreen : Fin 2 := 0
  endAction : EndAction := .freeze
  loops : Nat := 0
  stallLimit : Nat := 3000
  stallTimer : Option Nat := none
  clock : Nat := 0
  desc : ClipDesc := {}
  index : List UnitEntry := []
  readPos : UnitPos := {}
  readingStopped : Bool := false
  finalPass : Option Nat := none
  demand : Bool := false
  decodePos : UnitPos := {}
  skipping : Bool := false
  ring : List RingUnit := []
  fill : Nat := 0
  queue : List LanePicture := []
  onShow : Option LanePicture := none
  ready : Bool := false
  skipped : Nat := 0
  heldCause : Option HeldCause := none
  endedReason : Option EndedReason := none
  endReason : Option EndedReason := none
  pendingTag : Option Nat := none
  header : Option HeaderRead := none
  request : Option LaneRequest := none
deriving DecidableEq, Repr

/-- The Lane Engine (R63, R73): three lane records, the lane whose unit is in the clip decoder, the lane served last. -/
structure LaneEngine where
  lane : Three Lane := ⟨{}, {}, {}⟩
  decoding : Option (Fin 3) := none
  lastServed : Fin 3 := 2
deriving DecidableEq, Repr

/-! ### The Compositor (R25 to R42) and what a frame buffer holds -/

/-- A screen's colour matrix: the coefficients of the R, G and B output rows and the offsets (R41, R42). -/
structure Matrix where
  coeffs : List Int := [1024, 0, 0, 0, 1024, 0, 0, 0, 1024]
  offsets : List Int := [0, 0, 0]
deriving DecidableEq, Repr

/-- One drawing operation of a layer, placed and scaled on the whole rect and clipped afterwards (R27, R28). -/
inductive DrawOp where
  /-- an opaque or blended fill of a rect -/
  | fill (rect clip : Rect) (colour : Rgb) (alpha : Nat)
  /-- a picture scaled to a rect and drawn with an alpha (R29, R30) -/
  | picture (rect clip : Rect) (picture : Picture) (alpha : Nat)
  /-- the focus border of a cell (R34) -/
  | border (rect clip : Rect) (width : Nat) (colour : Rgb)
  /-- a glyph at a scale, its 16 × 24 coverages row by row (R33, R38, R39) -/
  | glyph (left top : Int) (scale : Nat) (clip : Rect) (colour : Rgb) (coverage : List Byte)
deriving DecidableEq, Repr

/-- A finished pass: the layers drawn over the backdrop, the fade level and the matrix (R27). -/
structure Drawing where
  backdrop : Rgb
  ops : List DrawOp
  fade : Nat
  matrix : Matrix
deriving DecidableEq, Repr

/-- The content of a frame buffer (R89); its pixels are read with `bufferPixel`. Log entry 8. -/
inductive FrameBuffer where
  /-- never cleared since a reset, or partly drawn by an abandoned pass, or written by the MEMORY test; `time` tells one
  such content from the next -/
  | unspecified (time : Nat)
  /-- cleared to black (R93) -/
  | black
  /-- a complete pass (R26) -/
  | drawn (d : Drawing)
deriving DecidableEq, Repr

/-- A cell of a snapshot (R25). -/
structure CellShot where
  index : Nat
  appearance : Appearance
  slot : Option Nat
  tint : Rgb
deriving DecidableEq, Repr

/-- A poster record of a snapshot (R25, R36). -/
inductive PosterShot where
  | slot (index : Nat)
  | tint (colour : Rgb)
  | black
deriving DecidableEq, Repr

/-- The snapshot a pass is drawn from (R25). -/
structure Snapshot where
  plan : Plan
  position : Nat
  cells : List CellShot
  posters : Three PosterShot
  focus : Focus
  fade : Nat
  matrix : Matrix
deriving DecidableEq, Repr

/-- What a window reads of its lane when it is drawn (R35). -/
structure LaneView where
  state : LaneState
  endAction : EndAction
  onShow : Option Picture
deriving DecidableEq, Repr

/-- What a pass reads at one moment beside its snapshot: what every lane shows, and glyph memory (R35, R39). -/
structure PassView where
  lanes : Three LaneView
  glyphs : Option (List Byte)
deriving DecidableEq, Repr

/-- A pass context (R25): the snapshot, and what the lanes and glyph memory have shown together since the pass began, oldest
first, one view for each command that changed them (log entry 7). -/
structure PassContext where
  shot : Snapshot
  views : List PassView
deriving DecidableEq, Repr

/-- What the Compositor keeps for one screen (R25, R42). -/
structure CompScreen where
  matrix : Matrix := {}
  context : Option PassContext := none
deriving DecidableEq, Repr

/-! ### The Still Cache (R43 to R62) -/

/-- The fetch classes (R47). -/
inductive FetchClass where
  | visible | prefetch
deriving DecidableEq, Repr

/-- The states of a still slot (R43). -/
inductive SlotState where
  | free | loading | resident
deriving DecidableEq, Repr

/-- A still slot (R43); its width and height are those of `picture`, 0 when there is none; its pins are counted in the
pin table (R44). -/
structure Slot where
  state : SlotState := .free
  ident : Option Ident := none
  picture : Option Picture := none
  stale : Bool := false
  cls : Option FetchClass := none
deriving DecidableEq, Repr

/-- A showing place (R44). -/
inductive Place where
  | cell (screen : Fin 2) (index : Nat)
  | poster (screen : Fin 2) (window : Fin 3)
deriving DecidableEq, Repr

/-- A pin table entry (R44). -/
structure Pin where
  place : Place
  slot : Nat
deriving DecidableEq, Repr

/-- A fetch queue entry (R47). -/
structure FetchEntry where
  ident : Ident
  cls : FetchClass
deriving DecidableEq, Repr

/-- A load in flight (R51, R52): its slot, the asset record it reads with the length and kind data of that record, the runs
after the one asked for, the bytes read. -/
structure Load where
  slot : Nat
  record : Nat
  length : Nat
  desc : ClipDesc
  rest : List Run
  data : List Byte
deriving DecidableEq, Repr

structure StillCache where
  slots : List Slot := List.replicate 96 {}
  pins : List Pin := []
  reuse : List Nat := []
  queue : List FetchEntry := []
  failed : List Ident := []
  loads : List Load := []
  /-- the decoder's wait list, by slot (R54) -/
  waitList : List Nat := []
  /-- the slot of the load being decoded (R54) -/
  decoding : Option Nat := none
  /-- a MEMORY self-test clear is waiting (R61) -/
  clearWaiting : Bool := false
deriving DecidableEq, Repr

/-! ### Scanout (R89 to R102) -/

/-- The screen states (R91). -/
inductive ScreenState where
  | off | waking | running | sleeping
deriving DecidableEq, Repr

/-- The steps of the panel power sequences that the sequence timer times (R93, R94). -/
inductive SeqStep where
  | wake20 | wake100 | sleep50 | sleep20
deriving DecidableEq, Repr

/-- A screen timing (R90). -/
structure Timing where
  width : Nat
  height : Nat
  rate : Nat
deriving DecidableEq, Repr

/-- The back-buffer states (R96). -/
inductive BackState where
  | free | composing | ready
deriving DecidableEq, Repr

/-- A screen record (R89), with the panel power enable and video signal pins of R91. -/
structure Screen where
  state : ScreenState := .off
  wantedOn : Bool := false
  sequence : Option SeqStep := none
  active : Timing
  entries : Timing
  buffers : Two FrameBuffer := ⟨.unspecified 0, .unspecified 0⟩
  /-- the model's own: how often a buffer's content has become unspecified (log entry 9) -/
  spoils : Nat := 0
  /-- the front is buffer 1 -/
  front1 : Bool := false
  back : BackState := .free
  frameTimer : Bool := false
  missed : Nat := 0
  passCount : Nat := 0
  powerEnable : Bool := false
  videoSignal : Bool := false
deriving DecidableEq, Repr

/-- The default timing of screen 0 (R90). -/
def defaultTiming0 : Timing := ⟨1280, 800, 60⟩

/-- The default timing of screen 1 (R90). -/
def defaultTiming1 : Timing := ⟨1080, 1920, 60⟩

/-! ### The Catalog (R103 to R128) -/

/-- A title record (R104). -/
structure TitleRec where
  number : Nat
  badge : Nat
  tint : Rgb
  stillKey : Nat
  clipKey : Nat
  name : List Byte
deriving DecidableEq, Repr

/-- The kinds of asset (R105). -/
inductive AssetKind where
  | still | clip | glyphs
deriving DecidableEq, Repr

/-- The states of an asset record (R105). -/
inductive AssetState where
  | filling | complete | badCheck | badFormat
deriving DecidableEq, Repr

/-- An asset record of the pool (R105); `uid` is the name the Catalog gives its readers (R107, log entry 35), `desc` the
kind data. -/
structure Asset where
  uid : Nat
  key : Nat
  kind : AssetKind
  length : Nat
  check : Nat
  state : AssetState
  extents : List Run
  accepted : Nat
  inLive : Bool
  inStaged : Bool
  readers : Nat
  damaged : Bool
  desc : ClipDesc
deriving DecidableEq, Repr

/-- The staged generation (R103). -/
structure Staged where
  glyphKey : Nat
  titles : List TitleRec
deriving DecidableEq, Repr

/-- The intake states (R113). -/
inductive IntakeState where
  | none | open | finishing | failed
deriving DecidableEq, Repr

/-- A relocation in progress (R140): the failed unit's pages to be moved, where each stands now, the pages already moved
with their new numbers; `fresh` is false while no clean unit could be had yet. -/
structure Relocation where
  origin : List Nat
  src : List Nat
  moved : List Nat
  fresh : Bool
deriving DecidableEq, Repr

/-- A write stream's page: whether a page has been handed to the store, how often it has failed, the relocation it is in
(R116, R139, R140). -/
structure Writer where
  outstanding : Bool := false
  failures : Nat := 0
  reloc : Option Relocation := none
deriving DecidableEq, Repr

/-- The intake record (R113): the buffer holds the bytes accepted and not yet programmed; `crc` is the running CRC-32
register, `head` the asset's first bytes as they were accepted (R118). -/
structure Intake where
  state : IntakeState := .none
  key : Nat := 0
  record : Nat := 0
  buffer : List Byte := []
  refused : Bool := false
  failure : Status := .ok
  tag : Nat := 0
  crc : BitVec 32 := 0xFFFFFFFF#32
  head : List Byte := []
  writer : Writer := {}
deriving DecidableEq, Repr

/-- The publish record while a publish is in progress (R122, R123). -/
structure Publish where
  tag : Nat
  number : Nat
  image : List Byte
  check : Nat
  pagesDone : Nat := 0
  units : List Nat := []
  /-- the next page of the image's current unit -/
  nextPage : Nat := 0
  /-- every page is programmed and the root write is asked for -/
  atRoot : Bool := false
  writer : Writer := {}
deriving DecidableEq, Repr

/-- The catalog states (R126). -/
inductive CatalogState where
  | valid | lost | empty
deriving DecidableEq, Repr

/-- The glyph load (R125). -/
structure GlyphLoad where
  record : Nat
  rest : List Run
  data : List Byte
deriving DecidableEq, Repr

structure Catalog where
  /-- the live generation (R103) -/
  number : Nat := 0
  glyphKey : Nat := 0
  titles : List TitleRec := []
  /-- the units of the live image (R123, R124) -/
  liveImage : List Nat := []
  staged : Option Staged := none
  pool : List Asset := []
  retiring : List Nat := []
  intake : Intake := {}
  publish : Option Publish := none
  /-- glyph memory: the coverages of the 256 glyphs, none while it is invalid (R125) -/
  glyphs : Option (List Byte) := none
  glyphLoad : Option GlyphLoad := none
  state : CatalogState := .empty
  /-- the model's own: the name of the next asset record (log entry 35) -/
  nextUid : Nat := 0
deriving DecidableEq, Repr

/-! ### The Store Controller (R129 to R150) -/

/-- The store states (R135). -/
inductive StoreState where
  | absent | mounting | online | readOnly | offline
deriving DecidableEq, Repr

/-- The descriptor copy (R130). -/
structure Descriptor where
  pagesPerUnit : Nat
  unitCount : Nat
  correctable : Nat
  programLimit : Nat
  batchSize : Nat
  batchTime : Nat
  fixedTime : Nat
  protect : Bool
deriving DecidableEq, Repr

/-- The unit states (R131). -/
inductive UnitState where
  | root | freeDirty | erasing | freeClean | filling | sealed | bad
deriving DecidableEq, Repr

/-- A unit table entry (R131). -/
structure UnitRec where
  state : UnitState
  holders : Nat
deriving DecidableEq, Repr

/-- A unit and a page within it: the fill unit's next page (R138), the root log position (R133). -/
structure PagePos where
  unit : Nat
  page : Nat
deriving DecidableEq, Repr

/-- The image part of a root record (R133). -/
structure ImagePart where
  units : List Nat := []
  length : Nat := 0
  check : Nat := 0
deriving DecidableEq, Repr

/-- A root record (R133, R202); the settings are the 66 values as 32-bit numbers in the order of R202. -/
structure RootRecord where
  sequence : Nat
  image : ImagePart
  settings : List Nat
  badUnits : List Nat
deriving DecidableEq, Repr

/-- The classes of the port arbiter, highest first (R148). -/
inductive OpClass where
  | lane | stillVisible | write | prefetch | erase
deriving DecidableEq, Repr

/-- What an operation of the store port is for; it names the client (R148). -/
inductive Purpose where
  | laneHeader (lane : Fin 3)
  | laneUnits (lane : Fin 3)
  | still (slot : Nat)
  | glyph
  | intakePage
  | intakeReadBack
  | imagePage
  | imageReadBack
  | mountDescriptor
  | mountRoots
  | mountImage
  | rootPage
  | rootErase
  | eraseBatch
  | testDescriptor
  | testRoot
deriving DecidableEq, Repr

/-- The clients of the arbiter, each with at most one operation waiting or in progress (R148). -/
inductive Client where
  | lane (lane : Fin 3)
  | still (slot : Nat)
  | glyph
  | intake
  | imageOrMount
  | root
  | eraser
  | selfTest
deriving DecidableEq, Repr

/-- The operations of the store port (R129). -/
inductive StoreOp where
  | descriptorRead
  | pageRead (run : Run)
  | pageProgram (data : List Byte)
  | erase (units : List Nat)
deriving DecidableEq, Repr

/-- An operation waiting at the arbiter, in arrival order, with its passed-over count (R148). -/
structure WaitingOp where
  purpose : Purpose
  cls : OpClass
  op : StoreOp
  passed : Nat
deriving DecidableEq, Repr

/-- The operation in progress on the port (R129): its time limit in ms, the misses of a read (R130, R146), the page a
program goes to (R139), the units of an erase that have not reported (R144). `orphan`: its client has left it to run to
its end (R148); then the reader and the unit holders whose release waits for that end (R82, R106, R119). -/
structure PortOp where
  purpose : Purpose
  op : StoreOp
  limit : Nat
  misses : Nat := 0
  page : Nat := 0
  unreported : List Nat := []
  orphan : Bool := false
  releaseReader : Option Nat := none
  releaseUnits : List Nat := []
deriving DecidableEq, Repr

/-- Who asks for a root write (R134). -/
inductive RootClient where
  | publish | save
deriving DecidableEq, Repr

/-- A root write asked for, with the image part a publish carries (R134). -/
structure RootJob where
  client : RootClient
  image : Option ImagePart
deriving DecidableEq, Repr

/-- The root write in progress (R134). -/
structure RootWrite where
  job : RootJob
  record : RootRecord
  failures : Nat
deriving DecidableEq, Repr

/-- An erase batch waiting or in progress (R143). -/
structure Batch where
  units : List Nat
  granted : Bool
deriving DecidableEq, Repr

/-- A page that waits for a clean unit, outside the arbiter (R138): a page program of a write stream, or the fresh unit
of a relocation. -/
inductive CleanWait where
  | program (op : WaitingOp)
  | relocation (image : Bool)
deriving DecidableEq, Repr

/-- The step a mount is in (R136). -/
inductive MountStep where
  /-- no mount is in progress -/
  | none
  /-- accepted, waiting for the port to be free (R137) -/
  | waitPort
  | descriptor
  /-- root units: the pages read so far, the runs after the one asked for -/
  | roots (done : List PageRead) (rest : List Run)
  /-- the Catalog's image read: the chosen record, the bytes read, the runs after the one asked for -/
  | image (record : RootRecord) (data : List Byte) (rest : List Run)
deriving DecidableEq, Repr

structure Store where
  state : StoreState := .mounting
  descriptor : Option Descriptor := none
  units : List UnitRec := []
  badUnits : List Nat := []
  fillUnit : Option PagePos := none
  rootPos : Option PagePos := none
  highestSeq : Nat := 0
  /-- the page of the newest root record written or found at mount (R179) -/
  newestRoot : Option Nat := none
  /-- the copy of the current image part (R133) -/
  imagePart : ImagePart := {}
  arbiter : List WaitingOp := []
  /-- operations held back until an operation left to run by their client has completed (R148) -/
  heldBack : List WaitingOp := []
  cleanWait : List CleanWait := []
  port : Option PortOp := none
  rootQueue : List RootJob := []
  rootWrite : Option RootWrite := none
  batch : Option Batch := none
  mount : MountStep := .none
  /-- the mount in progress is the start-up mount (R136) -/
  startUp : Bool := true
  /-- the tag of a REMOUNT awaiting its deferred reply (R137) -/
  remountTag : Option Nat := none
deriving DecidableEq, Repr

/-! ### The Backlight Controller (R151 to R164) -/

/-- The sensor states (R152). -/
inductive SensorState where
  | unknown | valid | fault
deriving DecidableEq, Repr

/-- A sensor record (R152); `latest` is the latest valid temperature, unused for the ambient sensor. -/
structure Sensor where
  state : SensorState := .unknown
  misses : Nat := 0
  latest : Option Int := none
deriving DecidableEq, Repr

/-- What the sensor port is doing (R151, R180): a sample with the reads ended so far, a self-test with the number of
sensors that have answered. -/
inductive SensorPort where
  | idle
  | sample (reads : List (Option Int))
  | test (answered : Nat)
deriving DecidableEq, Repr

/-- What the Backlight Controller keeps for one screen (R155 to R159). -/
structure LightScreen where
  curveLux : List Nat := [0, 500, 5000, 20000, 60000, 0xFFFFFFFF, 0xFFFFFFFF, 0xFFFFFFFF]
  curveLevel : List Nat := [6554, 13107, 32768, 52428, 65535, 0, 0, 0]
  manual : Bool := false
  manualLevel : Nat := 0
  cap : Nat := 32767
  target : Nat := 32767
  output : Nat := 0
deriving DecidableEq, Repr

structure Light where
  sampleTimer : Bool := true
  port : SensorPort := .idle
  ambient : Sensor := {}
  temps : Two Sensor := ⟨{}, {}⟩
  window : List Nat := []
  screen : Two LightScreen := ⟨{}, {}⟩
  derateStart : Int := 60
  derateStep : Nat := 4096
  fallback : Nat := 52428
  slew : Nat := 2048
deriving DecidableEq, Repr

/-! ### The Power Controller (R165 to R181) -/

/-- The power states (R165). -/
inductive PowerState where
  | active | quiet | standby
deriving DecidableEq, Repr

/-- The reset causes (R169). -/
inductive ResetCause where
  | powerOn | supplyDip | resetLine | linkBreak | resetRequest
deriving DecidableEq, Repr

/-- The tests of a self-test, in the order they run (R177). -/
inductive SelfTestKind where
  | memory | store | panel | sensor | timebase
deriving DecidableEq, Repr

/-- The step of the self-test in progress (R178 to R180). -/
inductive TestStep where
  /-- the Still Cache has been asked to clear itself -/
  | memoryClear
  /-- the pattern test runs -/
  | memory
  /-- the descriptor read is at the arbiter or on the port -/
  | storeDescriptor
  /-- the newest root record's page is being read -/
  | storeRoot
  | panel
  /-- waiting for the next sample; `sampled` once it has completed -/
  | sensorWait (sampled : Bool)
  /-- the test's own sensor reads -/
  | sensor
  | timebase
deriving DecidableEq, Repr

/-- A self-test in progress (R177): the request's tag and flags, the tests still to begin, the codes so far, the step. -/
structure SelfTest where
  tag : Nat
  flags : Nat
  rest : List SelfTestKind
  codes : List (Nat × Nat)
  step : TestStep
deriving DecidableEq, Repr

/-- Where the settings came from (R171). -/
inductive SettingsSource where
  | loaded | defaults
deriving DecidableEq, Repr

structure Power where
  state : PowerState := .active
  /-- the change mark (R165) -/
  changing : Bool := true
  /-- the screens that have reported their target reached since the change began (R165) -/
  reached : Two Bool := ⟨false, false⟩
  /-- the tag of a deferred SET_POWER reply (R167) -/
  setPowerTag : Option Nat := none
  /-- the cause set, in the order of R169 -/
  causes : List ResetCause := [.powerOn]
  /-- the source of the settings, none before the settings load (R171) -/
  settings : Option SettingsSource := none
  selfTest : Option SelfTest := none
  wakeMark : Bool := false
  /-- the tag of the SETTINGS_SAVE in progress (R176) -/
  saveTag : Option Nat := none
  /-- the RESET line is held low (R169) -/
  resetLow : Bool := false
deriving DecidableEq, Repr

/-! ### The whole part -/

/-- The state of the TK-36, and the queue of the commands that wait (the model's own). -/
structure State where
  link : Link := {}
  plans : Two PlanScreen := ⟨{}, {}⟩
  comp : Two CompScreen := ⟨{}, {}⟩
  cache : StillCache := {}
  lanes : LaneEngine := {}
  screens : Two Screen :=
    ⟨{ active := defaultTiming0, entries := defaultTiming0 }, { active := defaultTiming1, entries := defaultTiming1 }⟩
  catalog : Catalog := {}
  store : Store := {}
  light : Light := {}
  power : Power := {}
  pending : List Instr := []
deriving DecidableEq, Repr

/-- Why a command faults: no rule of the spec makes a command stop the part, so there is no reason. -/
inductive Fault where
deriving DecidableEq, Repr

/-- Why a command has no meaning. -/
inductive Refusal where
  /-- Raised by `exec` alone, for a command the model has not reached; safe, since the model then says nothing. -/
  | notModelled (mnemonic : String)
deriving DecidableEq, Repr

/-- The state right after a power-on reset (R24, R42, R62, R88, R102, R128, R150, R164, R181, R194): the start-up mount
has begun with its descriptor read on the port (R171, log entry 12), and no command waits. -/
def State.reset : State :=
  { store :=
      { port := some { purpose := .mountDescriptor, op := .descriptorRead, limit := 50 }, mount := .descriptor } }

end Sys2Proof.Machine
end

