-- ==== Sys2Proof/Machine/Bytes.lean ====
section
/-!
DEFINITION. Byte-level encodings shared by the Command Link and the flash store (R195), and the two checks: CRC-16 of
frames (R183) and CRC-32 of assets, images and root records (R201).
-/

namespace Sys2Proof.Machine

/-- The low eight bits of a number. -/
def byteOf (n : Nat) : Byte := BitVec.ofNat 8 n

/-- A number in `width` bytes, most significant byte first (R195). -/
def beBytes : Nat → Nat → List Byte
  | 0, _ => []
  | width + 1, n => beBytes width (n / 256) ++ [byteOf n]

/-- The number a big-endian field holds (R195). -/
def beNat (bytes : List Byte) : Nat := bytes.foldl (fun n b => n * 256 + b.toNat) 0

/-- A field that may be none carries its all-ones value (R195). -/
def beOption (width : Nat) : Option Nat → List Byte
  | some n => beBytes width n
  | none => beBytes width (256 ^ width - 1)

/-- A signed value as the two's complement number of `width` bytes (R195). -/
def twosOf (width : Nat) (i : Int) : Nat := (i % (256 ^ width : Nat)).toNat

/-- The signed value of a two's complement number of `width` bytes (R195). -/
def signedOf (width n : Nat) : Int := if 2 * n < 256 ^ width then (n : Int) else (n : Int) - (256 ^ width : Nat)

/-- A flag in one byte (R195). -/
def flagByte (b : Bool) : Byte := if b then 1#8 else 0#8

/-- The field of `width` bytes at an offset. -/
def fieldAt (bytes : List Byte) (offset width : Nat) : Nat := beNat ((bytes.drop offset).take width)

/-- A colour in three bytes (R195). -/
def rgbBytes (c : Rgb) : List Byte := [byteOf c.r, byteOf c.g, byteOf c.b]

/-- The colour field at an offset (R195). -/
def rgbAt (bytes : List Byte) (offset : Nat) : Rgb :=
  ⟨fieldAt bytes offset 1, fieldAt bytes (offset + 1) 1, fieldAt bytes (offset + 2) 1⟩

/-- A fill in four bytes: R, G, B, alpha (R195). -/
def fillBytes (f : Fill) : List Byte := rgbBytes f.colour ++ [byteOf f.alpha]

/-- The fill field at an offset (R195). -/
def fillAt (bytes : List Byte) (offset : Nat) : Fill := ⟨rgbAt bytes offset, fieldAt bytes (offset + 3) 1⟩

/-- A rect in eight bytes: x and y signed, width, height (R195). -/
def rectBytes (r : Rect) : List Byte :=
  beBytes 2 (twosOf 2 r.x) ++ beBytes 2 (twosOf 2 r.y) ++ beBytes 2 r.w ++ beBytes 2 r.h

/-- The rect field at an offset (R195). -/
def rectAt (bytes : List Byte) (offset : Nat) : Rect :=
  ⟨signedOf 2 (fieldAt bytes offset 2), signedOf 2 (fieldAt bytes (offset + 2) 2), fieldAt bytes (offset + 4) 2,
    fieldAt bytes (offset + 6) 2⟩

/-- One bit of the CRC-16 register: generator 1021h, most significant bit first (R183). -/
def crc16Bit (r : BitVec 16) : BitVec 16 := if r.msb then (r <<< 1) ^^^ 0x1021#16 else r <<< 1

/-- One byte of the CRC-16 register (R183). -/
def crc16Byte (r : BitVec 16) (b : Byte) : BitVec 16 :=
  crc16Bit (crc16Bit (crc16Bit (crc16Bit (crc16Bit (crc16Bit (crc16Bit (crc16Bit (r ^^^ (b.zeroExtend 16 <<< 8)))))))))

/-- The CRC-16 of a frame's bytes from LEN to the payload's end (R183). -/
def crc16 (bytes : List Byte) : BitVec 16 := bytes.foldl crc16Byte 0xFFFF#16

/-- One bit of the CRC-32 register: generator 04C11DB7h, reflected (R201). -/
def crc32Bit (r : BitVec 32) : BitVec 32 := if r.getLsbD 0 then (r >>> 1) ^^^ 0xEDB88320#32 else r >>> 1

/-- One byte of the CRC-32 register (R201). -/
def crc32Byte (r : BitVec 32) (b : Byte) : BitVec 32 :=
  crc32Bit (crc32Bit (crc32Bit (crc32Bit (crc32Bit (crc32Bit (crc32Bit (crc32Bit (r ^^^ b.zeroExtend 32))))))))

/-- The CRC-32 register carried over bytes (R201). -/
def crc32Run (r : BitVec 32) (bytes : List Byte) : BitVec 32 := bytes.foldl crc32Byte r

/-- The check a CRC-32 register gives: all bits inverted at the end (R201). -/
def crc32Final (r : BitVec 32) : Nat := (~~~r).toNat

/-- The CRC-32 of bytes (R201). -/
def crc32 (bytes : List Byte) : Nat := crc32Final (crc32Run 0xFFFFFFFF#32 bytes)

/-- A store page's bytes (R202): the listed bytes, then FFh to 4,096 (log entry 25). -/
def pageBytes (p : PageRead) : List Byte := (p.data ++ List.replicate (4096 - p.data.length) 0xFF#8).take 4096

/-- A page outcome other than UNCORRECTABLE: its data may be used (R145). -/
def readable (p : PageRead) : Bool := p.outcome != .uncorrectable

/-- The number of store pages that hold `n` bytes. -/
def pagesFor (n : Nat) : Nat := (n + 4095) / 4096

end Sys2Proof.Machine
end

