-- ==== Sys2Proof/Machine/Views.lean ====
section
/-!
DEFINITION. What a pass in progress sees of a change (R35, R39): when a command has changed what the lanes show or glyph
memory, the open pass contexts take what they now show together as one view more (log entry 7).
-/

namespace Sys2Proof.Machine

/-- What a window reads of a lane (R35). -/
def Lane.view (l : Lane) : LaneView := ⟨l.state, l.endAction, l.onShow.map (·.picture)⟩

/-- What a pass reads of the state beside its snapshot (R35, R39). -/
def State.shows (s : State) : PassView :=
  ⟨⟨s.lanes.lane.e0.view, s.lanes.lane.e1.view, s.lanes.lane.e2.view⟩, s.catalog.glyphs⟩

/-- A view joins a pass's list when it differs from the latest one. -/
def addView (views : List PassView) (v : PassView) : List PassView :=
  if views.getLast? = some v then views else views ++ [v]

def PassContext.see (v : PassView) (c : PassContext) : PassContext := { c with views := addView c.views v }

/-- Both screens' open pass contexts take a view. -/
def tellContexts (v : PassView) (comp : Two CompScreen) : Two CompScreen :=
  ⟨{ comp.s0 with context := comp.s0.context.map (PassContext.see v) },
    { comp.s1 with context := comp.s1.context.map (PassContext.see v) }⟩

/-- The state a command leaves, after the open pass contexts have seen what it changed since `before` (R35, R39). -/
def State.seenSince (after before : State) : State :=
  if after.shows = before.shows then after else { after with comp := tellContexts after.shows after.comp }

end Sys2Proof.Machine
end

