-- ==== Sys2Proof/Machine/Ops.lean ====
section
/-!
DEFINITION. Access to the two screens, the three lanes and glyph memory, the outbound queue with its places, notices and the transmitter
(R188 to R190), and the gate every command passes: the part is not held in reset (R169).
-/

namespace Sys2Proof.Machine

def Two.get {α : Type} (t : Two α) (i : Fin 2) : α :=
  match i with
  | 0 => t.s0
  | 1 => t.s1

def Two.set {α : Type} (t : Two α) (i : Fin 2) (v : α) : Two α :=
  match i with
  | 0 => { t with s0 := v }
  | 1 => { t with s1 := v }

def Three.get {α : Type} (t : Three α) (i : Fin 3) : α :=
  match i with
  | 0 => t.e0
  | 1 => t.e1
  | 2 => t.e2

def Three.set {α : Type} (t : Three α) (i : Fin 3) (v : α) : Three α :=
  match i with
  | 0 => { t with e0 := v }
  | 1 => { t with e1 := v }
  | 2 => { t with e2 := v }

/-- The other screen. -/
def otherScreen (i : Fin 2) : Fin 2 := 1 - i

/-- A screen number of a request, where there is such a screen (R196). -/
def screenOf (n : Nat) : Option (Fin 2) := if h : n < 2 then some ⟨n, h⟩ else none

/-- A lane number of a request, where there is such a lane. -/
def laneOf (n : Nat) : Option (Fin 3) := if h : n < 3 then some ⟨n, h⟩ else none

def State.plan (s : State) (i : Fin 2) : PlanScreen := s.plans.get i
def State.setPlan (s : State) (i : Fin 2) (p : PlanScreen) : State := { s with plans := s.plans.set i p }
def State.compScreen (s : State) (i : Fin 2) : CompScreen := s.comp.get i
def State.setComp (s : State) (i : Fin 2) (c : CompScreen) : State := { s with comp := s.comp.set i c }
def State.screen (s : State) (i : Fin 2) : Screen := s.screens.get i
def State.setScreen (s : State) (i : Fin 2) (c : Screen) : State := { s with screens := s.screens.set i c }
def State.lightOf (s : State) (i : Fin 2) : LightScreen := s.light.screen.get i
def State.setLight (s : State) (i : Fin 2) (l : LightScreen) : State :=
  { s with light := { s.light with screen := s.light.screen.set i l } }
def State.lane (s : State) (l : Fin 3) : Lane := s.lanes.lane.get l
def State.setLane (s : State) (l : Fin 3) (r : Lane) : State := { s with lanes := { s.lanes with lane := s.lanes.lane.set l r } }
/-- Glyph memory holds a glyph set, or none where it is invalid (R39, R125). -/
def State.setGlyphMemory (s : State) (g : Option (List Byte)) : State := { s with catalog := { s.catalog with glyphs := g } }

/-- The screen is RUNNING (R91). -/
def State.running (s : State) (i : Fin 2) : Bool := (s.screen i).state == .running

/-- A command acts on a part that is not held in reset, and the passes in progress see what it changed (R35, R39); held, the
part does nothing (R169). -/
def whenLive (act : State → State) (s : State) : State := if s.power.resetLow then s else (act s).seenSince s

/-- A command's meaning: the next state it makes of a part that is not held in reset. -/
def live (act : State → State) (s : State) : Host.Outcome State Fault Refusal := .next (whenLive act s)

/-! ### Status codes, the outbound queue and the transmitter -/

/-- The code of a status (R197). -/
def Status.code : Status → Nat
  | .ok => 0 | .badKind => 1 | .badLength => 2 | .fieldNonzero => 3 | .badParam => 4 | .noSuch => 5 | .notNow => 6
  | .busy => 7 | .sealed => 8 | .pending => 9 | .queueFull => 10 | .intakeFull => 11 | .outOfOrder => 12
  | .checkMismatch => 13 | .badFormat => 14 | .incomplete => 15 | .noSpace => 16 | .extentLimit => 17
  | .storeOffline => 18 | .storeReadOnly => 19 | .storeFault => 20 | .damaged => 21 | .stalled => 22 | .stopped => 23

/-- The outbound queue's occupancy: its messages and the places held (R190). -/
def Link.occupancy (l : Link) : Nat := l.outbound.length + l.places

/-- The transmitter takes the head message whenever it is not sending (R190). -/
def Link.startSend (l : Link) : Link :=
  match l.sending, l.outbound with
  | none, m :: rest => { l with sending := some m, outbound := rest }
  | _, _ => l

/-- A message joins the tail of the outbound queue (R190). -/
def Link.push (l : Link) (m : LinkMsg) : Link := { l with outbound := l.outbound ++ [m] }.startSend

/-- A reply fills the place held for it (R190). -/
def Link.fillPlace (l : Link) (m : LinkMsg) : Link := { l with places := l.places - 1 }.push m

def State.setLink (s : State) (l : Link) : State := { s with link := l }

/-- The reply message to a request of a request kind: the kind plus 80h, the request's tag, the status first (R189). -/
def replyMsg (kind tag : Nat) (status : Status) (data : List Byte) (after : AfterSend) : LinkMsg :=
  { kind := kind + 0x80, tag := tag, payload := byteOf status.code :: data, after := after }

/-- A reply, immediate or deferred, is handed to the outbound queue and fills its held place (R188 to R190). -/
def reply (kind tag : Nat) (status : Status) (data : List Byte) (s : State) : State :=
  s.setLink (s.link.fillPlace (replyMsg kind tag status data .nothing))

/-- A notice is handed to the outbound queue: it enters below 40, and is dropped at 40 or more or before HELLO, which
sets the notices-dropped flag (R190). -/
def notice (kind : Nat) (payload : List Byte) (s : State) : State :=
  if s.link.helloSent && s.link.occupancy < 40 then s.setLink (s.link.push { kind := kind, tag := 0, payload := payload })
  else s.setLink { s.link with noticesDropped := true }

/-- The Link may hand a request onward: the occupancy is below 40 and no RESET has been taken (R188). -/
def Link.canHandOn (l : Link) : Bool := l.occupancy < 40 && !l.resetTaken

/-- One place of the outbound queue is held for a request's reply (R188). -/
def holdPlace (s : State) : State := s.setLink { s.link with places := s.link.places + 1 }

/-- The Link hands a request to its owning block: a place is held; a tag of 0 is answered BAD_PARAM and the request goes
no further (R188). Before HELLO the request's frame is discarded (R187), and while the Link may hand nothing onward nothing
happens (log entry 2). -/
def handOn (kind tag : Nat) (owner : State → State) (s : State) : State :=
  if s.link.helloSent && s.link.canHandOn then
    if tag = 0 then reply kind 0 .badParam [] (holdPlace s) else owner (holdPlace s)
  else s

/-- The meaning of a request command: the Link hands it to the owner (log entry 2). -/
def request (kind tag : Nat) (owner : State → State) (s : State) : Host.Outcome State Fault Refusal :=
  live (handOn kind tag owner) s

/-- The rates of R182 in baud. -/
def LinkRate.baud : LinkRate → Nat
  | .b115200 => 115200
  | .b460800 => 460800
  | .b1000000 => 1000000
  | .b3000000 => 3000000

/-- The supported rate a number names (R192). -/
def LinkRate.ofBaud (n : Nat) : Option LinkRate :=
  if n = 115200 then some .b115200 else if n = 460800 then some .b460800
  else if n = 1000000 then some .b1000000 else if n = 3000000 then some .b3000000 else none

/-- The bytes of a message's frame on the line: SYNC, LEN, KIND, TAG, payload, CHECK (R183). -/
def frameBytes (m : LinkMsg) : List Byte :=
  let body := beBytes 2 m.payload.length ++ [byteOf m.kind, byteOf m.tag] ++ m.payload
  0xA7#8 :: body ++ beBytes 2 (crc16 body).toNat

end Sys2Proof.Machine
end

