-- ==== Sys2Proof/Decode.lean ====
section
/-!
DEFINITION. Requests as frames (R188, R198): the request kinds, the length and reserved-field checks, the reading of a
payload into a command and its writing back. No row of spec/opcode_table.json gives bits, so no word spells a command.
-/

namespace Sys2Proof

open Sys2Proof.Machine

/-- The request kinds of R198. -/
def requestKinds : List Nat :=
  [0x01, 0x02, 0x03, 0x04, 0x08, 0x09, 0x0A, 0x0B, 0x0C, 0x0D, 0x10, 0x11, 0x18, 0x19, 0x1A, 0x1B, 0x1C, 0x1D, 0x1E, 0x1F,
    0x20, 0x21, 0x22, 0x28, 0x29, 0x30, 0x31, 0x32, 0x33, 0x34, 0x35, 0x36, 0x37, 0x38, 0x39, 0x40, 0x41, 0x42, 0x48, 0x50,
    0x51]

/-- A kind is a request kind (R188). -/
def isRequestKind (kind : Nat) : Bool := requestKinds.contains kind

/-- The LEN of a request is one its kind allows, and the one its count field implies (R198). -/
def lengthOk (kind : Nat) (p : List Byte) : Bool :=
  match kind with
  | 0x01 => p.length ≤ 1099
  | 0x03 => p.length == 4
  | 0x08 => p.length == 1
  | 0x0A => p.length == 1
  | 0x0B => p.length == 1
  | 0x0C => p.length == 5
  | 0x18 => p.length == 1
  | 0x1A => 16 ≤ p.length && p.length == 16 + fieldAt p 14 1
  | 0x1B => p.length == 2
  | 0x1C => p.length == 4
  | 0x1D => p.length == 14
  | 0x1E => 8 ≤ p.length && p.length ≤ 1032
  | 0x1F => p.length == 4
  | 0x20 => p.length == 5
  | 0x22 => p.length == 4
  | 0x30 => p.length == 4
  | 0x31 => p.length == 18
  | 0x32 => 8 ≤ p.length && p.length == 8 + 2 * fieldAt p 6 2
  | 0x33 => 24 ≤ p.length && p.length == 24 + fieldAt p 23 1
  | 0x34 => p.length == 2
  | 0x35 => p.length == 12
  | 0x36 => p.length == 1
  | 0x37 => p.length == 3
  | 0x38 => p.length == 6
  | 0x39 => p.length == 4
  | 0x40 => p.length == 8
  | 0x41 => p.length == 1
  | 0x42 => p.length == 1
  | 0x48 => p.length == 1
  | 0x50 => p.length == 4
  | _ => p.length == 0

/-- Every reserved byte of the payload is 0 (R198). -/
def reservedOk (kind : Nat) (p : List Byte) : Bool :=
  match kind with
  | 0x1A => fieldAt p 15 1 == 0
  | 0x1D => fieldAt p 5 1 == 0
  | 0x31 => fieldAt p 17 1 == 0
  | 0x32 => fieldAt p 1 1 == 0
  | 0x35 => fieldAt p 3 1 == 0
  | _ => true

/-- `n` big-endian fields of two bytes. -/
def pairsAt : Nat → List Byte → List Nat
  | 0, _ => []
  | n + 1, p => beNat (p.take 2) :: pairsAt n (p.drop 2)

/-- The command that a request's payload of a right length spells (R198). -/
def readPayload (kind tag : Nat) (p : List Byte) : Option Instr :=
  let b := fun o => fieldAt p o 1
  let h := fun o => fieldAt p o 2
  let w := fun o => fieldAt p o 4
  match kind with
  | 0x01 => some (.echo tag p)
  | 0x02 => some (.status tag)
  | 0x03 => some (.setLinkRate tag (w 0))
  | 0x04 => some (.reset tag)
  | 0x08 => some (.setPower tag (b 0))
  | 0x09 => some (.causes tag)
  | 0x0A => some (.selfTest tag (b 0))
  | 0x0B => some (.settingGet tag (b 0))
  | 0x0C => some (.settingPut tag (b 0) (w 1))
  | 0x0D => some (.settingsSave tag)
  | 0x10 => some (.storeInfo tag)
  | 0x11 => some (.remount tag)
  | 0x18 => some (.stageOpen tag (b 0))
  | 0x19 => some (.stageDiscard tag)
  | 0x1A => some (.titlePut tag (h 0) (b 2) (rgbAt p 3) (w 6) (w 10) (p.drop 16))
  | 0x1B => some (.titleDrop tag (h 0))
  | 0x1C => some (.titleGet tag (b 0) (b 1) (h 2))
  | 0x1D => some (.assetBegin tag (w 0) (b 4) (w 6) (w 10))
  | 0x1E => some (.assetData tag (w 0) (w 4) (p.drop 8))
  | 0x1F => some (.assetAbort tag (w 0))
  | 0x20 => some (.assetInfo tag (b 0) (w 1))
  | 0x21 => some (.publish tag)
  | 0x22 => some (.setGlyphs tag (w 0))
  | 0x28 => some (.cacheInfo tag)
  | 0x29 => some (.cacheFlush tag)
  | 0x30 => some (.planBackdrop tag (b 0) (rgbAt p 1))
  | 0x31 => some (.planWall tag (b 0) (b 1) (rectAt p 2) (b 10) (b 11) (b 12) (b 13) (rgbAt p 14))
  | 0x32 => some (.planTitles tag (b 0) (h 2) (h 4) (pairsAt (h 6) (p.drop 8)))
  | 0x33 => some (.planItem tag (b 0) (b 1) (rectAt p 2) (fillAt p 10) (fillAt p 14) (rgbAt p 18) (b 21) (b 22) (p.drop 24))
  | 0x34 => some (.planItemClear tag (b 0) (b 1))
  | 0x35 => some (.planWindow tag (b 0) (b 1) (b 2) (rectAt p 4))
  | 0x36 => some (.planRevert tag (b 0))
  | 0x37 => some (.present tag (b 0) (b 1) (b 2))
  | 0x38 => some (.scroll tag (b 0) (b 1) (w 2))
  | 0x39 => some (.focus tag (b 0) (b 1) (h 2))
  | 0x40 => some (.lanePlay tag (b 0) (b 1) (b 2) (b 3) (h 4) (h 6))
  | 0x41 => some (.laneStop tag (b 0))
  | 0x42 => some (.laneStatus tag (b 0))
  | 0x48 => some (.screenStatus tag (b 0))
  | 0x50 => some (.lightMode tag (b 0) (b 1) (h 2))
  | 0x51 => some (.lightStatus tag)
  | _ => none

/-- The checks of R188 that concern the payload, in their order, and the command of a request frame. -/
def parseRequest (f : Frame) : Except Status Instr :=
  if !lengthOk f.kind f.payload then .error .badLength
  else if !reservedOk f.kind f.payload then .error .fieldNonzero
  else
    match readPayload f.kind f.tag f.payload with
    | some i => .ok i
    | none => .error .badKind

/-- The request frame of a command (R198); an event has none. -/
def encodeRequest (i : Instr) : Option Frame :=
  match i with
  | .echo tag data => some ⟨0x01, tag, data⟩
  | .status tag => some ⟨0x02, tag, []⟩
  | .setLinkRate tag rate => some ⟨0x03, tag, beBytes 4 rate⟩
  | .reset tag => some ⟨0x04, tag, []⟩
  | .setPower tag state => some ⟨0x08, tag, beBytes 1 state⟩
  | .causes tag => some ⟨0x09, tag, []⟩
  | .selfTest tag flags => some ⟨0x0A, tag, beBytes 1 flags⟩
  | .settingGet tag index => some ⟨0x0B, tag, beBytes 1 index⟩
  | .settingPut tag index value => some ⟨0x0C, tag, beBytes 1 index ++ beBytes 4 value⟩
  | .settingsSave tag => some ⟨0x0D, tag, []⟩
  | .storeInfo tag => some ⟨0x10, tag, []⟩
  | .remount tag => some ⟨0x11, tag, []⟩
  | .stageOpen tag mode => some ⟨0x18, tag, beBytes 1 mode⟩
  | .stageDiscard tag => some ⟨0x19, tag, []⟩
  | .titlePut tag title badge tint stillKey clipKey name =>
    some ⟨0x1A, tag, beBytes 2 title ++ (beBytes 1 badge ++ (rgbBytes tint ++ (beBytes 4 stillKey ++ (beBytes 4 clipKey ++
      (beBytes 1 name.length ++ (beBytes 1 0 ++ name))))))⟩
  | .titleDrop tag title => some ⟨0x1B, tag, beBytes 2 title⟩
  | .titleGet tag generation mode title => some ⟨0x1C, tag, beBytes 1 generation ++ (beBytes 1 mode ++ beBytes 2 title)⟩
  | .setGlyphs tag key => some ⟨0x22, tag, beBytes 4 key⟩
  | .assetBegin tag key kind length check =>
    some ⟨0x1D, tag, beBytes 4 key ++ (beBytes 1 kind ++ (beBytes 1 0 ++ (beBytes 4 length ++ beBytes 4 check)))⟩
  | .assetData tag key offset chunk => some ⟨0x1E, tag, beBytes 4 key ++ (beBytes 4 offset ++ chunk)⟩
  | .assetAbort tag key => some ⟨0x1F, tag, beBytes 4 key⟩
  | .assetInfo tag generation key => some ⟨0x20, tag, beBytes 1 generation ++ beBytes 4 key⟩
  | .publish tag => some ⟨0x21, tag, []⟩
  | .cacheInfo tag => some ⟨0x28, tag, []⟩
  | .cacheFlush tag => some ⟨0x29, tag, []⟩
  | .planBackdrop tag screen colour => some ⟨0x30, tag, beBytes 1 screen ++ rgbBytes colour⟩
  | .planWall tag screen presence rect columns rows gap border focusColour =>
    some ⟨0x31, tag, beBytes 1 screen ++ (beBytes 1 presence ++ (rectBytes rect ++ (beBytes 1 columns ++ (beBytes 1 rows ++
      (beBytes 1 gap ++ (beBytes 1 border ++ (rgbBytes focusColour ++ beBytes 1 0)))))))⟩
  | .planTitles tag screen start removeCount titles =>
    some ⟨0x32, tag, beBytes 1 screen ++ (beBytes 1 0 ++ (beBytes 2 start ++ (beBytes 2 removeCount ++
      (beBytes 2 titles.length ++ titles.flatMap (beBytes 2)))))⟩
  | .planItem tag screen index rect normal lit text alignment scale glyphs =>
    some ⟨0x33, tag, beBytes 1 screen ++ (beBytes 1 index ++ (rectBytes rect ++ (fillBytes normal ++ (fillBytes lit ++
      (rgbBytes text ++ (beBytes 1 alignment ++ (beBytes 1 scale ++ (beBytes 1 glyphs.length ++ glyphs))))))))⟩
  | .planItemClear tag screen index => some ⟨0x34, tag, beBytes 1 screen ++ beBytes 1 index⟩
  | .planWindow tag screen window lane rect =>
    some ⟨0x35, tag, beBytes 1 screen ++ (beBytes 1 window ++ (beBytes 1 lane ++ (beBytes 1 0 ++ rectBytes rect)))⟩
  | .planRevert tag screen => some ⟨0x36, tag, beBytes 1 screen⟩
  | .present tag screen kind length => some ⟨0x37, tag, beBytes 1 screen ++ (beBytes 1 kind ++ beBytes 1 length)⟩
  | .scroll tag screen speed target => some ⟨0x38, tag, beBytes 1 screen ++ (beBytes 1 speed ++ beBytes 4 target)⟩
  | .focus tag screen kind index => some ⟨0x39, tag, beBytes 1 screen ++ (beBytes 1 kind ++ beBytes 2 index)⟩
  | .lanePlay tag lane clockScreen endAction loops title stallLimit =>
    some ⟨0x40, tag, beBytes 1 lane ++ (beBytes 1 clockScreen ++ (beBytes 1 endAction ++ (beBytes 1 loops ++
      (beBytes 2 title ++ beBytes 2 stallLimit))))⟩
  | .laneStop tag lane => some ⟨0x41, tag, beBytes 1 lane⟩
  | .laneStatus tag lane => some ⟨0x42, tag, beBytes 1 lane⟩
  | .screenStatus tag screen => some ⟨0x48, tag, beBytes 1 screen⟩
  | .lightMode tag screen mode level => some ⟨0x50, tag, beBytes 1 screen ++ (beBytes 1 mode ++ beBytes 2 level)⟩
  | .lightStatus tag => some ⟨0x51, tag, []⟩
  | .powerOnReset => none
  | .supplyDip => none
  | .resetLineLow => none
  | .resetLineRelease => none
  | .rxCharacter _ _ => none
  | .frameTimeout => none
  | .linkBreak _ => none
  | .requestHandoff => none
  | .txFrameSent => none
  | .wakeEdge => none
  | .panelSignalOn _ => none
  | .powerUpEnd _ => none
  | .panelSignalOff _ => none
  | .powerDownEnd _ => none
  | .vblank _ _ => none
  | .passComplete _ _ => none
  | .laneHeaderReadDone _ _ => none
  | .laneReadIssue _ => none
  | .laneReadDone _ _ => none
  | .clipDecodeStart => none
  | .clipDecodeDone _ => none
  | .stallTimerExpiry _ => none
  | .fetchTake => none
  | .stillReadDone _ => none
  | .stillDecodeStart => none
  | .stillDecodeDone _ => none
  | .cacheClear => none
  | .pageProgramDone _ => none
  | .relocationReadDone _ => none
  | .rootWriteStart => none
  | .glyphReadDone _ => none
  | .portGrant => none
  | .storeReadTimeout => none
  | .eraseUnitReport _ _ => none
  | .eraseDeadline => none
  | .descriptorReadDone _ => none
  | .rootUnitReadDone _ => none
  | .catalogImageReadDone _ => none
  | .sampleTimer => none
  | .sensorReadDone _ => none
  | .sensorReadTimeout => none
  | .memoryTestDone _ => none
  | .storeTestReadDone _ => none
  | .panelTestDone _ => none
  | .sensorTestStart => none
  | .timebaseTestEnd _ => none
  | .descriptorReadTimeout => none

/-- The command a word spells by the table's bits: no row of the table gives bits (98_reader.md: no row with fields). -/
def decodeTableWord (_nbits _w : Nat) : Option Instr := none

end Sys2Proof
end

