-- ==== Sys2Proof/Machine/Units.lean ====
section
/-!
DEFINITION. The unit table with its holders (R131, R132), the eraser's batch (R143), page runs (R105), and placing an
operation with the port arbiter (R148).
-/

namespace Sys2Proof.Machine

def State.setStore (s : State) (st : Store) : State := { s with store := st }

/-! ### Holders (R132) -/

/-- A unit gains a holder (R132). -/
def UnitRec.addHolder (u : UnitRec) : UnitRec := { u with holders := u.holders + 1 }

/-- A unit loses a holder; the last one leaving a SEALED unit makes it FREE_DIRTY (R132). -/
def UnitRec.release (u : UnitRec) : UnitRec :=
  if u.state = .sealed ∧ u.holders ≤ 1 then { u with state := .freeDirty, holders := 0 }
  else { u with holders := u.holders - 1 }

def Store.modifyUnit (u : Nat) (f : UnitRec → UnitRec) (st : Store) : Store := { st with units := st.units.modify u f }

def Store.addHolders (us : List Nat) (st : Store) : Store := us.foldl (fun (st : Store) u => st.modifyUnit u UnitRec.addHolder) st

def Store.releaseHolders (us : List Nat) (st : Store) : Store := us.foldl (fun (st : Store) u => st.modifyUnit u UnitRec.release) st

/-- The numbers of the units in a state, ascending. -/
def Store.unitsIn (st : Store) (k : UnitState) : List Nat :=
  st.units.zipIdx.filterMap fun p => if p.1.state = k then some p.2 else none

/-- The lowest-numbered FREE_CLEAN unit (R138). -/
def Store.lowestClean (st : Store) : Option Nat := st.units.findIdx? (·.state == .freeClean)

/-- Some unit may yet become FREE_CLEAN: one is FREE_DIRTY or ERASING (R138). -/
def Store.reclaimable (st : Store) : Bool := st.units.any fun u => u.state == .freeDirty || u.state == .erasing

/-- The geometry's pages per unit, 0 when there is no descriptor copy. -/
def Store.pagesPerUnit (st : Store) : Nat :=
  match st.descriptor with
  | some d => d.pagesPerUnit
  | none => 0

/-- The unit of a page number (R105). -/
def Store.unitOfPage (st : Store) (page : Nat) : Nat := page / st.pagesPerUnit

/-! ### Runs of pages -/

/-- The page numbers of runs, in order. -/
def runPages (rs : List Run) : List Nat := rs.flatMap fun r => List.range' r.first r.count

/-- A page joins runs at the end: it lengthens the last run or begins a new one (R116). -/
def appendPage (rs : List Run) (page : Nat) : List Run :=
  match rs.getLast? with
  | some r => if r.first + r.count = page then rs.dropLast ++ [⟨r.first, r.count + 1⟩] else rs ++ [⟨page, 1⟩]
  | none => [⟨page, 1⟩]

/-- The runs of a page list (R116: splitting or joining runs as the numbers require). -/
def runsOf (pages : List Nat) : List Run := pages.foldl appendPage []

/-- The runs left after the first `n` pages. -/
def dropPages : Nat → List Run → List Run
  | _, [] => []
  | n, r :: rs => if n < r.count then ⟨r.first + n, r.count - n⟩ :: rs else dropPages (n - r.count) rs

/-- The runs of the first `n` pages. -/
def takePages : Nat → List Run → List Run
  | _, [] => []
  | n, r :: rs => if n = 0 then [] else if n ≤ r.count then [⟨r.first, n⟩] else r :: takePages (n - r.count) rs

/-- One run in reads of at most 16 pages (R52, R67, R70, R125; log entry 19). -/
def splitRun : Nat → Run → List Run
  | 0, _ => []
  | fuel + 1, r => if r.count ≤ 16 then [r] else ⟨r.first, 16⟩ :: splitRun fuel ⟨r.first + 16, r.count - 16⟩

/-- Runs in reads of at most 16 pages, each within one run. -/
def readRuns (rs : List Run) : List Run := rs.flatMap fun r => splitRun r.count r

/-- The units in which runs have pages, each once (R131). -/
def unitsOfRuns (pagesPerUnit : Nat) (rs : List Run) : List Nat :=
  (rs.flatMap fun r =>
    List.range' (r.first / pagesPerUnit) ((r.first + r.count - 1) / pagesPerUnit - r.first / pagesPerUnit + 1)).dedup

/-! ### The port and its arbiter (R129, R148) -/

/-- The client an operation belongs to (R148). -/
def clientOf : Purpose → Client
  | .laneHeader l => .lane l
  | .laneUnits l => .lane l
  | .still slot => .still slot
  | .glyph => .glyph
  | .intakePage => .intake
  | .intakeReadBack => .intake
  | .imagePage => .imageOrMount
  | .imageReadBack => .imageOrMount
  | .mountDescriptor => .imageOrMount
  | .mountRoots => .imageOrMount
  | .mountImage => .imageOrMount
  | .rootPage => .root
  | .rootErase => .root
  | .eraseBatch => .eraser
  | .testDescriptor => .selfTest
  | .testRoot => .selfTest

/-- The client has an operation in progress on the port that it has left to run to its end (R148). -/
def Store.leftRunning (st : Store) (c : Client) : Bool :=
  match st.port with
  | some p => p.orphan && clientOf p.purpose == c
  | none => false

/-- An operation is placed with the arbiter; it is held back while an operation of its client that was left to run to its
end is still in progress (R148). -/
def Store.place (purpose : Purpose) (cls : OpClass) (op : StoreOp) (st : Store) : Store :=
  let w : WaitingOp := { purpose := purpose, cls := cls, op := op, passed := 0 }
  if st.leftRunning (clientOf purpose) then { st with heldBack := st.heldBack ++ [w] }
  else { st with arbiter := st.arbiter ++ [w] }

/-- Every waiting operation of a client is withdrawn (R82). -/
def Store.withdraw (c : Client) (st : Store) : Store :=
  { st with
    arbiter := st.arbiter.filter fun w => clientOf w.purpose != c
    heldBack := st.heldBack.filter fun w => clientOf w.purpose != c }

/-- Reads of clients are taken (R145). -/
def Store.reads (st : Store) : Bool := st.state == .online || st.state == .readOnly

/-- The operation in progress belongs to the client and has not been left to itself. -/
def Store.inProgress (st : Store) (c : Client) : Bool :=
  match st.port with
  | some p => !p.orphan && clientOf p.purpose == c
  | none => false

/-- The units a store operation is working on: the page it programs or the pages it reads (R106). -/
def Store.busyUnits (st : Store) (p : PortOp) : List Nat :=
  match p.op with
  | .pageProgram _ => [st.unitOfPage p.page]
  | .pageRead r => unitsOfRuns st.pagesPerUnit [r]
  | _ => []

/-! ### The eraser (R143) -/

/-- The deadline of an erase batch of `x` units, in ms after its grant (R143). -/
def eraseDeadlineMs (d : Descriptor) (x : Nat) : Nat :=
  d.fixedTime + (d.batchTime * x + d.batchSize - 1) / d.batchSize

/-- A root unit's erase is waiting or in progress; it is an erase batch too (R134, log entry 21). -/
def Store.rootErasing (st : Store) : Bool :=
  st.arbiter.any (·.purpose == .rootErase) || (match st.port with | some p => p.purpose == .rootErase | none => false)

/-- The eraser: ONLINE, with no batch in progress or waiting and a FREE_DIRTY unit, it forms the next batch (R143). -/
def Store.eraser (st : Store) : Store :=
  match st.state, st.batch, st.descriptor with
  | .online, none, some d =>
    let us := (st.unitsIn .freeDirty).take d.batchSize
    if us = [] ∨ st.rootErasing then st
    else
      let marked := us.foldl (fun (st : Store) u => st.modifyUnit u fun r => { r with state := .erasing }) st
      { marked with batch := some { units := us, granted := false } }.place .eraseBatch .erase (.erase us)
  | _, _, _ => st

/-- The eraser acts at the end of a step that may have released units (R132, R143). -/
def eraserStep (s : State) : State := s.setStore s.store.eraser

end Sys2Proof.Machine
end

