-- ==== Sys2Proof/Machine/Records.lean ====
section
/-!
DEFINITION. Catalog memory: looking titles and assets up, readers, damage and the removal of records (R103 to R108), the
end of an operation on the store port with the releases that waited for it, and the emptying of catalog memory at the
begin of a mount (R127).
-/

namespace Sys2Proof.Machine

def State.setCatalog (s : State) (c : Catalog) : State := { s with catalog := c }

/-! ### Looking up (R103) -/

/-- The live title of a number (R103). -/
def Catalog.liveTitle (c : Catalog) (n : Nat) : Option TitleRec := c.titles.find? (·.number == n)

/-- The live generation's asset record of a key (R103). -/
def Catalog.liveRecord (c : Catalog) (key : Nat) : Option Asset := c.pool.find? fun a => a.inLive && a.key == key

/-- The staged generation's asset record of a key (R103). -/
def Catalog.stagedRecord (c : Catalog) (key : Nat) : Option Asset := c.pool.find? fun a => a.inStaged && a.key == key

/-- The record a reader was given (R107). -/
def Catalog.record (c : Catalog) (uid : Nat) : Option Asset := c.pool.find? (·.uid == uid)

/-- The live record of a still identity: kind STILL, that key and that check (R43). -/
def Catalog.liveStill (c : Catalog) (i : Ident) : Option Asset :=
  c.pool.find? fun a => a.inLive && a.kind == .still && a.key == i.key && a.check == i.check

/-- An identity is in the live generation (R43). -/
def Catalog.inLive (c : Catalog) (i : Ident) : Bool := (c.liveStill i).isSome

/-- The live asset record of the identity's key is flagged DAMAGED (R17, R48, R51). -/
def Catalog.isDamaged (c : Catalog) (i : Ident) : Bool :=
  match c.liveRecord i.key with
  | some a => a.damaged
  | none => false

def Catalog.modify (uid : Nat) (f : Asset → Asset) (c : Catalog) : Catalog :=
  { c with pool := c.pool.map fun a => if a.uid = uid then f a else a }

/-- The intake is OPEN or FINISHING (R113). -/
def Catalog.intakeBusy (c : Catalog) : Bool := c.intake.state == .open || c.intake.state == .finishing

/-- The operation on the port is the intake's and works for the record: the intake is OPEN or FINISHING, the record is its own,
and the operation has not been left to itself (R106). -/
def State.intakeWorksFor (s : State) (uid : Nat) : Bool :=
  s.store.inProgress .intake && s.catalog.intakeBusy && s.catalog.intake.record == uid

/-! ### Codes of assets (R196) -/

def AssetKind.code : AssetKind → Nat
  | .still => 1
  | .clip => 2
  | .glyphs => 3

def AssetKind.ofCode : Nat → Option AssetKind
  | 1 => some .still
  | 2 => some .clip
  | 3 => some .glyphs
  | _ => none

/-! ### Removal (R106) -/

/-- The units in which an asset record has pages (R131). -/
def Store.unitsOfAsset (st : Store) (a : Asset) : List Nat := unitsOfRuns st.pagesPerUnit a.extents

/-- A record is removed: its pool place is freed, it leaves the retiring list, and one holder of each unit where it has
pages is released. While the operation of the record's intake on the port works on such a unit, that unit's release waits for
the operation's end (R106, R119). -/
def removeRecord (uid : Nat) (s : State) : State :=
  match s.catalog.record uid with
  | none => s
  | some a =>
    let us := s.store.unitsOfAsset a
    let busy :=
      match s.store.port with
      | some p => if s.intakeWorksFor uid then us.filter (· ∈ s.store.busyUnits p) else []
      | none => []
    let st := s.store.releaseHolders (us.filter (· ∉ busy))
    { s with
      catalog := { s.catalog with
        pool := s.catalog.pool.filter (·.uid != uid)
        retiring := s.catalog.retiring.filter (· != uid) }
      store := { st with port := st.port.map fun p => { p with releaseUnits := p.releaseUnits ++ busy } } }

/-- A record that is in no generation is removed when it has no readers; with readers it stays on the retiring list, which
it joins at the tail (R106). -/
def settleRecord (uid : Nat) (s : State) : State :=
  match s.catalog.record uid with
  | none => s
  | some a =>
    if a.inLive || a.inStaged then s
    else if a.readers = 0 then removeRecord uid s
    else if uid ∈ s.catalog.retiring then s
    else s.setCatalog { s.catalog with retiring := s.catalog.retiring ++ [uid] }

/-- A record loses its staged membership (R106, R110, R114, R119). -/
def dropStaged (uid : Nat) (s : State) : State :=
  settleRecord uid (s.setCatalog (s.catalog.modify uid fun a => { a with inStaged := false }))

/-! ### Readers and damage (R107, R108) -/

/-- A reader is counted on a record (R107). -/
def takeReader (uid : Nat) (s : State) : State :=
  s.setCatalog (s.catalog.modify uid fun a => { a with readers := a.readers + 1 })

/-- A reader is released; a release that names a record no longer in catalog memory is ignored (R107). -/
def releaseReader (uid : Nat) (s : State) : State :=
  settleRecord uid (s.setCatalog (s.catalog.modify uid fun a => { a with readers := a.readers - 1 }))

/-- A reader reports an UNCORRECTABLE page: the record becomes DAMAGED, with one ASSET_DAMAGED notice when it was not
(R108, R200). -/
def reportDamage (uid page : Nat) (s : State) : State :=
  match s.catalog.record uid with
  | none => s
  | some a =>
    if a.damaged then s
    else
      notice 0xE5 (beBytes 4 a.key ++ beBytes 4 a.check ++ [byteOf a.kind.code] ++ beBytes 4 page)
        (s.setCatalog (s.catalog.modify uid fun a => { a with damaged := true }))

/-- Every UNCORRECTABLE page of a completed read is reported, in page order (R53, R67, R71, R125). -/
def reportPages (uid : Nat) (run : Run) (pages : List PageRead) (s : State) : State :=
  (pages.zip (List.range' run.first run.count)).foldl
    (fun s p => if readable p.1 then s else reportDamage uid p.2 s) s

/-! ### The end of an operation on the port (R129, R148) -/

/-- The port becomes free: operations held back behind this one join the arbiter, and the releases that waited for its end
are made (R82, R106, R148). -/
def portEnd (s : State) : State :=
  match s.store.port with
  | none => s
  | some p =>
    let mine := fun w : WaitingOp => clientOf w.purpose == clientOf p.purpose
    let st := { s.store with
      port := none
      arbiter := s.store.arbiter ++ s.store.heldBack.filter mine
      heldBack := s.store.heldBack.filter fun w => !mine w }
    let s := s.setStore (st.releaseHolders p.releaseUnits)
    match p.releaseReader with
    | some uid => releaseReader uid s
    | none => s

/-! ### The begin of a mount (R127, R136) -/

/-- Catalog memory is emptied (R127). -/
def emptyCatalog (s : State) : State :=
  (s.setCatalog { nextUid := s.catalog.nextUid, glyphs := s.catalog.glyphs }).setGlyphMemory none

/-- A mount begins: catalog memory is emptied, the store's copies of what the mount rebuilds are dropped, and the
descriptor read is on the port (R127, R130, R136; log entry 12). -/
def beginMount (s : State) : State :=
  let s := emptyCatalog s
  s.setStore
    { s.store with
      descriptor := none, units := [], badUnits := [], fillUnit := none, rootPos := none, highestSeq := 0
      newestRoot := none, imagePart := {}, cleanWait := [], batch := none
      port := some { purpose := .mountDescriptor, op := .descriptorRead, limit := 50 }
      mount := .descriptor }

/-- A mount that waits for the port begins when it is free (R137). -/
def mountIfWaiting (s : State) : State :=
  if s.store.mount = .waitPort ∧ s.store.port = none then beginMount s else s

end Sys2Proof.Machine
end

