-- ==== Sys2Proof/Machine/Stills.lean ====
section
/-!
DEFINITION. The Still Cache (R43 to R62): slots, the pin table and the reuse list, the fetch queue, loads, the still
decoder, the failed list and the reaction to a publish. The requests CACHE_INFO and CACHE_FLUSH stand here too.
-/

namespace Sys2Proof.Machine

def State.setCache (s : State) (c : StillCache) : State := { s with cache := c }

/-! ### Slots and pins (R43 to R46) -/

def StillCache.slot (c : StillCache) (k : Nat) : Slot := c.slots.getD k {}

def StillCache.setSlot (k : Nat) (v : Slot) (c : StillCache) : StillCache := { c with slots := c.slots.set k v }

/-- A slot becomes FREE: its identity, size, stale mark and class are cleared (R43). -/
def StillCache.freeSlot (k : Nat) (c : StillCache) : StillCache := c.setSlot k {}

/-- The slot that holds an identity LOADING or RESIDENT (R43). -/
def StillCache.slotOf (c : StillCache) (i : Ident) : Option Nat := c.slots.findIdx? (·.ident == some i)

/-- A slot's pin count: the pin table entries that name it (R44). -/
def StillCache.pinCount (c : StillCache) (k : Nat) : Nat := c.pins.countP (·.slot == k)

/-- The slot a place is pinned to (R44). -/
def StillCache.pinOf (c : StillCache) (p : Place) : Option Nat := (c.pins.find? (·.place == p)).map (·.slot)

/-- One pin of an adjustment: the place is entered against the slot that holds the identity; without such a slot the pin
is ignored (R44). -/
def StillCache.enterPin (c : StillCache) (pins : List Pin) (p : Place × Ident) : List Pin :=
  match c.slotOf p.2 with
  | some k => pins.filter (·.place != p.1) ++ [⟨p.1, k⟩]
  | none => pins

/-- One slot examined at the end of an adjustment with its count `before` (R45, R46): a slot that gains its first pin
leaves the reuse list, a RESIDENT slot that loses its last pin joins its tail, or becomes FREE when it is stale. -/
def StillCache.examine (before : Nat) (k : Nat) (c : StillCache) : StillCache :=
  let after := c.pinCount k
  if before = 0 ∧ 0 < after then { c with reuse := c.reuse.filter (· != k) }
  else if 0 < before ∧ after = 0 ∧ (c.slot k).state = .resident then
    if (c.slot k).stale then c.freeSlot k else { c with reuse := c.reuse ++ [k] }
  else c

/-- A pin adjustment applied as a whole, the slots examined once in ascending order (R44, R45). -/
def StillCache.adjust (unpins : List Place) (pins : List (Place × Ident)) (c : StillCache) : StillCache :=
  let kept := c.pins.filter fun p => p.place ∉ unpins
  let c' := { c with pins := pins.foldl c.enterPin kept }
  (List.range 96).foldl (fun (d : StillCache) k => d.examine (c.pinCount k) k) c'

/-! ### The fetch queue (R47 to R50) -/

def isVisible (e : FetchEntry) : Bool := e.cls == .visible

/-- A VISIBLE entry joins at the tail of the VISIBLE class, ahead of every PREFETCH entry (R47). -/
def joinVisible (q : List FetchEntry) (i : Ident) : List FetchEntry :=
  q.takeWhile isVisible ++ [⟨i, .visible⟩] ++ q.dropWhile isVisible

/-- A VISIBLE offer (R48); `barred`: the identity is failed or its live record DAMAGED. -/
def StillCache.offerVisible (barred : Bool) (i : Ident) (c : StillCache) : StillCache :=
  if barred || (c.slotOf i).isSome then c
  else
    match c.queue.find? (·.ident == i) with
    | some e =>
      if isVisible e then c else { c with queue := joinVisible (c.queue.filter (·.ident != i)) i }
    | none =>
      if c.queue.length < 32 then { c with queue := joinVisible c.queue i }
      else if c.queue.any (fun e => !isVisible e) then { c with queue := joinVisible c.queue.dropLast i }
      else c

/-- A PREFETCH offer (R49). -/
def StillCache.offerPrefetch (barred : Bool) (i : Ident) (c : StillCache) : StillCache :=
  if barred || (c.slotOf i).isSome then c
  else
    match c.queue.find? (·.ident == i) with
    | some _ => c
    | none => if c.queue.length < 32 then { c with queue := c.queue ++ [⟨i, .prefetch⟩] } else c

/-- Withdrawal of every queued identity that is in no wanted set (R20, R23, R50). -/
def StillCache.withdrawUnwanted (wanted : List Ident) (c : StillCache) : StillCache :=
  { c with queue := c.queue.filter fun e => e.ident ∈ wanted }

/-- An identity that may not be queued: failed, or its live asset record DAMAGED (R48, R49). -/
def State.barred (s : State) (i : Ident) : Bool := i ∈ s.cache.failed || s.catalog.isDamaged i

/-! ### Loads (R51 to R53) -/

/-- The arbiter class of a load's reads (R52). -/
def FetchClass.opClass : FetchClass → OpClass
  | .visible => .stillVisible
  | .prefetch => .prefetch

/-- The slot chosen for a load: the lowest FREE slot, else the head of the reuse list, evicted (R51). -/
def StillCache.chooseSlot (c : StillCache) : Option (Nat × StillCache) :=
  match c.slots.findIdx? (·.state == .free) with
  | some k => some (k, c)
  | none =>
    match c.reuse with
    | k :: rest => some (k, { c with reuse := rest }.freeSlot k)
    | [] => none

/-- The load's next read is placed, or its data is complete and it joins the decoder's wait list (R52). -/
def nextStillRead (k : Nat) (cls : FetchClass) (rest : List Run) (s : State) : State :=
  match rest with
  | r :: _ => s.setStore (s.store.place (.still k) cls.opClass (.pageRead r))
  | [] => s.setCache { s.cache with waitList := s.cache.waitList ++ [k] }

/-- The head of the fetch queue is taken for a load into slot `k` (R51). -/
def startLoad (k : Nat) (e : FetchEntry) (a : Asset) (rest : List FetchEntry) (c : StillCache) (s : State) : State :=
  let runs := readRuns (takePages (pagesFor a.length) a.extents)
  let c' := { c.setSlot k { state := .loading, ident := some e.ident, cls := some e.cls } with
    queue := rest
    loads := c.loads ++ [{ slot := k, record := a.uid, length := a.length, desc := a.desc, rest := runs.drop 1, data := [] }] }
  nextStillRead k e.cls runs (takeReader a.uid (s.setCache c'))

/-- The conditions of R51 that do not concern the head. -/
def State.mayFetch (s : State) : Bool :=
  s.cache.loads.length < 2 && s.store.reads && !s.cache.clearWaiting

/-- FETCH_TAKE: heads that are failed, DAMAGED or not live are removed, then the head is taken if a slot can be had (R51). That a
head is examined, and so removed, only while a load could be started is the model's choice (DESIGN CHOICE, log entry 49). -/
def fetchTakeStep (s : State) : State :=
  if s.mayFetch then
    let q := s.cache.queue.dropWhile fun e => s.barred e.ident || !s.catalog.inLive e.ident
    let c := { s.cache with queue := q }
    match q with
    | [] => s.setCache c
    | e :: rest =>
      match c.chooseSlot, s.catalog.liveStill e.ident with
      | some (k, c'), some a => startLoad k e a rest c' s
      | _, _ => s.setCache c
  else s

/-- An identity joins the failed list, pushing out the oldest of 16 (R57). -/
def addFailed (i : Ident) (l : List Ident) : List Ident :=
  if i ∈ l then l else (if l.length < 16 then l else l.drop 1) ++ [i]

/-- A load ends with a failure: the slot becomes FREE, its pins go, the reader is released; all kinds but offline add the
identity to the failed list (R56). -/
def failLoad (k : Nat) (listed : Bool) (s : State) : State :=
  match s.cache.loads.find? (·.slot == k), (s.cache.slot k).ident with
  | some l, some i =>
    let c := s.cache.freeSlot k
    releaseReader l.record (s.setCache { c with
      pins := c.pins.filter (·.slot != k)
      loads := c.loads.filter (·.slot != k)
      failed := if listed then addFailed i c.failed else c.failed })
  | _, _ => s

/-- A still load's read on the port has completed (R52, R53). -/
def stillReadEnd (k : Nat) (run : Run) (pages : List PageRead) (s : State) : State :=
  match s.cache.loads.find? (·.slot == k) with
  | none => portEnd s
  | some l =>
    let s := portEnd (reportPages l.record run pages s)
    if pages.all readable then
      let l' := { l with data := (l.data ++ pages.flatMap pageBytes).take l.length, rest := l.rest.drop 1 }
      let s := s.setCache { s.cache with loads := s.cache.loads.map fun m => if m.slot = k then l' else m }
      match l.rest, s.store.reads, (s.cache.slot k).cls with
      | [], _, _ => nextStillRead k .visible [] s
      | rest, true, some cls => nextStillRead k cls rest s
      | _, _, _ => failLoad k false s
    else failLoad k true s

/-- STILL_READ_DONE: the read of a still load on the port completes with its pages (R52, R53, R145). -/
def stillReadDoneStep (pages : List PageRead) (s : State) : State :=
  match s.store.port with
  | some { purpose := .still k, op := .pageRead run, .. } =>
    if pages.length = run.count then eraserStep (mountIfWaiting (stillReadEnd k run pages s)) else s
  | _ => s

/-! ### The still decoder (R54 to R56) -/

/-- STILL_DECODE_START: the idle decoder takes the first load on its wait list (R54). -/
def stillDecodeStartStep (s : State) : State :=
  match s.cache.decoding, s.cache.waitList with
  | none, k :: rest => s.setCache { s.cache with decoding := some k, waitList := rest }
  | _, _ => s

/-- The still header of R201 with the size limits of R54 and the size held in the kind data. -/
def stillHeaderOk (data : List Byte) (d : ClipDesc) : Bool :=
  8 ≤ data.length && fieldAt data 0 1 == 1 && fieldAt data 1 1 == 0 && fieldAt data 6 2 == 0 &&
    (16 ≤ fieldAt data 2 2 && fieldAt data 2 2 ≤ 240) && (16 ≤ fieldAt data 4 2 && fieldAt data 4 2 ≤ 360) &&
    fieldAt data 2 2 == d.width && fieldAt data 4 2 == d.height

/-- A load completes: the slot takes the picture, the reader is released, and the slot becomes RESIDENT, stale or FREE by
the live generation and its pins (R55). -/
def completeLoad (k : Nat) (l : Load) (i : Ident) (p : Picture) (s : State) : State :=
  let c := { s.cache with loads := s.cache.loads.filter (·.slot != k) }
  let pinned := 0 < c.pinCount k
  let resident : Slot := { state := .resident, ident := some i, picture := some p }
  let c' :=
    if s.catalog.inLive i then
      if pinned then c.setSlot k resident else { c.setSlot k resident with reuse := c.reuse ++ [k] }
    else if pinned then c.setSlot k { resident with stale := true } else c.freeSlot k
  releaseReader l.record (s.setCache c')

/-- The picture of a decode that does not fail (R54). -/
def decodedStill (l : Load) : Option Picture → Option Picture
  | some p => if stillHeaderOk l.data l.desc && p.width == l.desc.width && p.height == l.desc.height then some p else none
  | none => none

/-- STILL_DECODE_DONE: the decode ends; the load completes or fails (R54 to R56). -/
def stillDecodeDoneStep (result : Option Picture) (s : State) : State :=
  match s.cache.decoding with
  | none => s
  | some k =>
    let s := s.setCache { s.cache with decoding := none }
    match s.cache.loads.find? (·.slot == k), (s.cache.slot k).ident with
    | some l, some i =>
      match decodedStill l result with
      | some p => eraserStep (completeLoad k l i p s)
      | none => eraserStep (failLoad k true s)
    | _, _ => s

/-! ### Publish (R58), the requests (R59, R60) and the clear of the MEMORY test (R61) -/

/-- One slot brought into line with the new live generation (R58). -/
def StillCache.alignSlot (cat : Catalog) (c : StillCache) (k : Nat) : StillCache :=
  let sl := c.slot k
  match sl.state, sl.ident with
  | .resident, some i =>
    if cat.inLive i then c.setSlot k { sl with stale := false }
    else if c.pinCount k = 0 then { c.freeSlot k with reuse := c.reuse.filter (· != k) }
    else c.setSlot k { sl with stale := true }
  | _, _ => c

/-- The cache's reaction to a switch of the live generation (R58). -/
def StillCache.onSwitch (cat : Catalog) (c : StillCache) : StillCache :=
  let c' := { c with queue := c.queue.filter fun e => cat.inLive e.ident }
  { (List.range 96).foldl (StillCache.alignSlot cat) c' with failed := [] }

/-- A slot that CACHE_FLUSH frees: RESIDENT, unpinned and not stale (R59). -/
def StillCache.flushable (c : StillCache) (k : Nat) : Bool :=
  (c.slot k).state == .resident && c.pinCount k == 0 && !(c.slot k).stale

def StillCache.flushSlots (c : StillCache) : List Nat := (List.range 96).filter c.flushable

/-- CACHE_FLUSH's effect (R59). -/
def StillCache.flush (c : StillCache) : StillCache :=
  let ks := c.flushSlots
  { ks.foldl (fun (d : StillCache) k => d.freeSlot k) c with reuse := c.reuse.filter (· ∉ ks), failed := [] }

def cacheFlushOwner (tag : Nat) (s : State) : State :=
  reply 0x29 tag .ok [byteOf s.cache.flushSlots.length] (s.setCache s.cache.flush)

/-- CACHE_INFO's data (R60). -/
def StillCache.info (c : StillCache) : List Byte :=
  [c.slots.countP (·.state == .free), c.slots.countP (·.state == .loading), c.slots.countP (·.state == .resident),
    ((List.range 96).filter fun k => 0 < c.pinCount k).length, c.slots.countP (·.stale), c.reuse.length,
    c.queue.countP isVisible, c.queue.countP (fun e => !isVisible e), c.failed.length].map byteOf

def cacheInfoOwner (tag : Nat) (s : State) : State := reply 0x28 tag .ok s.cache.info s

/-- CACHE_CLEAR's guard: the MEMORY test's clear is waiting and no load is in flight (R61). -/
def State.mayClear (s : State) : Bool := s.cache.clearWaiting && s.cache.loads.isEmpty

/-- Both buffers of a screen come to hold unspecified content (R102, R178; log entry 9). -/
def Screen.spoil (c : Screen) : Screen :=
  let n := c.spoils + 1
  { c with buffers := ⟨.unspecified n, .unspecified n⟩, spoils := n }

/-- CACHE_CLEAR: every slot becomes FREE and the cache's lists are emptied; the pattern test begins over the frame buffers
(R61, R178). -/
def cacheClearStep (s : State) : State :=
  if s.mayClear then
    { s with
      cache := {}
      screens := ⟨s.screens.s0.spoil, s.screens.s1.spoil⟩
      power := { s.power with selfTest := s.power.selfTest.map fun t => { t with step := .memory } } }
  else s

end Sys2Proof.Machine
end

