-- ==== Sys2Proof/Machine/Backlight.lean ====
section
/-!
DEFINITION. The Backlight Controller (R151 to R163): sensors, the ambient window, curves, caps, targets, outputs, and the
requests LIGHT_MODE and LIGHT_STATUS.
-/

namespace Sys2Proof.Machine

def State.setLightAll (s : State) (l : Light) : State := { s with light := l }

/-! ### Sensors and the ambient window (R152, R153) -/

/-- A sensor's change at one read: answered with a (clamped) reading, or missed (R152). -/
def Sensor.read (r : Option Int) (x : Sensor) : Sensor :=
  match r with
  | some t => { state := .valid, misses := 0, latest := some t }
  | none =>
    if x.state = .fault then x
    else if 7 ≤ x.misses then { x with state := .fault, misses := 8 } else { x with misses := x.misses + 1 }

/-- An answered ambient reading above 120,000 lux is taken as 120,000 (R152). -/
def clampLux (r : Int) : Int := max 0 (min 120000 r)

/-- An answered temperature is taken within -40..125 °C (R152). -/
def clampTemp (r : Int) : Int := max (-40) (min 125 r)

/-- The ambient window after an ambient read (R153): an answered reading joins the tail, pushing out the oldest of 8; the
entry to FAULT empties it. -/
def nextWindow (before after : Sensor) (r : Option Int) (w : List Nat) : List Nat :=
  match r with
  | some t => (if w.length < 8 then w else w.drop 1) ++ [t.toNat]
  | none => if before.state ≠ .fault ∧ after.state = .fault then [] else w

/-- The filtered lux: floor(sum/count), none when the window is empty (R153). -/
def Light.filteredLux (l : Light) : Option Nat := if l.window = [] then none else some (l.window.sum / l.window.length)

/-- The sensor-state code (R196). -/
def SensorState.code : SensorState → Nat
  | .unknown => 0
  | .valid => 1
  | .fault => 2

/-- The SENSOR_STATE notice of a sensor that entered or left FAULT (R154, R200). -/
def sensorNotice (sensor : Nat) (before after : Sensor) (r : Option Int) (s : State) : State :=
  if before.state ≠ .fault ∧ after.state = .fault then notice 0xE7 ([byteOf sensor, 2#8] ++ beOption 4 none) s
  else if before.state = .fault ∧ after.state = .valid then
    notice 0xE7 ([byteOf sensor, 1#8] ++ beBytes 4 (twosOf 4 (r.getD 0))) s
  else s

/-! ### Curves (R155, R156) -/

/-- The breakpoints in use: up to the first whose lux entry is FFFFFFFFh (R155). -/
def LightScreen.curve (x : LightScreen) : List (Nat × Nat) :=
  (x.curveLux.zip x.curveLevel).takeWhile fun p => p.1 != 0xFFFFFFFF

def ascending : List Nat → Bool
  | a :: b :: rest => a < b && ascending (b :: rest)
  | _ => true

/-- A curve is VALID with at least 2 breakpoints of strictly ascending lux (R155). -/
def curveValid (c : List (Nat × Nat)) : Bool := 2 ≤ c.length && ascending (c.map (·.1))

/-- The level between two breakpoints, truncated toward the lower breakpoint's level (R156). -/
def interpolate (l v l' v' x : Nat) : Nat :=
  ((v : Int) + Int.tdiv (((v' : Int) - v) * ((x : Int) - l)) ((l' : Int) - l)).toNat

/-- The level a VALID curve gives for a filtered lux (R156). -/
def curveLevel : List (Nat × Nat) → Nat → Nat
  | [], _ => 0
  | [(_, v)], _ => v
  | (l, v) :: (l', v') :: rest, x =>
    if x ≤ l then v else if x < l' then interpolate l v l' v' x else curveLevel ((l', v') :: rest) x

/-! ### Caps, targets and outputs (R157 to R160) -/

/-- The thermal cap a temperature sensor gives (R157). -/
def Light.capOf (l : Light) (x : Sensor) : Nat :=
  match x.state, x.latest with
  | .valid, some t =>
    if t < l.derateStart then 65535 else (max 6554 (65535 - (t - l.derateStart + 1) * (l.derateStep : Int))).toNat
  | _, _ => 32767

/-- A screen's mode value (R158). -/
def Light.modeValue (l : Light) (x : LightScreen) : Nat :=
  if x.manual then x.manualLevel
  else
    match l.filteredLux with
    | some lux => if curveValid x.curve then curveLevel x.curve lux else l.fallback
    | none => l.fallback

/-- A screen's target is the smaller of its mode value and its cap (R158). -/
def Light.retarget (l : Light) (i : Fin 2) : Light :=
  let x := l.screen.get i
  { l with screen := l.screen.set i { x with target := min (l.modeValue x) x.cap } }

/-- A screen's cap is computed from its panel's sensor (R157). -/
def Light.recap (l : Light) (i : Fin 2) : Light :=
  { l with screen := l.screen.set i { l.screen.get i with cap := l.capOf (l.temps.get i) } }

/-- The new output of a RUNNING screen at a sample (R159). -/
def nextOutput (o g c r : Nat) : Nat :=
  if g < o then min c (max g (o - r)) else if o < g then min g (o + r) else o

/-- A screen's output moves at a sample while its panel is RUNNING, and is 0 otherwise (R159). -/
def Light.moveOutput (l : Light) (running : Bool) (i : Fin 2) : Light :=
  let x := l.screen.get i
  { l with screen := l.screen.set i { x with output := if running then nextOutput x.output x.target x.cap l.slew else 0 } }

/-- An output above its new cap falls to it at once (R161). -/
def Light.dropToCap (l : Light) (i : Fin 2) : Light :=
  let x := l.screen.get i
  { l with screen := l.screen.set i { x with output := min x.output x.cap } }

/-- A change of the derate start or the step: both caps and targets, and outputs above their caps (R161). -/
def Light.rederate (l : Light) : Light :=
  (((l.recap 0).retarget 0).dropToCap 0 |>.recap 1 |>.retarget 1).dropToCap 1

/-- Both targets are recomputed (R161). -/
def Light.retargetBoth (l : Light) : Light := (l.retarget 0).retarget 1

/-- A departure from RUNNING: the output becomes 0 at once (R160). -/
def State.lightOff (s : State) (i : Fin 2) : State := s.setLight i { s.lightOf i with output := 0 }

/-! ### A sample (R151) -/

/-- The sample timer expires: the three sensor reads begin (R151). -/
def sampleTimerStep (s : State) : State :=
  if s.light.sampleTimer ∧ s.light.port = .idle then s.setLightAll { s.light with port := .sample [] } else s

/-- A self-test waiting for the next sample learns that one has completed (R180). -/
def noteSample (s : State) : State :=
  { s with power := { s.power with selfTest := s.power.selfTest.map fun t =>
      if t.step = (TestStep.sensorWait false) then { t with step := .sensorWait true } else t } }

/-- A complete sample is processed: sensor states and window, notices, then cap, target and output of screen 0 and of
screen 1 (R151). -/
def processSample (r0 r1 r2 : Option Int) (s : State) : State :=
  let l := s.light
  let a := r0.map clampLux
  let t0 := r1.map clampTemp
  let t1 := r2.map clampTemp
  let ambient := l.ambient.read a
  let temps : Two Sensor := ⟨l.temps.s0.read t0, l.temps.s1.read t1⟩
  let l' := { l with ambient := ambient, temps := temps, window := nextWindow l.ambient ambient a l.window, port := .idle }
  let s := sensorNotice 0 l.ambient ambient a (s.setLightAll l')
  let s := sensorNotice 1 l.temps.s0 temps.s0 t0 s
  let s := sensorNotice 2 l.temps.s1 temps.s1 t1 s
  let l0 := ((s.light.recap 0).retarget 0).moveOutput (s.running 0) 0
  let l1 := ((l0.recap 1).retarget 1).moveOutput (s.running 1) 1
  noteSample (s.setLightAll l1)

/-- A sensor read of a sample ends (R151). -/
def sampleRead (reads : List (Option Int)) (r : Option Int) (s : State) : State :=
  match reads with
  | [r0, r1] => processSample r0 r1 r s
  | _ => s.setLightAll { s.light with port := .sample (reads ++ [r]) }

/-! ### Requests (R162, R163) -/

/-- LIGHT_MODE (R162). -/
def lightModeOwner (tag screen mode level : Nat) (s : State) : State :=
  match screenOf screen with
  | some i =>
    if mode < 2 then
      let x := s.lightOf i
      let x' := if mode = 1 then { x with manual := true, manualLevel := level } else { x with manual := false }
      let l := ({ s.light with screen := s.light.screen.set i x' }).retarget i
      reply 0x50 tag .ok (beBytes 2 (l.screen.get i).target ++ beBytes 2 (l.screen.get i).cap) (s.setLightAll l)
    else reply 0x50 tag .badParam [] s
  | none => reply 0x50 tag .badParam [] s

/-- A level in hundredths of a percent (R163). -/
def percentage (level : Nat) : Nat := level * 10000 / 65535

/-- A temperature in one signed byte, 7Fh for none (R195). -/
def tempByte : Option Int → Byte
  | some t => byteOf (twosOf 1 t)
  | none => 0x7F#8

def Light.screenInfo (l : Light) (x : LightScreen) : List Byte :=
  [flagByte x.manual] ++ beBytes 2 x.manualLevel ++ [flagByte (!curveValid x.curve), byteOf x.curve.length] ++
    beBytes 2 (l.modeValue x) ++ beBytes 2 x.cap ++ beBytes 2 x.target ++ beBytes 2 x.output

def LightScreen.percents (x : LightScreen) : List Byte :=
  beBytes 2 (percentage x.cap) ++ beBytes 2 (percentage x.target) ++ beBytes 2 (percentage x.output)

/-- LIGHT_STATUS's data (R163): the parts of screen 0 before those of screen 1, in the table's last two lines (the model's
choice, log entry 44). -/
def Light.info (l : Light) : List Byte :=
  beOption 4 l.filteredLux ++ [byteOf l.window.length, byteOf l.ambient.state.code, byteOf l.ambient.misses] ++
    [byteOf l.temps.s0.state.code, byteOf l.temps.s0.misses, tempByte l.temps.s0.latest] ++
    [byteOf l.temps.s1.state.code, byteOf l.temps.s1.misses, tempByte l.temps.s1.latest] ++
    l.screenInfo l.screen.s0 ++ l.screenInfo l.screen.s1 ++ l.screen.s0.percents ++ l.screen.s1.percents

def lightStatusOwner (tag : Nat) (s : State) : State := reply 0x51 tag .ok s.light.info s

end Sys2Proof.Machine
end

