-- ==== Sys2Proof/Machine/Lanes.lean ====
section
/-!
DEFINITION. The Lane Engine (R63 to R88): starting a lane, priming, the coded ring and its reads, the clip decoder,
skipping, display times and the lane clock, starvation, the end of a clip, teardown, and the lane requests.
-/

namespace Sys2Proof.Machine

/-! ### Codes (R196) -/

def LaneState.code : LaneState → Nat
  | .idle => 0 | .priming => 1 | .playing => 2 | .starved => 3 | .held => 4 | .ended => 5

def EndAction.code : EndAction → Nat
  | .loop => 0 | .freeze => 1 | .poster => 2 | .clear => 3

def EndAction.ofCode : Nat → Option EndAction
  | 0 => some .loop
  | 1 => some .freeze
  | 2 => some .poster
  | 3 => some .clear
  | _ => none

def heldCode : Option HeldCause → Nat
  | none => 0
  | some .stall => 1
  | some .store => 2
  | some .damaged => 3

def endedCode : Option EndedReason → Nat
  | none => 0
  | some .clipEnd => 1
  | some .retired => 2
  | some .power => 3

/-! ### Positions and times (R63, R76) -/

/-- A lane in PRIMING, PLAYING or STARVED: a reader of its clip (R64). -/
def Lane.active (r : Lane) : Bool := r.state == .priming || r.state == .playing || r.state == .starved

/-- A tick count as 48 bits hold it (R63; log entry 10). -/
def hold48 (n : Nat) : Nat := if n < 2 ^ 48 then n else (Config.ticksBeyond48 n).toNat

/-- A pass number as 40 bits hold it (R63; log entry 10). -/
def hold40 (n : Nat) : Nat := if n < 2 ^ 40 then n else (Config.passBeyond40 n).toNat

/-- The display time of unit `i` of pass `k`: k·U·P + i·P (R76). -/
def displayTime (d : ClipDesc) (p : UnitPos) : Nat := hold48 (p.pass * d.units * d.period + p.unit * d.period)

/-- The next unit in index and pass order (R74). -/
def nextPos (d : ClipDesc) (p : UnitPos) : UnitPos :=
  if p.unit + 1 < d.units then ⟨p.unit + 1, p.pass⟩ else ⟨0, hold40 (p.pass + 1)⟩

/-- Reading has stopped and the decode position has passed the last unit of the final pass (R68, R79). -/
def Lane.pastEnd (r : Lane) : Bool :=
  match r.finalPass with
  | some k => r.readingStopped && k < r.decodePos.pass
  | none => false

/-- The end time of a lane whose reading has stopped: (final pass + 1)·U·P (R76). -/
def Lane.endTime (r : Lane) : Nat := hold48 ((r.finalPass.getD 0 + 1) * r.desc.units * r.desc.period)

/-- The frame period of a frame rate in ticks (R90). -/
def framePeriod (rate : Nat) : Nat := 90000 / rate

/-! ### The ring and the read demand (R69) -/

/-- The fill changes, and the read demand is tested against the two water marks (R69). -/
def Lane.setFill (f : Nat) (r : Lane) : Lane :=
  { r with fill := f, demand := if f < 131072 then true else if 458752 ≤ f then false else r.demand }

/-- The unit at the decode position, once it has been read into the ring (R73). -/
def Lane.headUnit (r : Lane) : Option RingUnit :=
  match r.ring with
  | u :: _ => if u.arrived && u.unit == r.decodePos.unit && u.pass == r.decodePos.pass then some u else none
  | [] => none

/-- The unit at the decode position leaves the ring and the decode position moves on (R74, R75). -/
def Lane.consume (u : RingUnit) (r : Lane) : Lane :=
  { r with ring := r.ring.drop 1, decodePos := nextPos r.desc r.decodePos }.setFill (r.fill - u.length)

/-- A unit is counted as skipped, stopping at 65,535 (R75). -/
def Lane.countSkip (r : Lane) : Lane := { r with skipped := min 65535 (r.skipped + 1) }

/-- Every unit of a pass was skipped before any picture was queued during priming (R68). -/
def Lane.primingFailed (r : Lane) : Bool :=
  r.state == .priming && !r.ready && r.queue.isEmpty && 0 < r.decodePos.pass

/-- The lane deals with units that reach the decode position while it skips (R75). -/
def Lane.skipRun : Nat → Lane → Lane
  | 0, r => r
  | fuel + 1, r =>
    if r.primingFailed then r
    else
      match r.headUnit with
      | none => r
      | some u =>
        match r.index[u.unit]? with
        | none => r
        | some e =>
          if r.skipping || e.corrupt then
            if e.isKey && !e.corrupt then { r with skipping := false }
            else Lane.skipRun fuel (({ r with skipping := true }.consume u).countSkip)
          else r

/-- Priming or recovery is done: the ready mark is set and the stall timer stopped (R68, R79). -/
def Lane.readyTest (r : Lane) : Lane :=
  let done :=
    match r.state with
    | .priming => 2 ≤ r.queue.length || (r.pastEnd && 1 ≤ r.queue.length)
    | .starved => 2 ≤ r.queue.length || r.pastEnd
    | _ => false
  if done && !r.ready then { r with ready := true, stallTimer := none } else r

/-! ### Teardown (R82) and its notices -/

/-- An active lane is torn down to `goal` (R82). -/
def teardown (l : Fin 3) (goal : LaneState) (keepShow : Bool) (s : State) : State :=
  let r := s.lane l
  let busy := s.store.inProgress (.lane l)
  let st := s.store.withdraw (.lane l)
  let st := if busy then { st with port := st.port.map fun p => { p with orphan := true, releaseReader := r.clip } } else st
  let r' := { r with
    state := goal, title := if goal = .idle then 0 else r.title, clip := none, stallTimer := none, index := [], demand := false
    skipping := false, ring := [], fill := 0, queue := [], onShow := if keepShow then r.onShow else none, ready := false
    header := none, request := none }
  let s := (s.setStore st).setLane l r'
  let s := { s with lanes := { s.lanes with decoding := if s.lanes.decoding = some l then none else s.lanes.decoding } }
  match busy, r.clip with
  | false, some uid => releaseReader uid s
  | _, _ => s

/-- A pending LANE_PLAY reply is handed to the Command Link (R66). -/
def answerPlay (l : Fin 3) (status : Status) (data : List Byte) (s : State) : State :=
  match (s.lane l).pendingTag with
  | some tag => reply 0x40 tag status data (s.setLane l { s.lane l with pendingTag := none })
  | none => s

/-- An active lane goes HELD: torn down, LANE_HELD sent, a pending LANE_PLAY answered (R67, R68, R80, R85; log entry 16 for
the notice before the reply). -/
def laneHeld (l : Fin 3) (cause : HeldCause) (status : Status) (s : State) : State :=
  let s := teardown l .held false s
  let s := s.setLane l { s.lane l with heldCause := some cause }
  answerPlay l status [] (notice 0xE4 [byteOf l.val, byteOf (heldCode (some cause))] s)

/-- The LANE_ENDED notice (R200). -/
def laneEndedNotice (l : Fin 3) (why : Option EndedReason) (s : State) : State :=
  notice 0xE3 [byteOf l.val, byteOf (endedCode why)] s

/-- The store leaves service: every active lane goes HELD with cause STORE, in lane order (R85). -/
def lanesStoreLoss (s : State) : State :=
  [(0 : Fin 3), 1, 2].foldl (fun s l => if (s.lane l).active then laneHeld l .store .storeOffline s else s) s

/-- A lane's clock screen leaves RUNNING: the lane goes IDLE with reason POWER (R86); LANE_ENDED goes to the Link before the
LANE_PLAY reply (the model's choice, log entry 16). -/
def lanePowerStop (l : Fin 3) (s : State) : State :=
  let r := s.lane l
  let s := if r.active then teardown l .idle false s else s.setLane l { r with state := .idle, title := 0, onShow := none }
  let s := s.setLane l { s.lane l with endedReason := some .power }
  answerPlay l .notNow [] (laneEndedNotice l (some .power) s)

/-- A screen leaves RUNNING: every lane paced by it that is not IDLE stops, in lane order (R86). -/
def lanesScreenStop (i : Fin 2) (s : State) : State :=
  [(0 : Fin 3), 1, 2].foldl
    (fun s l => if (s.lane l).clockScreen = i ∧ (s.lane l).state ≠ .idle then lanePowerStop l s else s) s

/-- The lane deals with what has reached its decode position: it skips, unless the decoder has the unit there, gives
priming up when a pass held nothing, and tests for readiness (R68, R73, R75, R79). That a unit which a later pass's read flags
corrupt while the decoder has it is not skipped, but ends as its decode does, is the model's choice (DESIGN CHOICE, log entry 52). -/
def laneAdvance (l : Fin 3) (s : State) : State :=
  let r := if s.lanes.decoding = some l then s.lane l else (s.lane l).skipRun ((s.lane l).ring.length + 1)
  if r.primingFailed then laneHeld l .damaged .damaged (s.setLane l r) else s.setLane l r.readyTest

/-! ### LANE_PLAY (R65, R66) -/

/-- The clip record a LANE_PLAY of a title would play: the live record of the title's clip key (R65, R66); a title whose clip
key has no live record has none (the model's choice, log entry 41). -/
def Catalog.clipOf (c : Catalog) (title : Nat) : Option Asset :=
  match c.liveTitle title with
  | some t => if t.clipKey = 0 then none else c.liveRecord t.clipKey
  | none => none

/-- The lane record of an accepted LANE_PLAY (R66). -/
def primedLane (tag title : Nat) (clock : Fin 2) (ea : EndAction) (loops stall uid : Nat) (runs : List Run) : Lane :=
  let limit := max 500 (min 10000 stall)
  { state := .priming, title := title, clip := some uid, clockScreen := clock, endAction := ea, loops := loops
    stallLimit := limit, stallTimer := some limit, demand := true, pendingTag := some tag
    header := some { rest := runs.drop 1, data := [] } }

/-- The reads of a clip's header and unit index (R67). -/
def headerRuns (a : Asset) : List Run := readRuns (takePages (pagesFor (12 + 10 * a.desc.units)) a.extents)

/-- An accepted LANE_PLAY: the lane is reinitialised, counted as a reader, and its first header read placed (R66, R67). -/
def startLane (l : Fin 3) (tag title : Nat) (clock : Fin 2) (ea : EndAction) (loops stall : Nat) (a : Asset) (s : State) :
    State :=
  let s := takeReader a.uid (s.setLane l (primedLane tag title clock ea loops stall a.uid (headerRuns a)))
  match headerRuns a with
  | r :: _ => s.setStore (s.store.place (.laneHeader l) .lane (.pageRead r))
  | [] => s

def lanePlayOwner (tag lane clockScreen endAction loops title stall : Nat) (s : State) : State :=
  match laneOf lane, screenOf clockScreen, EndAction.ofCode endAction with
  | some l, some clock, some ea =>
    if (s.lane l).active then reply 0x40 tag .busy [] s
    else
      match s.catalog.clipOf title with
      | none => reply 0x40 tag .noSuch [] s
      | some a =>
        if a.damaged then reply 0x40 tag .damaged [] s
        else if !s.running clock then reply 0x40 tag .notNow [] s
        else if !s.store.reads then reply 0x40 tag .storeOffline [] s
        else startLane l tag title clock ea loops stall a s
  | _, _, _ => reply 0x40 tag .badParam [] s

/-! ### Priming: the header and the index (R67, R201) -/

/-- The unit index entry `i` of a clip's first bytes (R201). -/
def unitEntryAt (data : List Byte) (i : Nat) : UnitEntry :=
  let at_ := 12 + 10 * i
  { offset := fieldAt data at_ 4, length := fieldAt data (at_ + 4) 4, isKey := fieldAt data (at_ + 8) 1 == 0
    cue := fieldAt data (at_ + 9) 1, corrupt := false }

/-- The units lie one after another in ascending offset order without overlap (R67). -/
def unitsInOrder : List UnitEntry → Bool
  | a :: b :: rest => a.offset + a.length ≤ b.offset && unitsInOrder (b :: rest)
  | _ => true

/-- The clip header test of R67 against the asset record. -/
def clipHeaderOk (data : List Byte) (d : ClipDesc) : Bool :=
  12 ≤ data.length && fieldAt data 0 1 == 2 && fieldAt data 1 1 == 0 && fieldAt data 10 2 == 0 &&
    (fieldAt data 2 2 == d.width && d.width ≤ 960) && (fieldAt data 4 2 == d.height && d.height ≤ 540) &&
    (1500 ≤ fieldAt data 6 2 && fieldAt data 6 2 ≤ 9000) &&
    (1 ≤ d.units && d.units ≤ 8192 && fieldAt data 8 2 == d.units)

/-- The index test of R67: kinds, lengths, order, the end within the announced length, unit 0 of kind KEY. -/
def clipIndexOk (data : List Byte) (units length : Nat) (ix : List UnitEntry) : Bool :=
  12 + 10 * units ≤ data.length &&
    (List.range units).all (fun i => fieldAt data (12 + 10 * i + 8) 1 ≤ 1) &&
    ix.all (fun e => 1 ≤ e.length && e.length ≤ 262144) && unitsInOrder ix &&
    (match ix.getLast? with | some e => 12 + 10 * units + e.offset + e.length ≤ length | none => false) &&
    (match ix.head? with | some e => e.isKey | none => false)

/-- The lane checks the header and index it has read (R67). -/
def checkHeader (l : Fin 3) (a : Asset) (data : List Byte) (s : State) : State :=
  let ix := (List.range a.desc.units).map (unitEntryAt data)
  if clipHeaderOk data a.desc && clipIndexOk data a.desc.units a.length ix then
    let r := s.lane l
    s.setLane l { r with header := none, index := ix, desc :=
      { width := a.desc.width, height := a.desc.height, period := fieldAt data 6 2, units := a.desc.units } }
  else laneHeld l .damaged .damaged s

/-- A lane's operation that was left to run to its end completes: its UNCORRECTABLE pages are still reported (R82). -/
def orphanReadEnd (p : PortOp) (run : Run) (pages : List PageRead) (s : State) : State :=
  portEnd (match p.releaseReader with | some uid => reportPages uid run pages s | none => s)

/-- A header read of a lane completes (R67). -/
def headerReadEnd (l : Fin 3) (run : Run) (pages : List PageRead) (s : State) : State :=
  match (s.lane l).header, (s.lane l).clip with
  | some h, some uid =>
    let s := portEnd (reportPages uid run pages s)
    if pages.all readable then
      let data := h.data ++ pages.flatMap pageBytes
      match h.rest, s.catalog.record uid with
      | next :: rest, _ =>
        let s := s.setLane l { s.lane l with header := some { rest := rest, data := data } }
        s.setStore (s.store.place (.laneHeader l) .lane (.pageRead next))
      | [], some a => checkHeader l a data s
      | [], none => s
    else laneHeld l .damaged .damaged s
  | _, _ => portEnd s

/-- LANE_HEADER_READ_DONE: the lane's header or index read on the port completes with its pages (R67, R145). -/
def laneHeaderReadDoneStep (l : Fin 3) (pages : List PageRead) (s : State) : State :=
  match s.store.port with
  | some p =>
    match p.op with
    | .pageRead run =>
      if p.purpose = .laneHeader l ∧ pages.length = run.count then
        eraserStep (mountIfWaiting (if p.orphan then orphanReadEnd p run pages s else headerReadEnd l run pages s))
      else s
    | _ => s
  | none => s

/-! ### Reading coded units (R70 to R72) -/

/-- How many units a request takes: whole units in index order while the total is at most 65,536 bytes (R70). -/
def requestCount (total : Nat) : List UnitEntry → Nat
  | [] => 0
  | e :: rest => if total + e.length ≤ 65536 then requestCount (total + e.length) rest + 1 else 0

/-- The units of the next request: at least the one at the read position (R70). -/
def requestUnits (entries : List UnitEntry) : List UnitEntry := entries.take (max 1 (requestCount 0 entries))

/-- A lane may read (R69, R70): active, header checked, demand set, reading not stopped, no request outstanding. -/
def Lane.mayRead (r : Lane) : Bool :=
  r.active && r.header.isNone && !r.index.isEmpty && r.demand && !r.readingStopped && r.request.isNone

/-- The wrap test after a request that takes the last unit of pass `k` (R72). -/
def Lane.wrap (clipLive : Bool) (k : Nat) (r : Lane) : Lane :=
  if r.endAction = .loop ∧ 1 ≤ r.loops ∧ clipLive then
    { r with readPos := ⟨0, hold40 (k + 1)⟩, loops := if r.loops = 255 then 255 else r.loops - 1 }
  else
    { r with
      readPos := ⟨r.desc.units, k⟩, readingStopped := true, finalPass := some k
      endReason := some (if r.endAction = .loop ∧ 1 ≤ r.loops then .retired else .clipEnd) }

/-- LANE_READ_ISSUE: a lane that may read forms its next request and issues it when it fits in the free ring space
(R69, R70, R72). -/
def laneReadIssueStep (l : Fin 3) (s : State) : State :=
  let r := s.lane l
  let us := requestUnits (r.index.drop r.readPos.unit)
  let total := (us.map (·.length)).sum
  match us.head?, us.getLast?, r.clip.bind s.catalog.record with
  | some first, some last, some a =>
    if r.mayRead ∧ r.fill + total ≤ 524287 then
      let base := 12 + 10 * r.desc.units
      let start := base + first.offset
      let stop := base + last.offset + last.length
      let runs := readRuns (takePages (pagesFor stop - start / 4096) (dropPages (start / 4096) a.extents))
      let k := r.readPos.pass
      let claimed := us.zipIdx.map fun p =>
        ({ unit := r.readPos.unit + p.2, pass := k, length := p.1.length, arrived := false, bytes := [] } : RingUnit)
      let r' := { r with
        ring := r.ring ++ claimed
        request := some { start := start, stop := stop, nextPage := start / 4096, rest := runs.drop 1, data := [] } }
      let r' := r'.setFill (r.fill + total)
      let n := r.readPos.unit + us.length
      let r' := if n < r.desc.units then { r' with readPos := ⟨n, k⟩ } else r'.wrap a.inLive k
      let s := s.setLane l r'
      match runs with
      | run :: _ => s.setStore (s.store.place (.laneUnits l) .lane (.pageRead run))
      | [] => s
    else s
  | _, _, _ => s

/-- A unit of the request has a byte in an UNCORRECTABLE page (R71); `pages` are the completed operation's pages, the
first of them page `nextPage` of the asset. -/
def touchesBadPage (base nextPage : Nat) (pages : List PageRead) (e : UnitEntry) : Bool :=
  pages.zipIdx.any fun p =>
    !readable p.1 && base + e.offset < 4096 * (nextPage + p.2 + 1) && 4096 * (nextPage + p.2) < base + e.offset + e.length

/-- The corrupt flags an operation's outcomes set (R71). -/
def Lane.flagCorrupt (q : LaneRequest) (pages : List PageRead) (r : Lane) : Lane :=
  let base := 12 + 10 * r.desc.units
  { r with index := r.index.map fun e =>
      if q.start ≤ base + e.offset && base + e.offset + e.length ≤ q.stop && touchesBadPage base q.nextPage pages e then
        { e with corrupt := true } else e }

/-- The request's units are in the ring (R71). -/
def Lane.arrive (q : LaneRequest) (data : List Byte) (r : Lane) : Lane :=
  let base := 12 + 10 * r.desc.units
  { r with
    request := none
    ring := r.ring.map fun u =>
      if u.arrived then u
      else
        let at_ := base + ((r.index[u.unit]?).map (·.offset)).getD 0 - 4096 * (q.start / 4096)
        { u with arrived := true, bytes := (data.drop at_).take u.length } }

/-- An operation of a lane's read request completes (R70, R71). -/
def unitsReadEnd (l : Fin 3) (run : Run) (pages : List PageRead) (s : State) : State :=
  match (s.lane l).request, (s.lane l).clip with
  | some q, some uid =>
    let s := portEnd (reportPages uid run pages s)
    let r := (s.lane l).flagCorrupt q pages
    let data := q.data ++ pages.flatMap pageBytes
    match q.rest with
    | next :: rest =>
      let q' := { q with nextPage := q.nextPage + run.count, rest := rest, data := data }
      let s := s.setLane l { r with request := some q' }
      laneAdvance l (s.setStore (s.store.place (.laneUnits l) .lane (.pageRead next)))
    | [] => laneAdvance l (s.setLane l (r.arrive q data))
  | _, _ => portEnd s

/-- LANE_READ_DONE: an operation of the lane's read request on the port completes with its pages (R70, R71, R145). -/
def laneReadDoneStep (l : Fin 3) (pages : List PageRead) (s : State) : State :=
  match s.store.port with
  | some p =>
    match p.op with
    | .pageRead run =>
      if p.purpose = .laneUnits l ∧ pages.length = run.count then
        eraserStep (mountIfWaiting (if p.orphan then orphanReadEnd p run pages s else unitsReadEnd l run pages s))
      else s
    | _ => s
  | none => s

/-! ### The clip decoder (R73, R74) -/

/-- A lane is eligible for the clip decoder (R73). -/
def Lane.eligible (r : Lane) : Bool :=
  r.active && !r.skipping && r.queue.length < 4 &&
    match r.headUnit with
    | some u => (match r.index[u.unit]? with | some e => !e.corrupt | none => false)
    | none => false

/-- The lanes in turn, starting with the one after the lane served last (R73). -/
def turnOrder (last : Fin 3) : List (Fin 3) := [last + 1, last + 2, last + 3]

/-- CLIP_DECODE_START: the idle decoder chooses the first eligible lane in turn (R73). -/
def clipDecodeStartStep (s : State) : State :=
  match s.lanes.decoding, (turnOrder s.lanes.lastServed).find? fun l => (s.lane l).eligible with
  | none, some l => { s with lanes := { s.lanes with decoding := some l, lastServed := l } }
  | _, _ => s

/-- The lane record after the decode of its unit `u` (R74, R75): a picture of the clip's size joins the picture queue;
otherwise the unit is counted as skipped and skipping starts. -/
def Lane.decoded (u : RingUnit) (result : Option Picture) (r : Lane) : Lane :=
  match result with
  | some p =>
    if p.width = r.desc.width ∧ p.height = r.desc.height then
      let cue := ((r.index[u.unit]?).map (·.cue)).getD 0
      let shown : LanePicture :=
        { unit := u.unit, pass := u.pass, time := displayTime r.desc ⟨u.unit, u.pass⟩, cue := cue, picture := p }
      { r with queue := r.queue ++ [shown] }.consume u
    else ({ r with skipping := true }.consume u).countSkip
  | none => ({ r with skipping := true }.consume u).countSkip

/-- CLIP_DECODE_DONE: the decoder finishes the unit of the lane it serves (R74, R75). -/
def clipDecodeDoneStep (result : Option Picture) (s : State) : State :=
  match s.lanes.decoding with
  | none => s
  | some l =>
    let s := { s with lanes := { s.lanes with decoding := none } }
    match (s.lane l).headUnit with
    | some u => eraserStep (laneAdvance l (s.setLane l ((s.lane l).decoded u result)))
    | none => s

/-! ### VBLANKs of the clock screen (R68, R77 to R79, R81) -/

/-- The CUE notice of a picture that leaves the queue at a VBLANK (R78, R200). -/
def cueNotice (l : Fin 3) (passed : Bool) (p : LanePicture) (s : State) : State :=
  if p.cue = 0 then s
  else notice 0xE2 ([byteOf l.val, byteOf p.cue, flagByte passed] ++ beBytes 5 p.pass ++ beBytes 6 p.time) s

/-- A primed lane enters PLAYING with its first queued picture (R68). -/
def enterPlaying (l : Fin 3) (s : State) : State :=
  let r := s.lane l
  match r.queue with
  | p :: rest =>
    let s := s.setLane l { r with state := .playing, clock := p.time, onShow := some p, queue := rest, ready := false }
    let data := beBytes 2 r.desc.width ++ beBytes 2 r.desc.height ++ beBytes 2 r.desc.period ++ beBytes 2 r.desc.units
    answerPlay l .ok data (cueNotice l false p s)
  | [] => s

/-- The end of a clip: LANE_ENDED, then the end action (R81). -/
def clipEnd (l : Fin 3) (s : State) : State :=
  let r := s.lane l
  let s := laneEndedNotice l r.endReason (s.setLane l { r with endedReason := r.endReason })
  match r.endAction with
  | .freeze => teardown l .ended true s
  | .loop => teardown l .ended true (s.setLane l { s.lane l with endAction := .freeze })
  | .poster => teardown l .ended false s
  | .clear => teardown l .idle false s

/-- The due picture is missing at the tentative clock: the due unit is the one at the decode position when no picture is
queued (R76, R77 step 2). -/
def Lane.starves (tentative : Nat) (r : Lane) : Bool :=
  r.queue.isEmpty && !r.pastEnd && displayTime r.desc r.decodePos ≤ tentative

/-- The clip has ended (R77 step 4). -/
def Lane.atEnd (r : Lane) : Bool := r.queue.isEmpty && r.pastEnd && r.endTime ≤ r.clock

/-- A VBLANK's work of a PLAYING lane with frame period `f` (R77). -/
def playStep (f : Nat) (l : Fin 3) (s : State) : State :=
  let r := s.lane l
  let tentative := hold48 (r.clock + f)
  if r.starves tentative then
    s.setLane l { r with state := .starved, stallTimer := some r.stallLimit }.readyTest
  else
    let due := r.queue.takeWhile fun p => p.time ≤ tentative
    let r' := { r with
      clock := tentative
      onShow := match due.getLast? with | some p => some p | none => r.onShow
      queue := r.queue.drop due.length }
    let s := s.setLane l r'
    let s := due.dropLast.foldl (fun s p => cueNotice l true p s) s
    let s := match due.getLast? with | some p => cueNotice l false p s | none => s
    if r'.atEnd then clipEnd l s else s

/-- The work of one lane at a VBLANK of its clock screen (R68, R77, R79). -/
def laneVblank (f : Nat) (l : Fin 3) (s : State) : State :=
  let r := s.lane l
  match r.state with
  | .playing => playStep f l s
  | .priming => if r.ready then enterPlaying l s else s
  | .starved => if r.ready then playStep f l (s.setLane l { r with state := .playing, ready := false }) else s
  | _ => s

/-- A VBLANK handed to the Lane Engine: every lane whose clock screen this is acts (R77, R97), in lane order (the model's
choice, log entry 16). -/
def lanesVblank (i : Fin 2) (s : State) : State :=
  let f := framePeriod (s.screen i).active.rate
  [(0 : Fin 3), 1, 2].foldl (fun s l => if (s.lane l).clockScreen = i then laneVblank f l s else s) s

/-! ### The stall timer and the requests (R80, R83, R84) -/

/-- STALL_TIMER_EXPIRY: a PRIMING or STARVED lane goes HELD with cause STALL (R68, R80). -/
def stallTimerExpiryStep (l : Fin 3) (s : State) : State :=
  if (s.lane l).stallTimer.isSome ∧ (s.lane l).active then eraserStep (laneHeld l .stall .stalled s) else s

def laneStopOwner (tag lane : Nat) (s : State) : State :=
  match laneOf lane with
  | some l =>
    let r := s.lane l
    let s :=
      if r.active then answerPlay l .stopped [] (teardown l .idle false s)
      else if r.state = .idle then s
      else s.setLane l { r with state := .idle, title := 0, onShow := none }
    eraserStep (reply 0x41 tag .ok [] s)
  | none => reply 0x41 tag .badParam [] s

/-- LANE_STATUS's data (R84). -/
def Lane.info (r : Lane) : List Byte :=
  [byteOf r.state.code] ++ beBytes 2 r.title ++ [byteOf r.clockScreen.val, byteOf r.endAction.code, byteOf r.loops] ++
    beBytes 6 r.clock ++ beBytes 4 r.fill ++ [byteOf r.queue.length] ++ beOption 6 (r.onShow.map (·.time)) ++
    beBytes 2 r.skipped ++ [byteOf (heldCode r.heldCause), byteOf (endedCode r.endedReason)]

def laneStatusOwner (tag lane : Nat) (s : State) : State :=
  match laneOf lane with
  | some l => reply 0x42 tag .ok (s.lane l).info s
  | none => reply 0x42 tag .badParam [] s

end Sys2Proof.Machine
end

