-- ==== Sys2Proof/Machine/Plans.lean ====
section
/-!
DEFINITION. The Plan Unit (R1 to R24): wall geometry, the edit requests, PRESENT and the take, SCROLL and FOCUS, and the
work at the start of each pass.
-/

namespace Sys2Proof.Machine

/-! ### Wall geometry (R2) -/

def Wall.cellW (w : Wall) : Nat := (w.rect.w - (w.columns - 1) * w.gap) / w.columns
def Wall.cellH (w : Wall) : Nat := (w.rect.h - (w.rows - 1) * w.gap) / w.rows
def Wall.pitch (w : Wall) : Nat := w.cellH + w.gap
def Wall.viewW (w : Wall) : Nat := w.columns * w.cellW + (w.columns - 1) * w.gap
def Wall.viewH (w : Wall) : Nat := w.rows * w.cellH + (w.rows - 1) * w.gap
def Wall.rowsTotal (w : Wall) : Nat := (w.titles.length + w.columns - 1) / w.columns
def Wall.contentH (w : Wall) : Nat := if w.titles = [] then 0 else w.rowsTotal * w.pitch - w.gap
def Wall.scrollMax (w : Wall) : Nat := w.contentH - w.viewH

/-- The scroll maximum of a plan's wall; 0 without a wall (R2). -/
def scrollMaxOf : Option Wall → Nat
  | some w => w.scrollMax
  | none => 0

/-- The cell count of a plan's wall for the budget of R9. -/
def cellCount : Option Wall → Nat
  | some w => w.columns * (w.rows + 1)
  | none => 0

/-! ### Edit requests (R3 to R8) -/

/-- The common checks of the edit requests, then the request's own rule on the pending plan (R3). -/
def editPlan (kind tag screen : Nat) (rule : Plan → Except Status Plan) (s : State) : State :=
  match screenOf screen with
  | none => reply kind tag .badParam [] s
  | some i =>
    let p := s.plan i
    if p.sealMark.isSome then reply kind tag .sealed [] s
    else
      match rule p.pending with
      | .error st => reply kind tag st [] s
      | .ok plan => reply kind tag .ok [] (s.setPlan i { p with pending := plan })

/-- PLAN_BACKDROP's rule (R4). -/
def backdropRule (c : Rgb) (p : Plan) : Except Status Plan := .ok { p with backdrop := c }

/-- PLAN_WALL's rule (R4). -/
def wallRule (presence : Nat) (rect : Rect) (columns rows gap border : Nat) (focus : Rgb) (p : Plan) : Except Status Plan :=
  if presence = 0 then .ok { p with wall := none }
  else if presence = 1 then
    let w : Wall := { rect := rect, columns := columns, rows := rows, gap := gap, border := border, focusColour := focus
                      titles := (p.wall.map (·.titles)).getD [] }
    if 1 ≤ columns ∧ columns ≤ 8 ∧ 1 ≤ rows ∧ rows ≤ 6 ∧ gap ≤ 32 ∧ 2 ≤ border ∧ border ≤ 8 ∧ 1 ≤ rect.w ∧ 1 ≤ rect.h ∧
        16 ≤ w.cellW ∧ 16 ≤ w.cellH then .ok { p with wall := some w }
    else .error .badParam
  else .error .badParam

/-- PLAN_TITLES' rule (R5; log entry 17 for the order of its refusals). -/
def titlesRule (start removeCount : Nat) (titles : List Nat) (p : Plan) : Except Status Plan :=
  if 0 ∈ titles then .error .badParam
  else
    match p.wall with
    | none => .error .noSuch
    | some w =>
      let n := w.titles.length
      if start ≤ n ∧ start + removeCount ≤ n ∧ n - removeCount + titles.length ≤ 512 then
        let list := w.titles.take start ++ titles ++ w.titles.drop (start + removeCount)
        .ok { p with wall := some { w with titles := list } }
      else .error .badParam

/-- The alignment a code names (R196). -/
def Alignment.ofCode : Nat → Option Alignment
  | 0 => some .left
  | 1 => some .center
  | 2 => some .right
  | _ => none

/-- PLAN_ITEM's rule (R6). -/
def itemRule (index : Nat) (rect : Rect) (normal lit : Fill) (text : Rgb) (alignment scale : Nat) (glyphs : List Byte)
    (p : Plan) : Except Status Plan :=
  match Alignment.ofCode alignment with
  | some a =>
    if index < 48 ∧ 1 ≤ rect.w ∧ 1 ≤ rect.h ∧ (scale = 1 ∨ scale = 2) ∧ glyphs.length ≤ 48 then
      let item : Item :=
        { rect := rect, normal := normal, lit := lit, text := text, glyphs := glyphs, alignment := a, scale := scale }
      .ok { p with items := p.items.set index (some item) }
    else .error .badParam
  | none => .error .badParam

/-- PLAN_ITEM_CLEAR's rule (R6). -/
def itemClearRule (index : Nat) (p : Plan) : Except Status Plan :=
  if index < 48 then .ok { p with items := p.items.set index none } else .error .badParam

/-- PLAN_WINDOW's rule (R7); the code of NONE is FFh (R196). -/
def windowRule (window lane : Nat) (rect : Rect) (p : Plan) : Except Status Plan :=
  if h : window < 3 then
    let i : Fin 3 := ⟨window, h⟩
    if lane = 0xFF then .ok { p with windows := p.windows.set i none }
    else
      match laneOf lane with
      | some l =>
        if 1 ≤ rect.w ∧ 1 ≤ rect.h then .ok { p with windows := p.windows.set i (some { lane := l, rect := rect }) }
        else .error .badParam
      | none => .error .badParam
  else .error .badParam

def planBackdropOwner (tag screen : Nat) (c : Rgb) (s : State) : State := editPlan 0x30 tag screen (backdropRule c) s

def planWallOwner (tag screen presence : Nat) (rect : Rect) (columns rows gap border : Nat) (focus : Rgb) (s : State) :
    State := editPlan 0x31 tag screen (wallRule presence rect columns rows gap border focus) s

def planTitlesOwner (tag screen start removeCount : Nat) (titles : List Nat) (s : State) : State :=
  editPlan 0x32 tag screen (titlesRule start removeCount titles) s

def planItemOwner (tag screen index : Nat) (rect : Rect) (normal lit : Fill) (text : Rgb) (alignment scale : Nat)
    (glyphs : List Byte) (s : State) : State :=
  editPlan 0x33 tag screen (itemRule index rect normal lit text alignment scale glyphs) s

def planItemClearOwner (tag screen index : Nat) (s : State) : State := editPlan 0x34 tag screen (itemClearRule index) s

def planWindowOwner (tag screen window lane : Nat) (rect : Rect) (s : State) : State :=
  editPlan 0x35 tag screen (windowRule window lane rect) s

/-- PLAN_REVERT: the pending plan becomes a copy of the live plan (R8). -/
def planRevertOwner (tag screen : Nat) (s : State) : State :=
  match screenOf screen with
  | some i => editPlan 0x36 tag screen (fun _ => .ok (s.plan i).live) s
  | none => editPlan 0x36 tag screen (fun p => .ok p) s

/-! ### PRESENT, SCROLL and FOCUS (R9, R14, R15) -/

/-- A FADE's length: clamped to 2..64, an odd result rounded up (R9). -/
def fadeLength (n : Nat) : Nat := max 2 (min 64 n) + max 2 (min 64 n) % 2

/-- The sum the cell budget of R9 bounds by 80. -/
def budgetSum (own other : PlanScreen) : Nat :=
  cellCount own.pending.wall +
    max (cellCount other.live.wall) (if other.sealMark.isSome then cellCount other.pending.wall else 0)

/-- PRESENT (R9): a CUT's length is recorded as it was sent. -/
def presentOwner (tag screen kind length : Nat) (s : State) : State :=
  match screenOf screen with
  | none => reply 0x37 tag .badParam [] s
  | some i =>
    let p := s.plan i
    if 2 ≤ kind then reply 0x37 tag .badParam [] s
    else if p.sealMark.isSome then reply 0x37 tag .pending [] s
    else if !s.running i then reply 0x37 tag .notNow [] s
    else if 80 < budgetSum p (s.plan (otherScreen i)) then reply 0x37 tag .badParam [] s
    else
      let m : Seal := if kind = 0 then { kind := .cut, length := length, tag := tag }
        else { kind := .fade, length := fadeLength length, tag := tag }
      s.setPlan i { p with sealMark := some m }

/-- SCROLL (R14): the target and the speed are clamped, and the reply gives the clamped target and the maximum. -/
def scrollOwner (tag screen speed target : Nat) (s : State) : State :=
  match screenOf screen with
  | none => reply 0x38 tag .badParam [] s
  | some i =>
    let p := s.plan i
    match p.live.wall with
    | none => reply 0x38 tag .noSuch [] s
    | some w =>
      let t := min target w.scrollMax
      reply 0x38 tag .ok (beBytes 4 t ++ beBytes 4 w.scrollMax)
        (s.setPlan i { p with scroll := { p.scroll with target := t, speed := max 1 (min 64 speed) } })

/-- The focus a FOCUS request names, where its kind and index are in range (R15). -/
def focusOf (kind index : Nat) : Option Focus :=
  if kind = 0 then some .none
  else if kind = 1 ∧ index < 512 then some (.wall index)
  else if kind = 2 ∧ index < 48 then some (.item index)
  else none

def focusOwner (tag screen kind index : Nat) (s : State) : State :=
  match screenOf screen, focusOf kind index with
  | some i, some f => reply 0x39 tag .ok [] (s.setPlan i { s.plan i with focus := f })
  | _, _ => reply 0x39 tag .badParam [] s

/-! ### The transition step and the take (R11, R12) -/

/-- The fade level at step `k` of a FADE of length `n` (R11). -/
def fadeLevel (n k : Nat) : Nat :=
  let half := n / 2
  if k < half then 255 * k / half
  else if k = half then 255
  else if k < n then 255 - 255 * (k - half) / half
  else 0

/-- The scroll record after a take (R12). -/
def takeScroll (old new : Option Wall) (r : ScrollRec) : ScrollRec :=
  if old.isSome ≠ new.isSome then { r with position := 0, target := 0, down := true }
  else { r with position := min r.position (scrollMaxOf new), target := min r.target (scrollMaxOf new) }

/-- The cell records kept at a take (R12). -/
def takeCells (old new : Option Wall) (cells : List Cell) : List Cell :=
  match old, new with
  | some a, some b =>
    if a.rect = b.rect ∧ a.columns = b.columns ∧ a.rows = b.rows ∧ a.gap = b.gap then
      cells.filter fun c => c.index < b.titles.length && a.titles[c.index]? == b.titles[c.index]?
    else []
  | none, none => cells
  | _, _ => []

/-- A take (R12): the sealed pending plan becomes the live plan, the PRESENT is answered OK, and the screen's records are
brought into line. -/
def take (i : Fin 2) (s : State) : State :=
  let p := s.plan i
  match p.sealMark with
  | none => s
  | some m =>
    reply 0x37 m.tag .ok []
      (s.setPlan i { p with
        live := p.pending
        sealMark := none
        scroll := takeScroll p.live.wall p.pending.wall p.scroll
        cells := takeCells p.live.wall p.pending.wall p.cells })

/-- The transition step of a pass start (R11). -/
def transitionStep (i : Fin 2) (s : State) : State :=
  let p := s.plan i
  let t := p.transition
  if t.fading then
    let k := t.step + 1
    let s' := s.setPlan i { p with transition :=
      { t with step := k, level := fadeLevel t.length k, fading := k < t.length } }
    if k = t.length / 2 then take i s' else s'
  else
    match p.sealMark with
    | none => s.setPlan i { p with transition := { t with level := 0 } }
    | some m =>
      match m.kind with
      | .cut => take i (s.setPlan i { p with transition := { t with level := 0 } })
      | .fade =>
        let s' := s.setPlan i { p with transition :=
          { fading := true, length := m.length, step := 1, level := fadeLevel m.length 1 } }
        if m.length / 2 = 1 then take i s' else s'

/-! ### The scroll advance (R13) -/

/-- The position moves toward the target by the speed and stops exactly on it (R13). -/
def ScrollRec.advance (r : ScrollRec) : ScrollRec :=
  if r.position < r.target then { r with position := min r.target (r.position + r.speed), down := true }
  else if r.target < r.position then { r with position := max r.target (r.position - r.speed), down := false }
  else r

def scrollAdvance (i : Fin 2) (s : State) : State :=
  let p := s.plan i
  match p.live.wall with
  | some _ => s.setPlan i { p with scroll := p.scroll.advance }
  | none => s

/-! ### Resolution (R16 to R18) -/

/-- The first and the last visible row, where there is one (R16). -/
def Wall.visibleRows (w : Wall) (p : Nat) : Option (Nat × Nat) :=
  if w.titles = [] then none
  else some (p / w.pitch, min (w.rowsTotal - 1) ((p + w.viewH - 1) / w.pitch))

/-- The visible indexes (R16). -/
def visibleIndexes (wall : Option Wall) (p : Nat) : List Nat :=
  match wall with
  | some w =>
    match w.visibleRows p with
    | some (first, last) => List.range' (first * w.columns) ((last + 1 - first) * w.columns)
    | none => []
  | none => []

/-- The still identity and the tint of a title in the live generation (R17, R18; log entry 18 for a key without a record). -/
def Catalog.stillOf (c : Catalog) (title : Nat) : Option (Ident × Rgb) :=
  match c.liveTitle title with
  | some t =>
    if t.stillKey = 0 then none
    else (c.liveRecord t.stillKey).map fun a => (⟨t.stillKey, a.check⟩, t.tint)
  | none => none

/-- The title list entry at an index (R16). -/
def titleAt (wall : Option Wall) (index : Nat) : Option Nat := wall.bind fun w => w.titles[index]?

/-- The resolution of an index: its title, identity and tint (R17). -/
def resolve (c : Catalog) (wall : Option Wall) (index : Nat) : Option Nat × Option (Ident × Rgb) :=
  (titleAt wall index, (titleAt wall index).bind c.stillOf)

/-- A record newly made (R16, R17, R21). -/
def newCell (c : Catalog) (wall : Option Wall) (index : Nat) : Cell :=
  let r := resolve c wall index
  { index := index, title := r.1, ident := r.2.map (·.1), tint := (r.2.map (·.2)).getD Rgb.black
    appearance := if r.2.isSome then .waiting else .empty, pinned := false }

/-- A record resolved again after a switch: a record that resolves to its previous identity keeps its appearance (R22). -/
def resolveAgain (c : Catalog) (wall : Option Wall) (cell : Cell) : Cell :=
  let fresh := newCell c wall cell.index
  if fresh.ident = cell.ident then { fresh with appearance := cell.appearance, pinned := cell.pinned }
  else { fresh with pinned := cell.pinned }

/-- EMPTY, BROKEN or neither for this pass (R17, R21). -/
def State.judgeCell (s : State) (cell : Cell) : Cell :=
  match cell.ident with
  | none => { cell with appearance := .empty }
  | some i =>
    if s.barred i then { cell with appearance := .broken }
    else if cell.appearance = .broken ∨ cell.appearance = .empty then { cell with appearance := .waiting }
    else cell

/-- The screen's cell records of this pass (R16, R17, R22). -/
def State.passCells (s : State) (i : Fin 2) : List Cell :=
  let p := s.plan i
  (visibleIndexes p.live.wall p.scroll.position).map fun index =>
    s.judgeCell (match p.cells.find? (·.index == index) with
      | some c => if p.reResolve then resolveAgain s.catalog p.live.wall c else c
      | none => newCell s.catalog p.live.wall index)

/-- The lane's windows show its title's poster (R18). -/
def Lane.needsPoster (r : Lane) : Bool := r.state == .held || (r.state == .ended && r.endAction == .poster)

/-- The poster record of a present lane window (R18). -/
def State.posterFor (s : State) (w : Window) : Poster :=
  let r := s.lane w.lane
  match r.needsPoster, s.catalog.stillOf r.title with
  | true, some (i, tint) => { ident := some i, usable := !s.barred i, tint := some tint, pinned := false }
  | _, _ => { ident := none, usable := false, tint := none, pinned := false }

/-! ### Pins, wanted sets and offers (R19, R20) -/

/-- The cells that are neither EMPTY nor BROKEN, with their identities. -/
def wantingCells (cells : List Cell) : List (Nat × Ident) :=
  cells.filterMap fun c =>
    match c.appearance, c.ident with
    | .empty, _ => none
    | .broken, _ => none
    | _, some i => some (c.index, i)
    | _, none => none

/-- The identity a poster record wants (R19, R20). -/
def Poster.wants : Option Poster → Option Ident
  | some p => if p.usable then p.ident else none
  | none => none

def posterWants (ps : Three (Option Poster)) : List (Fin 3 × Ident) :=
  [(0 : Fin 3), 1, 2].filterMap fun w => (Poster.wants (ps.get w)).map fun i => (w, i)

/-- The screen's places and the identities they show (R19, R20). -/
def shownPlaces (i : Fin 2) (cells : List Cell) (posters : Three (Option Poster)) : List (Place × Ident) :=
  (wantingCells cells).map (fun c => (Place.cell i c.1, c.2)) ++
    (posterWants posters).map fun w => (Place.poster i w.1, w.2)

def Place.screen : Place → Fin 2
  | .cell i _ => i
  | .poster i _ => i

/-- The pin adjustment of a pass start: the screen's new pin set against its pins (R19; log entry 33). -/
def StillCache.adjustScreen (i : Fin 2) (places : List (Place × Ident)) (c : StillCache) : StillCache :=
  let held := places.filter fun p => (c.slotOf p.2).isSome
  let gone := (c.pins.filter fun pin => pin.place.screen = i ∧
    !(held.any fun p => p.1 == pin.place && c.slotOf p.2 == some pin.slot)).map (·.place)
  let new := held.filter fun p => c.pinOf p.1 != c.slotOf p.2
  c.adjust gone new

/-- The members of a list, each once, in the order of their first places. -/
def distinct (l : List Ident) : List Ident := l.foldl (fun acc i => if i ∈ acc then acc else acc ++ [i]) []

/-- The two rows beyond the view in the last direction, the nearer first, counting only rows that exist (R20). -/
def prefetchRows (w : Wall) (down : Bool) (first last : Nat) : List Nat :=
  if down then [last + 1, last + 2].filter (· < w.rowsTotal)
  else ((if 1 ≤ first then [first - 1] else []) ++ (if 2 ≤ first then [first - 2] else [])).filter (· < w.rowsTotal)

/-- The wanted PREFETCH set in offer order (R20). -/
def State.wantedPrefetch (s : State) (i : Fin 2) : List Ident :=
  let p := s.plan i
  match p.live.wall with
  | none => []
  | some w =>
    match w.visibleRows p.scroll.position with
    | none => []
    | some (first, last) =>
      distinct ((prefetchRows w p.scroll.down first last).flatMap fun row =>
        (List.range' (row * w.columns) w.columns).filterMap fun index =>
          match (resolve s.catalog p.live.wall index).2 with
          | some (ident, _) => if s.barred ident then none else some ident
          | none => none)

/-- Withdrawals, VISIBLE offers and PREFETCH offers of a pass start (R20). R51 examines the head of the queue after each of
them; that all of them are handled before any head is taken is the model's choice (DESIGN CHOICE, log entry 48). -/
def fetchOffers (i : Fin 2) (s : State) : State :=
  let p := s.plan i
  let o := s.plan (otherScreen i)
  let c := s.cache.withdrawUnwanted (p.wantedVisible ++ p.wantedPrefetch ++ o.wantedVisible ++ o.wantedPrefetch)
  let c := p.wantedVisible.foldl (fun (c : StillCache) ident => c.offerVisible (s.barred ident) ident) c
  let near := p.wantedPrefetch.filter fun ident => ident ∉ p.wantedVisible ∧ ident ∉ o.wantedVisible
  s.setCache (near.foldl (fun (c : StillCache) ident => c.offerPrefetch (s.barred ident) ident) c)

/-- The resolution step (R16 to R20). -/
def resolutionStep (i : Fin 2) (s : State) : State :=
  let p := s.plan i
  let cells := s.passCells i
  let posters : Three (Option Poster) :=
    ⟨p.live.windows.e0.map s.posterFor, p.live.windows.e1.map s.posterFor, p.live.windows.e2.map s.posterFor⟩
  let places := shownPlaces i cells posters
  let cache := s.cache.adjustScreen i places
  let pinned := fun (place : Place) => (cache.pinOf place).isSome
  let p' := { p with
    cells := cells.map fun c => { c with pinned := pinned (.cell i c.index) }
    posters :=
      ⟨posters.e0.map fun q => { q with pinned := pinned (.poster i 0) },
        posters.e1.map fun q => { q with pinned := pinned (.poster i 1) },
        posters.e2.map fun q => { q with pinned := pinned (.poster i 2) }⟩
    wantedVisible := distinct (places.map (·.2))
    wantedPrefetch := s.wantedPrefetch i
    reResolve := false }
  fetchOffers i ((s.setPlan i p').setCache cache)

/-! ### The appearance step (R21) -/

/-- The state of the slot that holds an identity, where one does. -/
def StillCache.stateOf (c : StillCache) (i : Ident) : Option SlotState := (c.slotOf i).map fun k => (c.slot k).state

/-- A cell's appearance for the pass (R21); a FADING or SHOWN cell without a RESIDENT slot does not arise (log entry 28). -/
def nextAppearance (resident : Bool) : Appearance → Appearance
  | .empty => .empty
  | .broken => .broken
  | .waiting => if resident then .fading 1 else .waiting
  | .fading k => if resident then (if k < 7 then .fading (k + 1) else .shown) else .waiting
  | .shown => if resident then .shown else .waiting

def appearanceStep (i : Fin 2) (s : State) : State :=
  let p := s.plan i
  s.setPlan i { p with cells := p.cells.map fun c =>
    { c with appearance := nextAppearance (c.ident.bind s.cache.stateOf == some .resident) c.appearance } }

/-- The Plan Unit's work at a pass start, in its four steps (R10). -/
def passStartWork (i : Fin 2) (s : State) : State :=
  appearanceStep i (resolutionStep i (scrollAdvance i (transitionStep i s)))

/-! ### Reactions (R22, R23) -/

/-- A switch of the live generation: each screen's re-resolve mark is set (R22). -/
def plansOnSwitch (s : State) : State :=
  { s with plans := ⟨{ s.plans.s0 with reResolve := true }, { s.plans.s1 with reResolve := true }⟩ }

/-- A screen leaves RUNNING (R23). -/
def planLeaveRunning (i : Fin 2) (s : State) : State :=
  let p := s.plan i
  let s := match p.sealMark with
    | some m => reply 0x37 m.tag .notNow [] s
    | none => s
  let o := s.plan (otherScreen i)
  let s := s.setPlan i { p with
    transition := { p.transition with fading := false, level := 0 }
    sealMark := none, cells := [], posters := ⟨none, none, none⟩, wantedVisible := [], wantedPrefetch := [] }
  s.setCache ((s.cache.adjustScreen i []).withdrawUnwanted (o.wantedVisible ++ o.wantedPrefetch))

end Sys2Proof.Machine
end

