-- ==== Sys2Proof/Machine/Compositor.lean ====
section
/-!
DEFINITION. The Compositor (R25 to R42): the snapshot of a pass, the drawing a finished pass leaves in the back buffer, and
the value of each of its pixels.
-/

namespace Sys2Proof.Machine

/-! ### Rects (R28) -/

/-- A rect covers a pixel. -/
def rectHas (r : Rect) (x y : Int) : Bool := r.x ≤ x && x < r.x + r.w && r.y ≤ y && y < r.y + r.h

/-- The intersection of two rects (R28). -/
def rectMeet (a b : Rect) : Rect :=
  let x := max a.x b.x
  let y := max a.y b.y
  ⟨x, y, (min (a.x + a.w) (b.x + b.w) - x).toNat, (min (a.y + a.h) (b.y + b.h) - y).toNat⟩

/-- The screen's own rect. -/
def Timing.rect (t : Timing) : Rect := ⟨0, 0, t.width, t.height⟩

/-- The wall view (R2, R31). -/
def Wall.view (w : Wall) : Rect := ⟨w.rect.x, w.rect.y, w.viewW, w.viewH⟩

/-- The place of the cell of an index at a scroll position (R31). -/
def Wall.cellRect (w : Wall) (p index : Nat) : Rect :=
  ⟨w.rect.x + ((index % w.columns) * (w.cellW + w.gap) : Nat),
    w.rect.y + ((index / w.columns) * w.pitch : Nat) - (p : Int), w.cellW, w.cellH⟩

/-! ### Scaling and blending (R29, R30, R40, R41) -/

/-- The source column or row that a destination column or row takes: `ws` source and `wd` destination pixels (R29). -/
def sampleAt (ws wd d : Nat) : Nat := (2 * d + 1) * ws / (2 * wd)

/-- A source value drawn with an alpha over a destination value (R30). -/
def blend (s a d : Nat) : Nat := (s * a + d * (255 - a) + 127) / 255

/-- A source colour drawn with an alpha over a destination colour (R30). -/
def blendRgb (s : Rgb) (a : Nat) (d : Rgb) : Rgb := ⟨blend s.r a d.r, blend s.g a d.g, blend s.b a d.b⟩

/-- The pixel of a picture at a column and a row; black outside it. -/
def pixelAt (p : Picture) (x y : Nat) : Rgb := p.pixels.getD (y * p.width + x) Rgb.black

/-- One channel of the fade plane (R40). -/
def fadeChannel (f c : Nat) : Nat := (c * (255 - f) + 127) / 255

def fadeRgb (f : Nat) (c : Rgb) : Rgb := ⟨fadeChannel f c.r, fadeChannel f c.g, fadeChannel f c.b⟩

/-- A value clamped to 0..255 (R41). -/
def clamp255 (v : Int) : Nat := (max 0 (min 255 v)).toNat

/-- One output channel of the colour matrix: its row of coefficients and its offset on an input (R41). -/
def matrixChannel (mr mg mb offset : Int) (c : Rgb) : Nat :=
  clamp255 ((mr * c.r + mg * c.g + mb * c.b + 512) / 1024 + offset)

/-- The colour matrix on a pixel (R41). -/
def Matrix.apply (m : Matrix) (c : Rgb) : Rgb :=
  let row := fun j : Nat =>
    matrixChannel (m.coeffs.getD (3 * j) 0) (m.coeffs.getD (3 * j + 1) 0) (m.coeffs.getD (3 * j + 2) 0) (m.offsets.getD j 0) c
  ⟨row 0, row 1, row 2⟩

/-! ### The value of a pixel (R27) -/

/-- The coverage of a glyph of 16 × 24 pixels at a screen pixel, none outside it (R33, R38). -/
def coverageAt (left top : Int) (scale : Nat) (coverage : List Byte) (x y : Int) : Option Nat :=
  if rectHas ⟨left, top, 16 * scale, 24 * scale⟩ x y then
    some (coverage.getD ((y - top).toNat / scale * 16 + (x - left).toNat / scale) 0).toNat
  else none

/-- The distance of a pixel of a rect from the rect's nearest edge (R34). -/
def edgeDistance (r : Rect) (x y : Int) : Int :=
  min (min (x - r.x) (r.x + r.w - 1 - x)) (min (y - r.y) (r.y + r.h - 1 - y))

/-- What one drawing operation makes of a pixel (R28 to R30, R33, R34, R38, R39). -/
def DrawOp.draw (x y : Int) (d : Rgb) : DrawOp → Rgb
  | .fill rect clip colour alpha => if rectHas rect x y && rectHas clip x y then blendRgb colour alpha d else d
  | .picture rect clip p alpha =>
    if rectHas rect x y && rectHas clip x y then
      let sx := sampleAt p.width rect.w (x - rect.x).toNat
      let sy := sampleAt p.height rect.h (y - rect.y).toNat
      blendRgb (pixelAt p sx sy) alpha d
    else d
  | .border rect clip width colour =>
    if rectHas rect x y && rectHas clip x y && edgeDistance rect x y < width then colour else d
  | .glyph left top scale clip colour coverage =>
    match coverageAt left top scale coverage x y with
    | some c => if rectHas clip x y then blendRgb colour (17 * c) d else d
    | none => d

/-- The pixel of a finished pass: the layers in order, the fade plane, the colour matrix (R27). -/
def Drawing.pixel (g : Drawing) (x y : Nat) : Rgb :=
  g.matrix.apply (fadeRgb g.fade (g.ops.foldl (fun d op => op.draw x y d) g.backdrop))

/-- A colour of 24 bits. -/
def rgbOfBits (b : BitVec 24) : Rgb := ⟨b.toNat / 65536, b.toNat / 256 % 256, b.toNat % 256⟩

/-- The pixel of a frame buffer; unspecified content is a free value (log entry 9). -/
def FrameBuffer.pixel (screen : Fin 2) (second : Bool) (x y : Nat) : FrameBuffer → Rgb
  | .unspecified time => rgbOfBits (Config.unspecifiedPixel screen second time x y)
  | .black => Rgb.black
  | .drawn g => g.pixel x y

/-- The pixel the panel of a screen is sent: that of its front buffer (R96). -/
def State.frontPixel (s : State) (i : Fin 2) (x y : Nat) : Rgb :=
  ((s.screen i).buffers.get (if (s.screen i).front1 then 1 else 0)).pixel i (s.screen i).front1 x y

/-! ### The snapshot (R25) -/

/-- A visible-cell record in the snapshot (R25). -/
def cellShot (c : StillCache) (cell : Cell) : CellShot :=
  let drawsSlot := match cell.appearance with | .fading _ => true | .shown => true | _ => false
  { index := cell.index, appearance := cell.appearance
    slot := if drawsSlot then cell.ident.bind c.slotOf else none, tint := cell.tint }

/-- A poster record in the snapshot (R25): the slot that holds its identity RESIDENT, else the tint, else black; a failed
or DAMAGED identity shows the tint (R18, R36). -/
def posterShot (c : StillCache) (p : Option Poster) : PosterShot :=
  match p with
  | none => .black
  | some q =>
    match (Poster.wants (some q)).bind c.slotOf with
    | some k => if (c.slot k).state = .resident then .slot k else (q.tint.map PosterShot.tint).getD .black
    | none => (q.tint.map PosterShot.tint).getD .black

/-- The snapshot of a screen as it stands (R25). -/
def State.snapshot (s : State) (i : Fin 2) : Snapshot :=
  let p := s.plan i
  { plan := p.live, position := p.scroll.position, cells := p.cells.map (cellShot s.cache)
    posters := ⟨posterShot s.cache p.posters.e0, posterShot s.cache p.posters.e1, posterShot s.cache p.posters.e2⟩
    focus := p.focus, fade := p.transition.level, matrix := (s.compScreen i).matrix }

/-- The Compositor opens a pass context for the screen (R25). -/
def openPass (i : Fin 2) (s : State) : State :=
  s.setComp i { s.compScreen i with
    context := some
      { shot := s.snapshot i
        views := [s.shows] } }

/-! ### Drawing (R31 to R39) -/

/-- The picture a slot holds, while it is RESIDENT. -/
def StillCache.pictureOf (c : StillCache) (k : Nat) : Option Picture := (c.slot k).picture

/-- The 16 × 24 coverages of one glyph of a glyph set (R39, R201). -/
def glyphOf (set : List Byte) (code : Nat) : List Byte := (set.drop (384 * code)).take 384

/-- The view of a reading at a moment: the moment counts the views since the pass start (log entry 7). -/
def PassContext.viewAt (x : PassContext) (moment : Nat) : Option PassView := x.views[min moment (x.views.length - 1)]?

/-- Glyph memory as a reading at a moment finds it (R39). -/
def PassContext.glyphsAt (x : PassContext) (moment : Nat) : Option (List Byte) := (x.viewAt moment).bind (·.glyphs)

/-- The latest of the first `n + 1` moments: what is drawn in an order is not read before what stands before it in that order
(R35, R37). -/
def latestMoment (moments : List Nat) (n : Nat) : Nat := (moments.take (n + 1)).foldl max 0

/-- The still of a slot drawn in a rect (R29, R30); nothing where the slot holds no picture (log entry 28). -/
def slotOps (c : StillCache) (slot : Option Nat) (rect clip : Rect) (alpha : Nat) : List DrawOp :=
  match slot.bind c.pictureOf with
  | some p => [.picture rect clip p alpha]
  | none => []

/-- The broken mark of a cell, where the glyph memory read holds a valid set (R33). -/
def markOps (rect clip : Rect) (glyphs : Option (List Byte)) : List DrawOp :=
  match glyphs with
  | some set =>
    [.glyph (rect.x + ((rect.w : Int) - 16) / 2) (rect.y + ((rect.h : Int) - 24) / 2) 1 clip Rgb.white (glyphOf set 1)]
  | none => []

/-- A cell drawn by its appearance state (R32, R33). -/
def cellOps (c : StillCache) (rect clip : Rect) (glyphs : Option (List Byte)) (cell : CellShot) : List DrawOp :=
  let tint := DrawOp.fill rect clip cell.tint 255
  match cell.appearance with
  | .empty => []
  | .waiting => [tint]
  | .fading k => tint :: slotOps c cell.slot rect clip (32 * k)
  | .shown => slotOps c cell.slot rect clip 255
  | .broken => tint :: markOps rect clip glyphs

/-- The focus border over a cell (R34), for a focus on a position of the title list; a focus at or beyond the list's end is
not drawn (R15). -/
def borderOps (w : Wall) (focus : Focus) (index : Nat) (rect clip : Rect) : List DrawOp :=
  if focus = .wall index ∧ index < w.titles.length then [.border rect clip w.border w.focusColour] else []

/-- The wall's cells and the focus border (R31 to R34); `marks` are the moments at which the broken marks are drawn. -/
def wallOps (c : StillCache) (x : PassContext) (screen : Rect) (marks : List Nat) : List DrawOp :=
  match x.shot.plan.wall with
  | none => []
  | some w =>
    x.shot.cells.zipIdx.flatMap fun p =>
      let rect := w.cellRect x.shot.position p.1.index
      let clip := rectMeet (rectMeet screen w.view) rect
      cellOps c rect clip (x.glyphsAt (marks.getD p.2 0)) p.1 ++ borderOps w x.shot.focus p.1.index rect clip

/-- A poster drawn from its record in the snapshot (R36). -/
def posterOps (c : StillCache) (rect clip : Rect) : PosterShot → List DrawOp
  | .slot k => slotOps c (some k) rect clip 255
  | .tint t => [.fill rect clip t 255]
  | .black => [.fill rect clip Rgb.black 255]

/-- A lane window drawn from what its lane showed at the moment of drawing (R35, R36). -/
def windowOps (c : StillCache) (rect clip : Rect) (poster : PosterShot) (v : LaneView) : List DrawOp :=
  let onShow : List DrawOp := match v.onShow with
    | some p => [.picture rect clip p 255]
    | none => [.fill rect clip Rgb.black 255]
  match v.state with
  | .idle => []
  | .priming => [.fill rect clip Rgb.black 255]
  | .playing => onShow
  | .starved => onShow
  | .held => posterOps c rect clip poster
  | .ended => if v.endAction = .poster then posterOps c rect clip poster else onShow

/-- The lane windows in table order (R35); `moments` are the moments at which they are drawn, none earlier than that of the
window before it. -/
def lanesOps (c : StillCache) (x : PassContext) (screen : Rect) (moments : List Nat) : List DrawOp :=
  [(0 : Fin 3), 1, 2].flatMap fun i =>
    match x.shot.plan.windows.get i with
    | none => []
    | some w =>
      match x.viewAt (latestMoment moments i.val) with
      | some v => windowOps c w.rect (rectMeet screen w.rect) (x.shot.posters.get i) (v.lanes.get w.lane)
      | none => []

/-- The left edge of an item's text (R38). -/
def Item.textLeft (it : Item) : Int :=
  let line : Int := (16 * it.scale * it.glyphs.length : Nat)
  match it.alignment with
  | .left => it.rect.x
  | .center => it.rect.x + ((it.rect.w : Int) - line) / 2
  | .right => it.rect.x + it.rect.w - line

/-- The top edge of an item's text (R38). -/
def Item.textTop (it : Item) : Int := it.rect.y + ((it.rect.h : Int) - (24 * it.scale : Nat)) / 2

/-- An item's text from the glyph set read at the start of the text (R38, R39). -/
def textOps (it : Item) (clip : Rect) (glyphs : Option (List Byte)) : List DrawOp :=
  match glyphs with
  | none => []
  | some set =>
    it.glyphs.zipIdx.filterMap fun p =>
      if p.1 = 0 then none
      else some (.glyph (it.textLeft + (16 * it.scale * p.2 : Nat)) it.textTop it.scale clip it.text (glyphOf set p.1.toNat))

/-- A menu item: its fill, then its text (R37). -/
def itemOps (it : Item) (lit : Bool) (screen : Rect) (glyphs : Option (List Byte)) : List DrawOp :=
  let clip := rectMeet screen it.rect
  let fill := if lit then it.lit else it.normal
  .fill it.rect clip fill.colour fill.alpha :: textOps it clip glyphs

/-- The menu items in index order (R37); `moments` are the moments at which their texts are drawn, none earlier than that of the
item before it. -/
def itemsOps (x : PassContext) (screen : Rect) (moments : List Nat) : List DrawOp :=
  x.shot.plan.items.zipIdx.flatMap fun p =>
    match p.1 with
    | none => []
    | some it => itemOps it (x.shot.focus == .item p.2) screen (x.glyphsAt (latestMoment moments p.2))

/-- The finished pass (R27). -/
def drawPass (c : StillCache) (x : PassContext) (screen : Rect) (m : DrawMoments) : Drawing :=
  { backdrop := x.shot.plan.backdrop
    ops := wallOps c x screen m.marks ++ lanesOps c x screen m.windows ++ itemsOps x screen m.items
    fade := x.shot.fade, matrix := x.shot.matrix }

/-! ### Completion and abandonment (R26, R99) -/

/-- The index of the back buffer (R96). -/
def Screen.backIndex (c : Screen) : Fin 2 := if c.front1 then 0 else 1

/-- A pass of the screen is in progress (R98). -/
def State.composing (s : State) (i : Fin 2) : Bool := s.running i && (s.screen i).back == .composing

/-- PASS_COMPLETE: every pixel is written; the buffer is READY and the context closed (R26, R99). -/
def passCompleteStep (i : Fin 2) (m : DrawMoments) (s : State) : State :=
  match (s.compScreen i).context with
  | some x =>
    if s.composing i then
      let c := s.screen i
      let d := drawPass s.cache x c.active.rect m
      (s.setScreen i { c with buffers := c.buffers.set c.backIndex (.drawn d), back := .ready }).setComp i
        { s.compScreen i with context := none }
    else s
  | none => s

/-- The Compositor closes a context without a completion (R26). -/
def closePass (i : Fin 2) (s : State) : State := s.setComp i { s.compScreen i with context := none }

end Sys2Proof.Machine
end

