-- ==== Sys2Proof/Machine/Screens.lean ====
section
/-!
DEFINITION. Scanout (R89 to R101) and the power states (R165 to R170): the panel sequences, leaving RUNNING, VBLANKs and
passes, changes of power state, the WAKE line, the cause set.
-/

namespace Sys2Proof.Machine

def State.setPower (s : State) (p : Power) : State := { s with power := p }

/-! ### Codes (R196) -/

def ScreenState.code : ScreenState → Nat
  | .off => 0 | .waking => 1 | .running => 2 | .sleeping => 3

def BackState.code : BackState → Nat
  | .free => 0 | .composing => 1 | .ready => 2

def PowerState.code : PowerState → Nat
  | .active => 0 | .quiet => 1 | .standby => 2

def PowerState.ofCode : Nat → Option PowerState
  | 0 => some .active
  | 1 => some .quiet
  | 2 => some .standby
  | _ => none

def ResetCause.code : ResetCause → Nat
  | .powerOn => 0 | .supplyDip => 1 | .resetLine => 2 | .linkBreak => 3 | .resetRequest => 4

/-! ### The end of a change of power state (R165, R167) -/

/-- The change ends: the change mark is cleared and a deferred SET_POWER reply is sent (R165, R167). -/
def endChange (s : State) : State :=
  let p := s.power
  let s := s.setPower { p with changing := false, setPowerTag := none }
  match p.setPowerTag with
  | some tag => reply 0x08 tag .ok [byteOf p.state.code] s
  | none => s

/-- A screen reports its target reached; with both reports the change ends (R92, R165). -/
def reportTarget (i : Fin 2) (s : State) : State :=
  if s.power.changing then
    let s := s.setPower { s.power with reached := s.power.reached.set i true }
    if s.power.reached.s0 && s.power.reached.s1 then endChange s else s
  else s

/-! ### The panel sequences (R91 to R95) -/

/-- Entry to WAKING (R93). -/
def enterWaking (i : Fin 2) (s : State) : State :=
  s.setScreen i { s.screen i with
    state := .waking, sequence := some .wake20, buffers := ⟨.black, .black⟩, back := .free, powerEnable := true }

/-- Entry to SLEEPING (R94): the frame timer stops and the 50 ms step begins. -/
def enterSleeping (i : Fin 2) (s : State) : State :=
  s.setScreen i { s.screen i with state := .sleeping, sequence := some .sleep50, frameTimer := false, back := .free }

/-- An abandoned pass leaves its buffer partly drawn (R26; log entry 9). -/
def Screen.abandon (c : Screen) : Screen :=
  if c.back = .composing then
    { c with buffers := c.buffers.set c.backIndex (.unspecified (c.spoils + 1)), spoils := c.spoils + 1 }
  else c

/-- The screen leaves RUNNING for SLEEPING; the Plan Unit, the Lane Engine, the Compositor and the Backlight Controller
act on it (R95; log entry 16 for their order). -/
def leaveRunning (i : Fin 2) (s : State) : State :=
  let s := enterSleeping i (s.setScreen i (s.screen i).abandon)
  (closePass i (lanesScreenStop i (planLeaveRunning i s))).lightOff i

/-- A power-up request (R92). -/
def powerUpRequest (i : Fin 2) (s : State) : State :=
  let s := s.setScreen i { s.screen i with wantedOn := true }
  match (s.screen i).state with
  | .off => enterWaking i s
  | .running => reportTarget i s
  | _ => s

/-- A power-down request (R92). -/
def powerDownRequest (i : Fin 2) (s : State) : State :=
  let s := s.setScreen i { s.screen i with wantedOn := false }
  match (s.screen i).state with
  | .off => reportTarget i s
  | .running => leaveRunning i s
  | _ => s

/-- PANEL_SIGNAL_ON: the 20 ms of WAKING expire (R93). -/
def panelSignalOnStep (i : Fin 2) (s : State) : State :=
  let c := s.screen i
  if c.state = .waking ∧ c.sequence = some .wake20 then
    s.setScreen i { c with videoSignal := true, sequence := some .wake100 }
  else s

/-- POWER_UP_END: the 100 ms of WAKING expire (R93). -/
def powerUpEndStep (i : Fin 2) (s : State) : State :=
  let c := s.screen i
  if c.state = .waking ∧ c.sequence = some .wake100 then
    if c.wantedOn then reportTarget i (s.setScreen i { c with state := .running, sequence := none, frameTimer := true })
    else enterSleeping i s
  else s

/-- PANEL_SIGNAL_OFF: the 50 ms of SLEEPING expire (R94). -/
def panelSignalOffStep (i : Fin 2) (s : State) : State :=
  let c := s.screen i
  if c.state = .sleeping ∧ c.sequence = some .sleep50 then
    s.setScreen i { c with videoSignal := false, sequence := some .sleep20 }
  else s

/-- POWER_DOWN_END: the 20 ms of SLEEPING expire (R94). -/
def powerDownEndStep (i : Fin 2) (s : State) : State :=
  let c := s.screen i
  if c.state = .sleeping ∧ c.sequence = some .sleep20 then
    let s := s.setScreen i { c with state := .off, sequence := none, powerEnable := false }
    if c.wantedOn then enterWaking i s else reportTarget i s
  else s

/-! ### VBLANK and passes (R97 to R100) -/

/-- A pass begins (R98): the Plan Unit's pass-start work, then the Compositor's snapshot (R10, R25). -/
def passBegin (i : Fin 2) (s : State) : State :=
  let c := s.screen i
  openPass i (passStartWork i (s.setScreen i { c with back := .composing, passCount := (c.passCount + 1) % 4294967296 }))

/-- Scanout's action at a VBLANK (R97, R100). -/
def scanoutVblank (i : Fin 2) (s : State) : State :=
  let c := s.screen i
  match c.back with
  | .free => passBegin i s
  | .ready => passBegin i (s.setScreen i { c with front1 := !c.front1, back := .free })
  | .composing => s.setScreen i { c with missed := min 65535 (c.missed + 1) }

/-- VBLANK: the frame timer of a RUNNING screen expires (R97); `lanesFirst` is the order of the two works (log entry 6). -/
def vblankStep (i : Fin 2) (lanesFirst : Bool) (s : State) : State :=
  if s.running i ∧ (s.screen i).frameTimer then
    eraserStep (if lanesFirst then scanoutVblank i (lanesVblank i s) else lanesVblank i (scanoutVblank i s))
  else s

/-- SCREEN_STATUS's data (R101). -/
def Screen.info (c : Screen) : List Byte :=
  [byteOf c.state.code, flagByte c.wantedOn] ++ beBytes 2 c.active.width ++ beBytes 2 c.active.height ++
    [byteOf c.active.rate, byteOf c.back.code] ++ beBytes 2 c.missed ++ beBytes 4 c.passCount

def screenStatusOwner (tag screen : Nat) (s : State) : State :=
  match screenOf screen with
  | some i => reply 0x48 tag .ok (s.screen i).info s
  | none => reply 0x48 tag .badParam [] s

/-! ### Changes of power state (R165, R166) and the WAKE line (R168) -/

/-- The wanted power of a screen in a power state (R165). -/
def PowerState.wants (p : PowerState) (i : Fin 2) : Bool :=
  match p, i with
  | .active, _ => true
  | .quiet, i => i == 1
  | .standby, _ => false

/-- The request a screen is sent (R165). -/
def sendPower (st : PowerState) (i : Fin 2) (s : State) : State :=
  if st.wants i then powerUpRequest i s else powerDownRequest i s

/-- A change of power state begins: screen 0's request is sent first, then screen 1's (R165). -/
def beginChange (st : PowerState) (tag : Option Nat) (s : State) : State :=
  let s := s.setPower { s.power with state := st, changing := true, reached := ⟨false, false⟩, setPowerTag := tag }
  eraserStep (sendPower st 1 (sendPower st 0 s))

def setPowerOwner (tag state : Nat) (s : State) : State :=
  match PowerState.ofCode state with
  | none => reply 0x08 tag .badParam [] s
  | some st =>
    if s.power.changing then reply 0x08 tag .busy [] s
    else if s.power.selfTest.isSome then reply 0x08 tag .busy [] s
    else beginChange st (some tag) s

/-- A WAKE edge that is taken: WOKEN is sent, then the change to ACTIVE begins (R168). -/
def takeWake (s : State) : State :=
  if s.power.state ≠ .active ∧ !s.power.changing then
    beginChange .active none (notice 0xE8 [byteOf s.power.state.code] s)
  else s

/-- WAKE_EDGE (R168). -/
def wakeEdgeStep (s : State) : State :=
  if s.power.selfTest.isSome then s.setPower { s.power with wakeMark := true } else takeWake s

/-! ### The cause set (R169, R170) -/

def allCauses : List ResetCause := [.powerOn, .supplyDip, .resetLine, .linkBreak, .resetRequest]

/-- A cause joins the set, kept in the order of R169. -/
def addCause (c : ResetCause) (set : List ResetCause) : List ResetCause := allCauses.filter fun x => x = c ∨ x ∈ set

/-- The cause list of HELLO and CAUSES: a count and the causes (R170, R172). -/
def causeBytes (set : List ResetCause) : List Byte := byteOf set.length :: set.map fun c => byteOf c.code

def causesOwner (tag : Nat) (s : State) : State :=
  reply 0x09 tag .ok (causeBytes s.power.causes) (s.setPower { s.power with causes := [] })

end Sys2Proof.Machine
end

