-- ==== Sys2Proof/Machine/Settings.lean ====
section
/-!
DEFINITION. The settings table (R173 to R176): its 66 entries with their owners, ranges and defaults, SETTING_GET,
SETTING_PUT, the settings block of a root record and the settings load of start-up.
-/

namespace Sys2Proof.Machine

/-- An entry of the settings table (R173). -/
inductive Entry where
  | coefficient (screen : Fin 2) (n : Nat)
  | offset (screen : Fin 2) (n : Nat)
  | curveLux (screen : Fin 2) (n : Nat)
  | curveLevel (screen : Fin 2) (n : Nat)
  | derateStart
  | derateStep
  | fallback
  | slew
  | width (screen : Fin 2)
  | height (screen : Fin 2)
  | rate (screen : Fin 2)
deriving DecidableEq, Repr

/-- The entry of an index, where the table has it (R173). -/
def entryOf (index : Nat) : Option Entry :=
  if index < 0x09 then some (.coefficient 0 index)
  else if index < 0x0C then some (.offset 0 (index - 0x09))
  else if index < 0x10 then none
  else if index < 0x19 then some (.coefficient 1 (index - 0x10))
  else if index < 0x1C then some (.offset 1 (index - 0x19))
  else if index < 0x20 then none
  else if index < 0x28 then some (.curveLux 0 (index - 0x20))
  else if index < 0x30 then some (.curveLevel 0 (index - 0x28))
  else if index < 0x38 then some (.curveLux 1 (index - 0x30))
  else if index < 0x40 then some (.curveLevel 1 (index - 0x38))
  else if index = 0x40 then some .derateStart
  else if index = 0x41 then some .derateStep
  else if index = 0x42 then some .fallback
  else if index = 0x43 then some .slew
  else if index = 0x50 then some (.width 0)
  else if index = 0x51 then some (.height 0)
  else if index = 0x52 then some (.rate 0)
  else if index = 0x53 then some (.width 1)
  else if index = 0x54 then some (.height 1)
  else if index = 0x55 then some (.rate 1)
  else none

/-- The 66 indexes in the order of the settings block (R202). -/
def settingIndexes : List Nat :=
  List.range' 0x00 12 ++ List.range' 0x10 12 ++ List.range' 0x20 32 ++ List.range' 0x40 4 ++ List.range' 0x50 6

/-- Entries sent in two's complement (R173). -/
def Entry.isSigned : Entry → Bool
  | .coefficient _ _ => true
  | .offset _ _ => true
  | .derateStart => true
  | _ => false

/-- The value of a 32-bit field for an entry (R173). -/
def Entry.ofField (e : Entry) (field : Nat) : Int := if e.isSigned then signedOf 4 field else field

/-- An entry's own range, the timing product apart (R173). -/
def Entry.inRange (e : Entry) (v : Int) : Bool :=
  match e with
  | .coefficient _ _ => -2048 ≤ v && v ≤ 2047
  | .offset _ _ => -64 ≤ v && v ≤ 63
  | .curveLux _ _ => (0 ≤ v && v ≤ 120000) || v == 0xFFFFFFFF
  | .curveLevel _ _ => 0 ≤ v && v ≤ 65535
  | .derateStart => -40 ≤ v && v ≤ 125
  | .derateStep => 0 ≤ v && v ≤ 65535
  | .fallback => 0 ≤ v && v ≤ 65535
  | .slew => 1 ≤ v && v ≤ 65535
  | .width _ => 320 ≤ v && v ≤ 1920
  | .height _ => 240 ≤ v && v ≤ 1920
  | .rate _ => v == 60 || v == 50 || v == 30

def defaultTiming (i : Fin 2) : Timing := match i with | 0 => defaultTiming0 | 1 => defaultTiming1

/-- An entry's default (R173). -/
def Entry.default : Entry → Int
  | .coefficient _ n => if n % 4 = 0 then 1024 else 0
  | .offset _ _ => 0
  | .curveLux _ n => (({} : LightScreen).curveLux.getD n 0 : Nat)
  | .curveLevel _ n => (({} : LightScreen).curveLevel.getD n 0 : Nat)
  | .derateStart => 60
  | .derateStep => 4096
  | .fallback => 52428
  | .slew => 2048
  | .width i => (defaultTiming i).width
  | .height i => (defaultTiming i).height
  | .rate i => (defaultTiming i).rate

/-- The value the owning block holds (R173). -/
def Entry.held (s : State) : Entry → Int
  | .coefficient i n => (s.compScreen i).matrix.coeffs.getD n 0
  | .offset i n => (s.compScreen i).matrix.offsets.getD n 0
  | .curveLux i n => ((s.lightOf i).curveLux.getD n 0 : Nat)
  | .curveLevel i n => ((s.lightOf i).curveLevel.getD n 0 : Nat)
  | .derateStart => s.light.derateStart
  | .derateStep => s.light.derateStep
  | .fallback => s.light.fallback
  | .slew => s.light.slew
  | .width i => (s.screen i).entries.width
  | .height i => (s.screen i).entries.height
  | .rate i => (s.screen i).entries.rate

/-- The owning block takes a value, its effect apart. -/
def Entry.store (v : Int) (s : State) : Entry → State
  | .coefficient i n =>
    let c := s.compScreen i
    s.setComp i { c with matrix := { c.matrix with coeffs := c.matrix.coeffs.set n v } }
  | .offset i n =>
    let c := s.compScreen i
    s.setComp i { c with matrix := { c.matrix with offsets := c.matrix.offsets.set n v } }
  | .curveLux i n => s.setLight i { s.lightOf i with curveLux := (s.lightOf i).curveLux.set n v.toNat }
  | .curveLevel i n => s.setLight i { s.lightOf i with curveLevel := (s.lightOf i).curveLevel.set n v.toNat }
  | .derateStart => s.setLightAll { s.light with derateStart := v }
  | .derateStep => s.setLightAll { s.light with derateStep := v.toNat }
  | .fallback => s.setLightAll { s.light with fallback := v.toNat }
  | .slew => s.setLightAll { s.light with slew := v.toNat }
  | .width i => s.setScreen i { s.screen i with entries := { (s.screen i).entries with width := v.toNat } }
  | .height i => s.setScreen i { s.screen i with entries := { (s.screen i).entries with height := v.toNat } }
  | .rate i => s.setScreen i { s.screen i with entries := { (s.screen i).entries with rate := v.toNat } }

/-- The effect that follows an accepted value at once (R161, R174). -/
def Entry.effect (s : State) : Entry → State
  | .curveLux i _ => s.setLightAll (s.light.retarget i)
  | .curveLevel i _ => s.setLightAll (s.light.retarget i)
  | .derateStart => s.setLightAll s.light.rederate
  | .derateStep => s.setLightAll s.light.rederate
  | .fallback => s.setLightAll s.light.retargetBoth
  | _ => s

/-- The largest screen the timing allows (R90). -/
def maxPixels : Nat := 2073600

/-- An entry's owner accepts a value: in range, and for a width or height with the other held entry (R90, R174). -/
def Entry.accepts (s : State) (e : Entry) (v : Int) : Bool :=
  e.inRange v &&
    match e with
    | .width i => decide (v * (s.screen i).entries.height ≤ maxPixels)
    | .height i => decide (v * (s.screen i).entries.width ≤ maxPixels)
    | _ => true

def settingReply (kind tag index : Nat) (v : Int) (s : State) : State :=
  reply kind tag .ok (byteOf index :: beBytes 4 (twosOf 4 v)) s

def settingGetOwner (tag index : Nat) (s : State) : State :=
  match entryOf index with
  | some e => settingReply 0x0B tag index (e.held s) s
  | none => reply 0x0B tag .noSuch [] s

def settingPutOwner (tag index value : Nat) (s : State) : State :=
  match entryOf index with
  | none => reply 0x0C tag .noSuch [] s
  | some e =>
    let v := e.ofField value
    if e.accepts s v then settingReply 0x0C tag index v (e.effect (e.store v s)) else reply 0x0C tag .badParam [] s

/-! ### The settings block and the settings load (R175, R176) -/

/-- The 66 values as the owning blocks hold them, as 32-bit numbers in the order of R202 (R134, R176). -/
def settingsBlock (s : State) : List Nat :=
  settingIndexes.map fun index => match entryOf index with | some e => twosOf 4 (e.held s) | none => 0

/-- The timing entries are judged together by screen (R90, R175). -/
def timingOk (t : Timing) : Bool :=
  320 ≤ t.width && t.width ≤ 1920 && (240 ≤ t.height && t.height ≤ 1920) &&
    (t.rate == 60 || t.rate == 50 || t.rate == 30) && t.width * t.height ≤ maxPixels

/-- The value loaded for an entry: the block's, or the default where that is out of range (R175). -/
def loadedValue (e : Entry) (field : Nat) : Int := if e.inRange (e.ofField field) then e.ofField field else e.default

def Entry.isTiming : Entry → Bool
  | .width _ => true
  | .height _ => true
  | .rate _ => true
  | _ => false

/-- One entry of the block is loaded; timing entries are loaded by screen (R175). -/
def loadEntry (s : State) (p : Nat × Nat) : State :=
  match entryOf p.1 with
  | some e => if e.isTiming then s else e.store (loadedValue e p.2) s
  | none => s

/-- A screen's timing from three fields of the block, or its default (R90, R175); it becomes the entries and the active
timing. -/
def loadTiming (i : Fin 2) (w h r : Nat) (s : State) : State :=
  let t : Timing := if timingOk ⟨w, h, r⟩ then ⟨w, h, r⟩ else defaultTiming i
  s.setScreen i { s.screen i with active := t, entries := t }

/-- The settings block of defaults (R173). -/
def defaultBlock : List Nat :=
  settingIndexes.map fun index => match entryOf index with | some e => twosOf 4 e.default | none => 0

/-- Every entry takes its value from a block, the owning blocks receive theirs as sets (R90, R161, R175). -/
def loadBlock (block : List Nat) (s : State) : State :=
  let at_ := fun n : Nat => block.getD n 0
  let s := (settingIndexes.zip block).foldl loadEntry s
  let s := loadTiming 1 (at_ 63) (at_ 64) (at_ 65) (loadTiming 0 (at_ 60) (at_ 61) (at_ 62) s)
  s.setLightAll s.light.rederate

/-- The settings load of start-up, then the power-up requests (R171, R175): with a block, or with word that there is none. -/
def settingsLoad (block : Option (List Nat)) (s : State) : State :=
  let s := loadBlock (block.getD defaultBlock) s
  let s := s.setPower { s.power with settings := some (if block.isSome then .loaded else .defaults) }
  sendPower .active 1 (sendPower .active 0 s)

end Sys2Proof.Machine
end

