-- ==== Sys2Proof/Machine/Content.lean ====
section
/-!
DEFINITION. The Catalog's requests (R109 to R122): stages, titles, the glyph key, the intake and its writer's asking, and
PUBLISH with the catalog image it forms (R123, R202).
-/

namespace Sys2Proof.Machine

/-! ### Stages (R109, R110) -/

def Catalog.publishing (c : Catalog) : Bool := c.publish.isSome

/-- A FAILED intake is closed (R110, R114, R122). -/
def Catalog.closeFailed (c : Catalog) : Catalog := if c.intake.state = .failed then { c with intake := {} } else c

def stageOpenOwner (tag mode : Nat) (s : State) : State :=
  let c := s.catalog
  if 2 ≤ mode then reply 0x18 tag .badParam [] s
  else if c.staged.isSome || c.publishing then reply 0x18 tag .busy [] s
  else if mode = 0 then
    reply 0x18 tag .ok [] (s.setCatalog { c with staged := some { glyphKey := 0, titles := [] } })
  else
    reply 0x18 tag .ok []
      (s.setCatalog { c with
        staged := some { glyphKey := c.glyphKey, titles := c.titles }
        pool := c.pool.map fun a => if a.inLive then { a with inStaged := true } else a })

/-- Every record of a list of names is settled in turn (R106). -/
def settleRecords (uids : List Nat) (s : State) : State := uids.foldl (fun s u => settleRecord u s) s

/-- The stage is dropped and every staged-only record removed (R110). -/
def discardStage (s : State) : State :=
  let c := s.catalog.closeFailed
  settleRecords (c.pool.map (·.uid))
    (s.setCatalog { c with staged := none, pool := c.pool.map fun a => { a with inStaged := false } })

def stageDiscardOwner (tag : Nat) (s : State) : State :=
  if s.catalog.staged.isNone then reply 0x19 tag .notNow [] s
  else if s.catalog.publishing || s.catalog.intakeBusy then reply 0x19 tag .busy [] s
  else eraserStep (reply 0x19 tag .ok [] (discardStage s))

/-! ### Titles and the glyph key (R111, R112) -/

/-- A title record joins a table in number order, in place of the record of its number (R111). -/
def putTitle (t : TitleRec) : List TitleRec → List TitleRec
  | [] => [t]
  | u :: rest => if u.number < t.number then u :: putTitle t rest else if u.number = t.number then t :: rest else t :: u :: rest

def dropTitle (n : Nat) (ts : List TitleRec) : List TitleRec := ts.filter (·.number != n)

def titlePutOwner (tag title badge : Nat) (tint : Rgb) (stillKey clipKey : Nat) (name : List Byte) (s : State) : State :=
  if title = 0 ∨ 15 < badge ∨ 48 < name.length then reply 0x1A tag .badParam [] s
  else
    match s.catalog.staged with
    | none => reply 0x1A tag .notNow [] s
    | some g =>
      if s.catalog.publishing then reply 0x1A tag .busy [] s
      else if (!g.titles.any (·.number == title)) && 2048 ≤ g.titles.length then reply 0x1A tag .noSpace [] s
      else
        let t : TitleRec :=
          { number := title, badge := badge, tint := tint, stillKey := stillKey, clipKey := clipKey, name := name }
        reply 0x1A tag .ok [] (s.setCatalog { s.catalog with staged := some { g with titles := putTitle t g.titles } })

def titleDropOwner (tag title : Nat) (s : State) : State :=
  if title = 0 then reply 0x1B tag .badParam [] s
  else
    match s.catalog.staged with
    | none => reply 0x1B tag .notNow [] s
    | some g =>
      if s.catalog.publishing then reply 0x1B tag .busy [] s
      else if g.titles.any (·.number == title) then
        reply 0x1B tag .ok [] (s.setCatalog { s.catalog with staged := some { g with titles := dropTitle title g.titles } })
      else reply 0x1B tag .noSuch [] s

/-- The title record layout of a catalog image, 64 bytes (R202). -/
def TitleRec.bytes (t : TitleRec) : List Byte :=
  beBytes 2 t.number ++ [byteOf t.badge] ++ rgbBytes t.tint ++ beBytes 4 t.stillKey ++ beBytes 4 t.clipKey ++
    [byteOf t.name.length] ++ (t.name ++ List.replicate (48 - t.name.length) 0#8) ++ [0#8]

/-- The record TITLE_GET finds: EXACT, or the lowest number above the given one (R112). -/
def findTitle (mode title : Nat) (ts : List TitleRec) : Option TitleRec :=
  if mode = 0 then ts.find? (·.number == title) else ts.find? (title < ·.number)

def titleGetReply (tag number : Nat) (found : Option TitleRec) (s : State) : State :=
  match found with
  | some t => reply 0x1C tag .ok (beBytes 4 number ++ t.bytes) s
  | none => reply 0x1C tag .noSuch [] s

def titleGetOwner (tag generation mode title : Nat) (s : State) : State :=
  if 2 ≤ generation ∨ 2 ≤ mode then reply 0x1C tag .badParam [] s
  else if generation = 0 then titleGetReply tag s.catalog.number (findTitle mode title s.catalog.titles) s
  else
    match s.catalog.staged with
    | none => reply 0x1C tag .notNow [] s
    | some g => titleGetReply tag 0 (findTitle mode title g.titles) s

def setGlyphsOwner (tag key : Nat) (s : State) : State :=
  match s.catalog.staged with
  | none => reply 0x22 tag .notNow [] s
  | some g =>
    if s.catalog.publishing then reply 0x22 tag .busy [] s
    else reply 0x22 tag .ok [] (s.setCatalog { s.catalog with staged := some { g with glyphKey := key } })

/-! ### The intake writer's asking (R116) -/

def State.setIntake (s : State) (k : Intake) : State := s.setCatalog { s.catalog with intake := k }

/-- A page of the buffer, padded with 00h (R116). -/
def intakePage (buffer : List Byte) : List Byte :=
  buffer.take 4096 ++ List.replicate (4096 - min 4096 buffer.length) 0#8

/-- The intake has a page to pass to the store (R116). -/
def Intake.pageDue (k : Intake) : Bool :=
  !k.writer.outstanding &&
    ((k.state == .open || k.state == .finishing) && 4096 ≤ k.buffer.length || (k.state == .finishing && !k.buffer.isEmpty))

/-- The writer asks for the next page when it is due (R116). -/
def intakeAsk (s : State) : State :=
  let k := s.catalog.intake
  if k.pageDue then
    let s := s.setIntake { k with writer := { outstanding := true } }
    s.setStore (s.store.place .intakePage .write (.pageProgram (intakePage k.buffer)))
  else s

/-! ### Leaving operations to themselves (R119, R123, R148) -/

/-- A waiting entry belongs to the image stream or to the asset stream. -/
def CleanWait.client : CleanWait → Client
  | .program w => clientOf w.purpose
  | .relocation image => if image then .imageOrMount else .intake

/-- A write stream gives up: what waits is withdrawn, an operation in progress is left to run to its end (R119, R148). -/
def Store.abandonStream (c : Client) (st : Store) : Store :=
  let st := st.withdraw c
  { st with
    cleanWait := st.cleanWait.filter (·.client != c)
    port := if st.inProgress c then st.port.map fun p => { p with orphan := true } else st.port }

/-! ### The end of an intake (R118 to R120) -/

/-- The intake ends without its record: the writer stops and the record leaves the staged set (R119, R120). -/
def dropIntake (s : State) : State :=
  let s := dropStaged s.catalog.intake.record s
  s.setStore (s.store.abandonStream .intake)

/-- The intake fails (R119). -/
def failIntake (status : Status) (s : State) : State :=
  let k := s.catalog.intake
  match k.state with
  | .finishing => reply 0x1E k.tag status [] ((dropIntake s).setIntake {})
  | .open => (dropIntake s).setIntake { state := .failed, key := k.key, failure := status }
  | _ => s

/-- The still header as the intake's test reads it (R118, R201). -/
def stillHead (head : List Byte) : Option ClipDesc :=
  if fieldAt head 0 1 = 1 ∧ fieldAt head 1 1 = 0 ∧ fieldAt head 6 2 = 0 ∧ 8 ≤ head.length ∧
      16 ≤ fieldAt head 2 2 ∧ fieldAt head 2 2 ≤ 240 ∧ 16 ≤ fieldAt head 4 2 ∧ fieldAt head 4 2 ≤ 360 then
    some { width := fieldAt head 2 2, height := fieldAt head 4 2 }
  else none

/-- The clip header as the intake's test reads it (R118, R201). -/
def clipHead (head : List Byte) (length : Nat) : Option ClipDesc :=
  let d : ClipDesc :=
    { width := fieldAt head 2 2, height := fieldAt head 4 2, period := fieldAt head 6 2, units := fieldAt head 8 2 }
  if fieldAt head 0 1 = 2 ∧ fieldAt head 1 1 = 0 ∧ fieldAt head 10 2 = 0 ∧ 12 ≤ head.length ∧
      16 ≤ d.width ∧ d.width ≤ 960 ∧ 16 ≤ d.height ∧ d.height ≤ 540 ∧ 1500 ≤ d.period ∧ d.period ≤ 9000 ∧
      1 ≤ d.units ∧ d.units ≤ 8192 ∧ 12 + 10 * d.units ≤ length then some d
  else none

/-- A glyph set's header names 256 glyphs of 16 × 24 (R118, R125, R201). -/
def glyphHeadOk (head : List Byte) : Bool :=
  8 ≤ head.length && fieldAt head 0 1 == 3 && fieldAt head 1 1 == 0 && fieldAt head 2 2 == 256 && fieldAt head 4 1 == 16 &&
    fieldAt head 5 1 == 24 && fieldAt head 6 2 == 0

/-- The exact length of a glyph set (R201). -/
def glyphSetLength : Nat := 98312

/-- The header test of an asset's kind; it gives the kind data (R118). -/
def headOf (kind : AssetKind) (head : List Byte) (length : Nat) : Option ClipDesc :=
  match kind with
  | .still => stillHead head
  | .clip => clipHead head length
  | .glyphs => if glyphHeadOk head ∧ length = glyphSetLength then some {} else none

/-- The judgement of a finished intake (R118). -/
def judgeIntake (s : State) : State :=
  let k := s.catalog.intake
  match s.catalog.record k.record with
  | none => s
  | some a =>
    let s' := s.setIntake {}
    let mark := fun (f : Asset → Asset) => s'.setCatalog (s'.catalog.modify a.uid f)
    if crc32Final k.crc ≠ a.check then
      reply 0x1E k.tag .checkMismatch [] (mark fun a => { a with state := .badCheck })
    else
      match headOf a.kind k.head a.length with
      | none => reply 0x1E k.tag .badFormat [] (mark fun a => { a with state := .badFormat })
      | some d =>
        reply 0x1E k.tag .ok (beBytes 4 a.key ++ [byteOf a.extents.length])
          (mark fun a => { a with state := .complete, desc := d })

/-! ### Intake requests (R114, R115, R120, R121) -/

/-- The refusal of an ASSET_BEGIN or PUBLISH by the store state (R114, R122). -/
def StoreState.writeRefusal : StoreState → Option Status
  | .online => none
  | .readOnly => some .storeReadOnly
  | _ => some .storeOffline

/-- An ASSET_BEGIN finds a full staged set or a full pool (R114). -/
def Catalog.noRoom (c : Catalog) (key : Nat) : Bool :=
  match c.stagedRecord key with
  | some a => a.inLive && 6144 ≤ c.pool.length
  | none => 4096 ≤ c.pool.countP (·.inStaged) || 6144 ≤ c.pool.length

/-- The record and the intake of an accepted ASSET_BEGIN (R114). -/
def beginIntake (key : Nat) (kind : AssetKind) (length check : Nat) (s : State) : State :=
  let s := s.setCatalog s.catalog.closeFailed
  let s := match s.catalog.stagedRecord key with
    | some a => dropStaged a.uid s
    | none => s
  let uid := s.catalog.nextUid
  let a : Asset :=
    { uid := uid, key := key, kind := kind, length := length, check := check, state := .filling, extents := []
      accepted := 0, inLive := false, inStaged := true, readers := 0, damaged := false, desc := {} }
  s.setCatalog { s.catalog with
    pool := s.catalog.pool ++ [a], nextUid := uid + 1, intake := { state := .open, key := key, record := uid } }

def assetBeginOwner (tag key kind length check : Nat) (s : State) : State :=
  match AssetKind.ofCode kind with
  | none => reply 0x1D tag .badParam [] s
  | some k =>
    if key = 0 ∨ length = 0 ∨ 67108864 < length then reply 0x1D tag .badParam [] s
    else if s.catalog.publishing || s.catalog.intakeBusy then reply 0x1D tag .busy [] s
    else if s.catalog.staged.isNone then reply 0x1D tag .notNow [] s
    else
      match s.store.state.writeRefusal with
      | some st => reply 0x1D tag st [] s
      | none =>
        if s.catalog.noRoom key then reply 0x1D tag .noSpace [] s
        else eraserStep (reply 0x1D tag .ok [] (beginIntake key k length check s))

/-- An accepted chunk (R115). -/
def acceptChunk (tag : Nat) (a : Asset) (chunk : List Byte) (s : State) : State :=
  let k := s.catalog.intake
  let accepted := a.accepted + chunk.length
  let buffer := k.buffer ++ chunk
  let k' := { k with buffer := buffer, crc := crc32Run k.crc chunk, head := (k.head ++ chunk).take 12 }
  let s := s.setCatalog (s.catalog.modify a.uid fun a => { a with accepted := accepted })
  if accepted < a.length then
    intakeAsk (reply 0x1E tag .ok (beBytes 4 accepted ++ beBytes 4 buffer.length) (s.setIntake k'))
  else intakeAsk (s.setIntake { k' with state := .finishing, tag := tag })

/-- A chunk offered to an OPEN intake (R115). -/
def offerChunk (tag offset : Nat) (chunk : List Byte) (a : Asset) (s : State) : State :=
  let k := s.catalog.intake
  if offset ≠ a.accepted then reply 0x1E tag .outOfOrder [] s
  else if a.length < offset + chunk.length then reply 0x1E tag .badParam [] s
  else if 65536 - k.buffer.length < chunk.length then reply 0x1E tag .intakeFull [] (s.setIntake { k with refused := true })
  else acceptChunk tag a chunk s

/-- ASSET_DATA (R115); a chunk above 1,024 bytes does not pass the Link's own length check (R188, R198). -/
def assetDataOwner (tag key offset : Nat) (chunk : List Byte) (s : State) : State :=
  let k := s.catalog.intake
  if 1024 < chunk.length then reply 0x1E tag .badLength [] s
  else if chunk = [] then reply 0x1E tag .badParam [] s
  else
    match k.state with
    | .none => reply 0x1E tag .notNow [] s
    | .finishing => if key = k.key then reply 0x1E tag .busy [] s else reply 0x1E tag .noSuch [] s
    | .failed => if key = k.key then reply 0x1E tag k.failure [] (s.setIntake {}) else reply 0x1E tag .noSuch [] s
    | .open =>
      if key = k.key then
        match s.catalog.record k.record with
        | some a => offerChunk tag offset chunk a s
        | none => reply 0x1E tag .noSuch [] s
      else reply 0x1E tag .noSuch [] s

def assetAbortOwner (tag key : Nat) (s : State) : State :=
  let k := s.catalog.intake
  match k.state with
  | .none => reply 0x1F tag .notNow [] s
  | .finishing => if key = k.key then reply 0x1F tag .busy [] s else reply 0x1F tag .noSuch [] s
  | .failed => if key = k.key then reply 0x1F tag .ok [] (s.setIntake {}) else reply 0x1F tag .noSuch [] s
  | .open =>
    if key = k.key then eraserStep (reply 0x1F tag .ok [] ((dropIntake s).setIntake {})) else reply 0x1F tag .noSuch [] s

def AssetState.code : AssetState → Nat
  | .filling => 0 | .complete => 1 | .badCheck => 2 | .badFormat => 3

/-- The kind data of R105 and R202. -/
def ClipDesc.bytes (d : ClipDesc) : List Byte :=
  beBytes 2 d.width ++ beBytes 2 d.height ++ beBytes 2 d.period ++ beBytes 2 d.units

/-- ASSET_INFO's data: the fields of R121's table; the generation number that R103 speaks of is none of them (log entry 42). -/
def Catalog.assetInfo (c : Catalog) (a : Asset) : List Byte :=
  [byteOf a.kind.code] ++ beBytes 4 a.length ++ beBytes 4 a.check ++ [byteOf a.state.code] ++ beBytes 4 a.accepted ++
    [byteOf a.extents.length] ++ beBytes 2 (a.extents.map (·.count)).sum ++
    [flagByte a.inLive, flagByte a.inStaged] ++ beBytes 4 a.readers ++ [flagByte a.damaged] ++ a.desc.bytes ++
    if c.intakeBusy && c.intake.record == a.uid then beBytes 4 c.intake.buffer.length else []

def assetInfoReply (tag : Nat) (found : Option Asset) (s : State) : State :=
  match found with
  | some a => reply 0x20 tag .ok (s.catalog.assetInfo a) s
  | none => reply 0x20 tag .noSuch [] s

def assetInfoOwner (tag generation key : Nat) (s : State) : State :=
  if 2 ≤ generation then reply 0x20 tag .badParam [] s
  else if generation = 0 then assetInfoReply tag (s.catalog.liveRecord key) s
  else if s.catalog.staged.isNone then reply 0x20 tag .notNow [] s
  else assetInfoReply tag (s.catalog.stagedRecord key) s

/-! ### PUBLISH (R122, R123) -/

/-- A key passes a reference check: 0, or a COMPLETE staged record of the kind (R122). -/
def Catalog.keyPasses (c : Catalog) (kind : AssetKind) (key : Nat) : Bool :=
  key == 0 ||
    match c.stagedRecord key with
    | some a => a.kind == kind && a.state == .complete
    | none => false

/-- The references in the order they are checked: title number, kind, key (R122). -/
def Staged.references (g : Staged) : List (Nat × AssetKind × Nat) :=
  (0, .glyphs, g.glyphKey) :: g.titles.flatMap fun t => [(t.number, .still, t.stillKey), (t.number, .clip, t.clipKey)]

/-- The first reference that fails: its title number and key (R122). -/
def Catalog.badReference (c : Catalog) (g : Staged) : Option (Nat × Nat) :=
  (g.references.find? fun r => !c.keyPasses r.2.1 r.2.2).map fun r => (r.1, r.2.2)

/-- The live-only records with readers outnumber the free places of the retiring list (R122). -/
def Catalog.retiringFull (c : Catalog) : Bool :=
  64 - c.retiring.length < c.pool.countP fun a => a.inLive && !a.inStaged && 0 < a.readers

/-- An asset joins a list in ascending key order. -/
def insertAsset (a : Asset) : List Asset → List Asset
  | [] => [a]
  | b :: rest => if a.key ≤ b.key then a :: b :: rest else b :: insertAsset a rest

/-- The staged asset records that are COMPLETE, in key order (R123). -/
def Catalog.imageAssets (c : Catalog) : List Asset :=
  (c.pool.filter fun a => a.inStaged && a.state == .complete).foldr insertAsset []

/-- The asset record layout of a catalog image, 120 bytes (R202). -/
def Asset.bytes (a : Asset) : List Byte :=
  beBytes 4 a.key ++ [byteOf a.kind.code, byteOf a.extents.length, 0#8, 0#8] ++ beBytes 4 a.length ++ beBytes 4 a.check ++
    a.desc.bytes ++ (a.extents.flatMap fun r => beBytes 4 r.first ++ beBytes 2 r.count) ++
    List.replicate (6 * (16 - a.extents.length)) 0#8

/-- The next generation number (R103). -/
def Catalog.nextNumber (c : Catalog) : Nat := (c.number + 1) % 4294967296

/-- The catalog image of the staged generation (R123, R202). -/
def Catalog.imageBytes (c : Catalog) (g : Staged) : List Byte :=
  beBytes 4 c.nextNumber ++ beBytes 4 g.glyphKey ++ beBytes 2 g.titles.length ++ beBytes 2 c.imageAssets.length ++
    beBytes 4 0 ++ g.titles.flatMap TitleRec.bytes ++ c.imageAssets.flatMap Asset.bytes

def State.setPublish (s : State) (p : Publish) : State := s.setCatalog { s.catalog with publish := some p }

/-- The page of the image at the writer, padded with FFh (log entry 24). -/
def Publish.page (p : Publish) : List Byte :=
  let bytes := (p.image.drop (4096 * p.pagesDone)).take 4096
  bytes ++ List.replicate (4096 - bytes.length) 0xFF#8

/-- The image writer asks for the image's next page (R123). -/
def imageAsk (s : State) : State :=
  match s.catalog.publish with
  | some p =>
    let s := s.setPublish { p with writer := { outstanding := true } }
    s.setStore (s.store.place .imagePage .write (.pageProgram p.page))
  | none => s

/-- An accepted PUBLISH (R122, R123). -/
def beginPublish (tag : Nat) (g : Staged) (s : State) : State :=
  let c := s.catalog.closeFailed
  let image := c.imageBytes g
  imageAsk (s.setCatalog { c with publish := some { tag := tag, number := c.nextNumber, image := image, check := crc32 image } })

def publishOwner (tag : Nat) (s : State) : State :=
  match s.catalog.staged with
  | none => reply 0x21 tag .notNow [] s
  | some g =>
    if s.catalog.publishing || s.catalog.intakeBusy then reply 0x21 tag .busy [] s
    else
      match s.store.state.writeRefusal with
      | some st => reply 0x21 tag st [] s
      | none =>
        match s.catalog.badReference g with
        | some (title, key) => reply 0x21 tag .incomplete (beBytes 2 title ++ beBytes 4 key) s
        | none => if s.catalog.retiringFull then reply 0x21 tag .busy [] s else beginPublish tag g s

/-- A publish fails with STORE_FAULT: the image's units are released, the stage stays open (R123). -/
def failPublish (s : State) : State :=
  match s.catalog.publish with
  | none => s
  | some p =>
    let st := s.store
    let busy := match st.port with
      | some q => if st.inProgress .imageOrMount then p.units.filter (· ∈ st.busyUnits q) else []
      | none => []
    let st := (st.abandonStream .imageOrMount).releaseHolders (p.units.filter (· ∉ busy))
    let st := { st with
      port := st.port.map fun q => { q with releaseUnits := q.releaseUnits ++ busy }
      rootQueue := st.rootQueue.filter (·.client != .publish)
      rootWrite := if st.rootWrite.any (·.job.client == .publish) then none else st.rootWrite }
    reply 0x21 p.tag .storeFault [] ((s.setStore st).setCatalog { s.catalog with publish := none })

/-! ### The glyph load and the switch (R124, R125) -/

/-- The glyph load begins on the live glyph record (R125). -/
def startGlyphLoad (a : Asset) (s : State) : State :=
  let runs := readRuns (takePages (pagesFor a.length) a.extents)
  let s := takeReader a.uid (s.setGlyphMemory none)
  let s := s.setCatalog { s.catalog with glyphLoad := some { record := a.uid, rest := runs.drop 1, data := [] } }
  match runs with
  | r :: _ => s.setStore (s.store.place .glyph .prefetch (.pageRead r))
  | [] => s

/-- A glyph load is abandoned; its reader is released when its operation in progress completes (R125). -/
def abandonGlyphLoad (s : State) : State :=
  match s.catalog.glyphLoad with
  | none => s
  | some g =>
    let busy := s.store.inProgress .glyph
    let st := s.store.withdraw .glyph
    let st := if busy then { st with port := st.port.map fun p => { p with orphan := true, releaseReader := some g.record } } else st
    let s := (s.setStore st).setCatalog { s.catalog with glyphLoad := none }
    if busy then s else releaseReader g.record s

/-- The glyph load ends with a failure: glyph memory stays invalid and the reader is released (R125). -/
def failGlyphLoad (s : State) : State :=
  match s.catalog.glyphLoad with
  | some g => releaseReader g.record (s.setCatalog { s.catalog with glyphLoad := none })
  | none => s

/-- The glyph memory's part of a switch; `before` is the live glyph record before it (R124, R125; log entry 23). -/
def glyphSwitch (before : Option Nat) (s : State) : State :=
  let now := if s.catalog.glyphKey = 0 then none else s.catalog.liveRecord s.catalog.glyphKey
  match now with
  | none => (abandonGlyphLoad s).setGlyphMemory none
  | some a =>
    if (s.catalog.glyphLoad.map (·.record)) = some a.uid then s
    else if before ≠ some a.uid ∨ s.catalog.glyphs = none then startGlyphLoad a (abandonGlyphLoad s)
    else s

/-- The live glyph record. -/
def Catalog.glyphRecord (c : Catalog) : Option Nat :=
  if c.glyphKey = 0 then none else (c.liveRecord c.glyphKey).map (·.uid)

/-- The switch is announced to the Plan Unit and the Still Cache (R22, R58, R124). -/
def announceSwitch (s : State) : State := plansOnSwitch (s.setCache (s.cache.onSwitch s.catalog))

/-- The record of a pool after a switch: a COMPLETE staged record is live (R124). -/
def Asset.switched (a : Asset) : Asset := { a with inLive := a.inStaged && a.state == .complete, inStaged := false }

/-- The switch: the staged generation becomes live in one step (R124). R126 sets the catalog state at a mount only and R124 does
not name it: that a switch leaves it unchanged is the model's choice (DESIGN CHOICE, log entry 47). -/
def publishSwitch (s : State) : State :=
  match s.catalog.publish, s.catalog.staged with
  | some p, some g =>
    let c := s.catalog
    let s := s.setCatalog { c with
      number := p.number, glyphKey := g.glyphKey, titles := g.titles, staged := none, publish := none
      pool := c.pool.map Asset.switched, liveImage := p.units }
    let s := settleRecords (c.pool.map (·.uid)) s
    let s := s.setStore (s.store.releaseHolders c.liveImage)
    let s := glyphSwitch c.glyphRecord (announceSwitch s)
    reply 0x21 p.tag .ok
      (beBytes 4 p.number ++ beBytes 2 g.titles.length ++ beBytes 2 (s.catalog.pool.countP (·.inLive))) s
  | _, _ => s

/-- The data of a complete glyph set: the header again, and no coverage above 15 (R125). -/
def glyphDataOk (data : List Byte) : Bool :=
  glyphHeadOk data && data.length == glyphSetLength && (data.drop 8).all fun b => b.toNat ≤ 15

/-- Every byte of the glyph set has been read (R125). -/
def finishGlyphLoad (g : GlyphLoad) (s : State) : State :=
  match s.catalog.record g.record with
  | some a =>
    let data := g.data.take a.length
    let s := s.setCatalog { s.catalog with glyphLoad := none }
    releaseReader g.record (if glyphDataOk data then s.setGlyphMemory (some (data.drop 8)) else s)
  | none => failGlyphLoad s

/-- A glyph read completes (R125). -/
def glyphReadEnd (run : Run) (pages : List PageRead) (s : State) : State :=
  match s.catalog.glyphLoad with
  | none => portEnd s
  | some g =>
    let s := portEnd (reportPages g.record run pages s)
    if pages.all readable then
      let g' := { g with data := g.data ++ pages.flatMap pageBytes, rest := g.rest.drop 1 }
      match g.rest with
      | [] => finishGlyphLoad g' s
      | r :: _ =>
        if s.store.reads then
          let s := s.setCatalog { s.catalog with glyphLoad := some g' }
          s.setStore (s.store.place .glyph .prefetch (.pageRead r))
        else failGlyphLoad s
    else failGlyphLoad s

/-- GLYPH_READ_DONE: the glyph load's read on the port completes with its pages (R125, R145). -/
def glyphReadDoneStep (pages : List PageRead) (s : State) : State :=
  match s.store.port with
  | some p =>
    match p.op with
    | .pageRead run =>
      if p.purpose = .glyph ∧ pages.length = run.count then
        eraserStep (mountIfWaiting (if p.orphan then orphanReadEnd p run pages s else glyphReadEnd run pages s))
      else s
    | _ => s
  | none => s

end Sys2Proof.Machine
end

