-- ==== Sys2Proof/Machine/SelfTests.lean ====
section
/-!
DEFINITION. The self-test (R177 to R180): its acceptance, the five tests in their order, its end with the reply and the
held WAKE edge, and the sensor reads, which a sample and the SENSOR test share (R151).
-/

namespace Sys2Proof.Machine

/-- The code pairs of the reply: the tests in the order run, then the flags that name no test (R177). -/
def SelfTest.pairs (t : SelfTest) : List Byte :=
  (t.codes ++ ([5, 6, 7].filter fun n => t.flags.testBit n).map fun n => (n, 255)).flatMap fun (p : Nat × Nat) => [byteOf p.1, byteOf p.2]

/-- The self-test ends: the reply is sent and a held WAKE edge is taken (R168, R177). -/
def endSelfTest (t : SelfTest) (s : State) : State :=
  let wake := s.power.wakeMark
  let s := reply 0x0A t.tag .ok t.pairs (s.setPower { s.power with selfTest := none, wakeMark := false })
  if wake then takeWake s else s

/-- The bit number of a test (R177). -/
def SelfTestKind.bit : SelfTestKind → Nat
  | .memory => 0 | .store => 1 | .panel => 2 | .sensor => 3 | .timebase => 4

def State.setTest (s : State) (t : SelfTest) : State := s.setPower { s.power with selfTest := some t }

/-- The tests still to run, in order: the next one begins, or the self-test ends (R177 to R180). -/
def beginTests : List SelfTestKind → SelfTest → State → State
  | [], t, s => endSelfTest t s
  | .memory :: rest, t, s =>
    (s.setTest { t with rest := rest, step := .memoryClear }).setCache { s.cache with clearWaiting := true }
  | .store :: rest, t, s =>
    if s.store.reads then
      let s := s.setTest { t with rest := rest, step := .storeDescriptor }
      s.setStore (s.store.place .testDescriptor .write .descriptorRead)
    else beginTests rest { t with codes := t.codes ++ [(1, 2)] } s
  | .panel :: rest, t, s => s.setTest { t with rest := rest, step := .panel }
  | .sensor :: rest, t, s => s.setTest { t with rest := rest, step := .sensorWait false }
  | .timebase :: rest, t, s => s.setTest { t with rest := rest, step := .timebase }

/-- The test in progress ends with a code and the next begins (R177). -/
def testEnds (kind : SelfTestKind) (code : Nat) (t : SelfTest) (s : State) : State :=
  beginTests t.rest { t with codes := t.codes ++ [(kind.bit, code)] } s

/-- The tests of the flags set, in the fixed order (R177). -/
def requestedTests (flags : Nat) : List SelfTestKind :=
  [SelfTestKind.memory, .store, .panel, .sensor, .timebase].filter fun k => flags.testBit k.bit

def selfTestOwner (tag flags : Nat) (s : State) : State :=
  if s.power.selfTest.isSome then reply 0x0A tag .busy [] s
  else if s.power.state ≠ .standby ∨ s.power.changing then reply 0x0A tag .notNow [] s
  else if s.catalog.intakeBusy ∨ s.catalog.publishing ∨ s.store.state = .mounting then reply 0x0A tag .notNow [] s
  else beginTests (requestedTests flags) { tag := tag, flags := flags, rest := [], codes := [], step := .panel } s

/-- MEMORY_TEST_DONE: the pattern test ends (R178). -/
def memoryTestDoneStep (matched : Bool) (s : State) : State :=
  match s.power.selfTest with
  | some t => if t.step = .memory then testEnds .memory (if matched then 0 else 1) t s else s
  | none => s

/-- The record check of a root record's page (R133, R202). -/
def rootCheckOk (bytes : List Byte) : Bool := crc32 (bytes.take 810) == fieldAt bytes 810 4

/-- The second check of the STORE test, or its passing over (R179). -/
def storeTestRoot (t : SelfTest) (s : State) : State :=
  match s.store.newestRoot with
  | some page =>
    let s := s.setTest { t with step := .storeRoot }
    s.setStore (s.store.place .testRoot .write (.pageRead ⟨page, 1⟩))
  | none => testEnds .store 0 t s

/-- STORE_TEST_READ_DONE: a read of the STORE test on the port is answered (R179). -/
def storeTestReadDoneStep (page : PageRead) (s : State) : State :=
  match s.store.port, s.power.selfTest with
  | some p, some t =>
    if p.purpose = .testDescriptor then storeTestRoot t (portEnd s)
    else if p.purpose = .testRoot then
      testEnds .store (if readable page && rootCheckOk (pageBytes page) then 0 else 3) t (portEnd s)
    else s
  | _, _ => s

/-- The STORE test's read fails because the store no longer answers (R179). -/
def failStoreTest (s : State) : State :=
  match s.power.selfTest with
  | some t => if t.step = .storeDescriptor ∨ t.step = .storeRoot then testEnds .store 2 t s else s
  | none => s

/-- The code of a panel loop (R180). -/
def panelCode : PanelLoop → Nat
  | .bothPass => 0
  | .panel0Fails => 4
  | .panel1Fails => 5

/-- PANEL_TEST_DONE (R180). -/
def panelTestDoneStep (result : PanelLoop) (s : State) : State :=
  match s.power.selfTest with
  | some t => if t.step = .panel then testEnds .panel (panelCode result) t s else s
  | none => s

/-- SENSOR_TEST_START: the next sample has completed and the test's own reads begin (R180). -/
def sensorTestStartStep (s : State) : State :=
  match s.power.selfTest with
  | some t =>
    if t.step = TestStep.sensorWait true ∧ s.light.port = .idle then
      (s.setTest { t with step := .sensor }).setLightAll { s.light with port := .test 0 }
    else s
  | none => s

/-- A sensor read of the SENSOR test ends; the first missed one gives its code (R180). -/
def testSensorRead (answered : Nat) (r : Option Int) (s : State) : State :=
  let idle := s.setLightAll { s.light with port := .idle }
  match s.power.selfTest with
  | none => idle
  | some t =>
    match r with
    | none => testEnds .sensor (6 + answered) t idle
    | some _ =>
      if answered = 2 then testEnds .sensor 0 t idle else s.setLightAll { s.light with port := .test (answered + 1) }

/-- A sensor read on the sensor port ends: answered, or missed (R151, R180). -/
def sensorRead (r : Option Int) (s : State) : State :=
  match s.light.port with
  | .idle => s
  | .sample reads => sampleRead reads r s
  | .test answered => testSensorRead answered r s

/-- The code of a tick count (R180). -/
def timebaseCode (ticks : Nat) : Nat := if 9045 < ticks then 9 else if ticks < 8955 then 10 else 0

/-- TIMEBASE_TEST_END (R180). -/
def timebaseTestEndStep (ticks : Nat) (s : State) : State :=
  match s.power.selfTest with
  | some t => if t.step = .timebase then testEnds .timebase (timebaseCode ticks) t s else s
  | none => s

end Sys2Proof.Machine
end

