-- ==== Sys2Proof/Machine/StoreStates.lean ====
section
/-!
DEFINITION. Changes of the store state away from service and what each client block does at them (R135, R142, R147), and
the bad unit list (R141, R142).
-/

namespace Sys2Proof.Machine

/-! ### Codes (R196) and the notice (R135, R200) -/

def StoreState.code : StoreState → Nat
  | .absent => 0 | .mounting => 1 | .online => 2 | .readOnly => 3 | .offline => 4

def CatalogState.code : CatalogState → Nat
  | .valid => 0 | .lost => 1 | .empty => 2

/-- The causes of a store-state change (R135). -/
inductive StoreCause where
  | mountStart | mountEnd | readTimeout | badListFull | rootEraseFailed
deriving DecidableEq, Repr

def StoreCause.code : StoreCause → Nat
  | .mountStart => 0 | .mountEnd => 1 | .readTimeout => 2 | .badListFull => 3 | .rootEraseFailed => 4

/-- The STORE_STATE notice of a change, as things stand after it (R135, R200). -/
def stateNotice (prev : StoreState) (cause : StoreCause) (s : State) : State :=
  notice 0xE6 ([byteOf s.store.state.code, byteOf prev.code, byteOf cause.code, byteOf s.catalog.state.code] ++
    beBytes 4 s.catalog.number) s

/-! ### What the clients do (R53, R85, R119, R123, R125, R134, R147, R176, R179) -/

/-- A still load that waits for a read, neither complete nor with an operation in progress (R53). -/
def State.loadWaits (s : State) (k : Nat) : Bool :=
  k ∉ s.cache.waitList && s.cache.decoding != some k && !s.store.inProgress (.still k)

/-- Every still load that waits for a read fails with the offline kind (R53, R56). -/
def failWaitingLoads (s : State) : State :=
  (s.cache.loads.map (·.slot)).foldl (fun s k => if s.loadWaits k then failLoad k false s else s) s

/-- A glyph load that waits for a read fails (R125). -/
def failWaitingGlyph (s : State) : State := if s.store.inProgress .glyph then s else failGlyphLoad s

/-- Root writes waiting or in progress fail; a save is answered with the status (R134, R176). -/
def failRootWrites (status : Status) (s : State) : State :=
  let st := s.store.abandonStream .root
  let s := s.setStore { st with rootQueue := [], rootWrite := none }
  match s.power.saveTag with
  | some tag => reply 0x0D tag status [] (s.setPower { s.power with saveTag := none })
  | none => s

/-- Every operation waiting at the arbiter is gone, and the eraser's waiting batch is withdrawn with its units in a state
(R137, R144, R147). -/
def Store.dropBatch (k : Option UnitState) (st : Store) : Store :=
  match st.batch with
  | some b =>
    if b.granted then st
    else
      let st := { st with batch := none }.withdraw .eraser
      match k with
      | some k => b.units.foldl (fun (st : Store) u => st.modifyUnit u fun r => { r with state := k }) st
      | none => st
  | none => st

def Store.dropWaiting (st : Store) : Store := { st.dropBatch none with arbiter := [], heldBack := [], cleanWait := [] }

/-- The store leaves service altogether: it becomes OFFLINE, or MOUNTING by a REMOUNT (R85, R137, R144, R147). -/
def leaveService (new : StoreState) (cause : StoreCause) (s : State) : State :=
  let prev := s.store.state
  let s := s.setStore { s.store.dropWaiting with state := new }
  let s := failWaitingGlyph (failWaitingLoads (lanesStoreLoss s))
  let s := failPublish (failIntake .storeOffline s)
  let s := failRootWrites .storeOffline s
  let s := if new = .offline then failStoreTest s else s
  stateNotice prev cause s

/-- Root writes fail at once when the port is free; otherwise their operations are withdrawn, and the writes fail when the
operation on the port has ended (R134; log entry 37). -/
def stopRootWrites (s : State) : State :=
  if s.store.port.isNone then failRootWrites .storeReadOnly s else s.setStore (s.store.withdraw .root)

/-- The store becomes READ_ONLY in service (R119, R123, R134, R142, R144). -/
def becomeReadOnly (cause : StoreCause) (s : State) : State :=
  let prev := s.store.state
  let s := s.setStore { s.store.dropBatch (some .freeDirty) with state := .readOnly }
  let s := failPublish (failIntake .storeReadOnly s)
  let s := stopRootWrites s
  stateNotice prev cause s

/-! ### Bad units (R140 to R142) -/

/-- A number joins an ascending list without duplicates (R141). -/
def insertUnit (u : Nat) : List Nat → List Nat
  | [] => [u]
  | v :: rest => if u < v then u :: v :: rest else if u = v then v :: rest else v :: insertUnit u rest

/-- A unit has failed: it becomes BAD and is listed; with a full list an ONLINE store becomes READ_ONLY instead (R142). -/
def addBad (u : Nat) (s : State) : State :=
  let st := s.store.modifyUnit u fun r => { r with state := .bad }
  if st.badUnits.length < 256 then s.setStore { st with badUnits := insertUnit u st.badUnits }
  else
    let s := s.setStore st
    if st.state = .online then becomeReadOnly .badListFull s else s

end Sys2Proof.Machine
end

