-- ==== Sys2Proof/Machine/Programs.lean ====
section
/-!
DEFINITION. The Store Controller in service (R129, R134, R138 to R140, R143, R144, R148, R149): the port's grants, page
programs of the asset and image streams with their relocations, root writes, erases, and the requests STORE_INFO and
SETTINGS_SAVE.
-/

namespace Sys2Proof.Machine

/-! ### The arbiter's choice (R148) -/

def OpClass.rank : OpClass → Nat
  | .lane => 0 | .stillVisible => 1 | .write => 2 | .prefetch => 3 | .erase => 4

/-- The first entry of a list that no other betters, with its place. -/
def firstBest (better : WaitingOp → WaitingOp → Bool) (ws : List (WaitingOp × Nat)) : Option (WaitingOp × Nat) :=
  ws.foldl (fun best w => match best with | none => some w | some b => if better w.1 b.1 then some w else some b) none

/-- The lane of a lane read. -/
def laneOfPurpose : Purpose → Option (Fin 3)
  | .laneHeader l => some l
  | .laneUnits l => some l
  | _ => none

/-- One waiting operation goes before another by class, and within LANE by ring fill and then lane number (R148). -/
def State.goesBefore (s : State) (a b : WaitingOp) : Bool :=
  a.cls.rank < b.cls.rank ||
    match a.cls, laneOfPurpose a.purpose, laneOfPurpose b.purpose with
    | .lane, some x, some y =>
      b.cls == .lane && ((s.lane x).fill < (s.lane y).fill || ((s.lane x).fill == (s.lane y).fill && x < y))
    | _, _, _ => false

/-- The waiting operation the arbiter chooses: by aging at 32, else by class (R148). -/
def State.choice (s : State) : Option (WaitingOp × Nat) :=
  let all := s.store.arbiter.zipIdx
  let aged := all.filter fun w => 32 ≤ w.1.passed
  if aged = [] then firstBest s.goesBefore all else firstBest (fun a b => b.passed < a.passed) aged

/-! ### Write streams: the asset stream and the image stream (R138 to R140) -/

/-- The stream's write goes on. -/
def State.streamActive (s : State) (image : Bool) : Bool := if image then s.catalog.publishing else s.catalog.intakeBusy

/-- The stream's writer. -/
def State.writer (s : State) (image : Bool) : Writer :=
  if image then (s.catalog.publish.map (·.writer)).getD {} else s.catalog.intake.writer

def State.setWriter (image : Bool) (w : Writer) (s : State) : State :=
  if image then s.setCatalog { s.catalog with publish := s.catalog.publish.map fun p => { p with writer := w } }
  else s.setIntake { s.catalog.intake with writer := w }

/-- The stream's write fails: for the intake with the status, for a publish with STORE_FAULT (R119, R123). -/
def failStream (image : Bool) (status : Status) (s : State) : State := if image then failPublish s else failIntake status s

/-- The page the stream's writer has outstanding. -/
def State.streamPage (s : State) (image : Bool) : List Byte :=
  if image then (s.catalog.publish.map Publish.page).getD [] else intakePage s.catalog.intake.buffer

def placeProgram (image : Bool) (data : List Byte) (s : State) : State :=
  s.setStore (s.store.place (if image then .imagePage else .intakePage) .write (.pageProgram data))

/-- A FREE_CLEAN unit is taken: for the asset stream as the fill unit, for the image stream as the image's unit with the
image as its holder (R138). -/
def takeUnit (image : Bool) (u : Nat) (s : State) : State :=
  if image then
    let s := s.setStore (s.store.modifyUnit u fun r => { r with state := .sealed, holders := r.holders + 1 })
    s.setCatalog { s.catalog with publish := s.catalog.publish.map fun p => { p with units := p.units ++ [u], nextPage := 0 } }
  else
    let st := s.store.modifyUnit u fun r => { r with state := .filling }
    s.setStore { st with fillUnit := some ⟨u, 0⟩ }

/-- The page the stream's next program goes to, while its unit has one left (R138). -/
def State.streamNext (s : State) (image : Bool) : Option Nat :=
  let ppu := s.store.pagesPerUnit
  if image then
    match s.catalog.publish with
    | some p => (p.units.getLast?).bind fun u => if p.nextPage < ppu then some (u * ppu + p.nextPage) else none
    | none => none
  else s.store.fillUnit.bind fun f => if f.page < ppu then some (f.unit * ppu + f.page) else none

/-- No clean unit is to be had: the page waits outside the arbiter, or fails with NO_SPACE (R138). -/
def waitClean (image : Bool) (w : CleanWait) (s : State) : State :=
  if s.store.reclaimable then s.setStore { s.store with cleanWait := s.store.cleanWait ++ [w] }
  else failStream image .noSpace s

/-- The program limit of the descriptor, in ms (R129, R130). -/
def Store.programLimit (st : Store) : Nat := (st.descriptor.map (·.programLimit)).getD 0

/-- A page program goes to the store (R139). -/
def sendProgram (w : WaitingOp) (page : Nat) (s : State) : State :=
  s.setStore { s.store with
    port := some { purpose := w.purpose, op := w.op, limit := s.store.programLimit, page := page } }

/-- A granted page program of a write stream: its page is chosen, or it waits (R138, R139). -/
def grantProgram (image : Bool) (w : WaitingOp) (s : State) : State :=
  match s.streamNext image, s.store.lowestClean with
  | some page, _ => sendProgram w page s
  | none, some u =>
    let s := takeUnit image u s
    sendProgram w (u * s.store.pagesPerUnit) s
  | none, none => waitClean image (.program w) s

/-- The pages the write already has in a unit, in their order (R140). -/
def State.streamPagesIn (s : State) (image : Bool) (unit : Nat) : List Nat :=
  if image then List.range' (unit * s.store.pagesPerUnit) ((s.catalog.publish.map (·.nextPage)).getD 0)
  else
    match s.catalog.record s.catalog.intake.record with
    | some a => (runPages a.extents).filter fun p => s.store.unitOfPage p = unit
    | none => []

/-- A relocation goes on: the next page is read back, or the failed page is programmed again (R140); one page is read back in
an operation and programmed before the next is read (the model's choice, log entry 19). -/
def relocNext (image : Bool) (r : Relocation) (s : State) : State :=
  let s := s.setWriter image { s.writer image with reloc := some r }
  match r.src[r.moved.length]? with
  | some page => s.setStore (s.store.place (if image then .imageReadBack else .intakeReadBack) .write (.pageRead ⟨page, 1⟩))
  | none => placeProgram image (s.streamPage image) s

/-- A relocation takes its fresh unit (R140 step 2). -/
def takeFresh (image : Bool) (r : Relocation) (s : State) : State :=
  match s.store.lowestClean with
  | some u => relocNext image { r with fresh := true } (takeUnit image u s)
  | none => waitClean image (.relocation image) (s.setWriter image { s.writer image with reloc := some r })

/-- The relocation that a failure begins: what stood in the failed unit is read from where it is now (R140; log entry 29). -/
def nextRelocation (pages : List Nat) : Option Relocation → Relocation
  | some r => { r with src := r.moved ++ r.src.drop r.moved.length, moved := [], fresh := false }
  | none => { origin := pages, src := pages, moved := [], fresh := false }

/-- A page of a write stream has failed: the unit is BAD, and a relocation begins or the write fails (R139, R140). -/
def streamFail (image : Bool) (page : Nat) (s : State) : State :=
  let x := s.store.unitOfPage page
  let s := if image then s else s.setStore { s.store with fillUnit := none }
  let pages := s.streamPagesIn image x
  let s := addBad x s
  if s.streamActive image then
    let w := s.writer image
    if 2 ≤ w.failures then failStream image .storeFault s
    else takeFresh image (nextRelocation pages w.reloc) (s.setWriter image { w with failures := w.failures + 1 })
  else s

/-- A record's extents are replaced and its holders moved with them (R116, R132). -/
def setExtents (uid : Nat) (old new : List Run) (s : State) : State :=
  let ppu := s.store.pagesPerUnit
  let was := unitsOfRuns ppu old
  let is := unitsOfRuns ppu new
  let st := (s.store.addHolders (is.filter (· ∉ was))).releaseHolders (was.filter (· ∉ is))
  (s.setStore st).setCatalog (s.catalog.modify uid fun a => { a with extents := new })

/-- The extents after a verified page, with the pages a relocation moved replaced (R116, R140). -/
def extentsWith (old : List Run) (r : Option Relocation) (page : Nat) : List Run :=
  match r with
  | none => appendPage old page
  | some r =>
    let moved := r.origin.zip r.moved
    appendPage (runsOf ((runPages old).map fun p => ((moved.find? (·.1 == p)).map (·.2)).getD p)) page

/-- INTAKE_OPEN is sent when the fill has fallen to 16,384 or less after a refusal (R117, R200). -/
def intakeOpenTest (s : State) : State :=
  let k := s.catalog.intake
  if k.refused ∧ k.buffer.length ≤ 16384 then
    notice 0xE1 (beBytes 4 k.key ++ beBytes 4 k.buffer.length) (s.setIntake { k with refused := false })
  else s

/-- A page of the intake is programmed and verified: it is entered, and the intake goes on or is judged (R116 to R118). -/
def enterPage (page : Nat) (s : State) : State :=
  let k := s.catalog.intake
  match s.catalog.record k.record with
  | none => s
  | some a =>
    let new := extentsWith a.extents k.writer.reloc page
    if 16 < new.length then failIntake .extentLimit s
    else
      let s := setExtents a.uid a.extents new s
      let s := s.setIntake { k with buffer := k.buffer.drop 4096, writer := {} }
      if k.state = .finishing ∧ k.buffer.drop 4096 = [] then judgeIntake s else intakeAsk (intakeOpenTest s)

/-- The image's failed units leave its unit list and lose it as a holder (R140). -/
def dropFailedUnits (s : State) : State :=
  match s.catalog.publish with
  | none => s
  | some p =>
    let bad := s.store.unitsIn .bad
    let s := s.setStore (s.store.releaseHolders (p.units.filter (· ∈ bad)))
    s.setPublish { p with units := p.units.filter (· ∉ bad) }

/-- A page of the image is programmed and verified: the next is asked for, or the root write (R123). -/
def imagePageDone (s : State) : State :=
  let s := dropFailedUnits s
  match s.catalog.publish with
  | none => s
  | some p =>
    let done := p.pagesDone + 1
    let s := s.setPublish { p with pagesDone := done, writer := {}, atRoot := done == pagesFor p.image.length }
    if done = pagesFor p.image.length then
      let part : ImagePart := { units := p.units, length := p.image.length, check := p.check }
      s.setStore { s.store with rootQueue := s.store.rootQueue ++ [{ client := .publish, image := some part }] }
    else imageAsk s

/-- A program of a stream passed: a moved page is noted, or the page is done (R139, R140). -/
def streamPass (image : Bool) (page : Nat) (s : State) : State :=
  let done := if image then imagePageDone s else enterPage page s
  match (s.writer image).reloc with
  | some r => if r.moved.length < r.src.length then relocNext image { r with moved := r.moved ++ [page] } s else done
  | none => done

/-- The stream's next page moves on by one (R139). -/
def advanceStream (image : Bool) (s : State) : State :=
  if image then
    s.setCatalog { s.catalog with publish := s.catalog.publish.map fun p => { p with nextPage := p.nextPage + 1 } }
  else s.setStore { s.store with fillUnit := s.store.fillUnit.map fun f => { f with page := f.page + 1 } }

/-- A fill unit whose last page is programmed becomes SEALED, or FREE_DIRTY without holders (R132). -/
def sealFill (s : State) : State :=
  match s.store.fillUnit with
  | some f =>
    if s.store.pagesPerUnit ≤ f.page then
      let st := s.store.modifyUnit f.unit fun r => { r with state := if 1 ≤ r.holders then .sealed else .freeDirty }
      s.setStore { st with fillUnit := none }
    else s
  | none => s

/-- A program of the asset stream ends (R139, R140; log entry 20 for one left to itself). -/
def assetProgramEnd (ok : Bool) (p : PortOp) (s : State) : State :=
  if ok then
    let s := advanceStream false s
    sealFill (if p.orphan then s else streamPass false p.page s)
  else if p.orphan then addBad (s.store.unitOfPage p.page) (s.setStore { s.store with fillUnit := none })
  else streamFail false p.page s

/-- A program of the image stream ends (R123, R139, R140). -/
def imageProgramEnd (ok : Bool) (p : PortOp) (s : State) : State :=
  if p.orphan then (if ok then s else addBad (s.store.unitOfPage p.page) s)
  else if ok then streamPass true p.page (advanceStream true s)
  else streamFail true p.page s

/-- A read-back of a page to be moved completes (R140). -/
def readBackEnd (image : Bool) (page : PageRead) (s : State) : State :=
  if readable page then placeProgram image (pageBytes page) s else failStream image .storeFault s

/-- RELOCATION_READ_DONE (R140). -/
def relocationReadDoneStep (page : PageRead) (s : State) : State :=
  match s.store.port with
  | some p =>
    if p.purpose = .intakeReadBack ∨ p.purpose = .imageReadBack then
      let s := portEnd s
      eraserStep (mountIfWaiting (if p.orphan then s else readBackEnd (p.purpose == .imageReadBack) page s))
    else s
  | none => s

/-! ### Root writes (R133, R134, R202) -/

/-- A root record's bytes, 814 in all (R202). -/
def RootRecord.bytes (r : RootRecord) : List Byte :=
  let body := beBytes 4 r.sequence ++ [byteOf r.image.units.length, 0#8, 0#8, 0#8] ++
    r.image.units.flatMap (beBytes 2) ++ List.replicate (2 * (8 - r.image.units.length)) 0#8 ++
    beBytes 4 r.image.length ++ beBytes 4 r.image.check ++ r.settings.flatMap (beBytes 4) ++
    beBytes 2 r.badUnits.length ++ r.badUnits.flatMap (beBytes 2) ++ List.replicate (2 * (256 - r.badUnits.length)) 0#8
  body ++ beBytes 4 (crc32 body)

/-- The page a root record is programmed in; the bytes after the record are FFh (log entry 24). -/
def RootRecord.page (r : RootRecord) : List Byte := r.bytes ++ List.replicate (4096 - r.bytes.length) 0xFF#8

/-- The sequence of the next record (R133; log entry 11). -/
def nextSequence (highest : Nat) : Nat := if highest < 4294967295 then highest + 1 else Config.sequenceAfterLast.toNat

/-- A root record as it is formed, with the settings block of the root write's turn (R134, R176). -/
def formRecord (job : RootJob) (settings : List Nat) (s : State) : RootRecord :=
  { sequence := nextSequence s.store.highestSeq, image := job.image.getD s.store.imagePart, settings := settings
    badUnits := s.store.badUnits }

def Store.rootPosition (st : Store) : PagePos := st.rootPos.getD ⟨1, st.pagesPerUnit⟩

/-- A formed record is placed at the root log position, or the other root unit's erase is placed first (R134). -/
def rootPlace (record : RootRecord) (s : State) : State :=
  let pos := s.store.rootPosition
  if pos.page < s.store.pagesPerUnit then s.setStore (s.store.place .rootPage .write (.pageProgram record.page))
  else s.setStore (s.store.place .rootErase .write (.erase [1 - pos.unit]))

/-- A root write forms its record, for the first time or again (R134). The settings block is that of the write's turn (R176); that a
record formed again otherwise holds what stands then, and that a publish's does the same, is read from R134 (DEDUCED, log entry
51). -/
def rootForm (job : RootJob) (settings : List Nat) (failures : Nat) (s : State) : State :=
  let record := formRecord job settings s
  rootPlace record (s.setStore { s.store with rootWrite := some { job := job, record := record, failures := failures } })

/-- ROOT_WRITE_START: the next root write's turn comes (R134). -/
def rootWriteStartStep (s : State) : State :=
  match s.store.rootWrite, s.store.rootQueue with
  | none, job :: rest =>
    if s.store.state = .online then rootForm job (settingsBlock s) 0 (s.setStore { s.store with rootQueue := rest }) else s
  | _, _ => s

/-- A SETTINGS_SAVE is answered (R176). -/
def answerSave (status : Status) (data : List Byte) (s : State) : State :=
  match s.power.saveTag with
  | some tag => reply 0x0D tag status data (s.setPower { s.power with saveTag := none })
  | none => s

/-- The root write in progress fails with STORE_FAULT (R134, R123, R176). -/
def rootFails (client : RootClient) (s : State) : State :=
  let s := s.setStore { s.store with rootWrite := none }
  match client with
  | .publish => failPublish s
  | .save => answerSave .storeFault [] s

/-- The root log position moves to the next page (R134). -/
def rootAdvance (s : State) : State :=
  let pos := s.store.rootPosition
  s.setStore { s.store with rootPos := some { pos with page := pos.page + 1 } }

/-- A root record is verified (R134). -/
def rootVerified (w : RootWrite) (page : Nat) (s : State) : State :=
  let s := s.setStore { s.store with
    highestSeq := w.record.sequence, imagePart := w.record.image, newestRoot := some page, rootWrite := none }
  match w.job.client with
  | .publish => publishSwitch s
  | .save => answerSave .ok (beBytes 4 w.record.sequence) s

/-- A program of a root record ends (R134). -/
def rootProgramEnd (ok : Bool) (p : PortOp) (s : State) : State :=
  match s.store.rootWrite with
  | none => s
  | some w =>
    if p.orphan then s
    else if ok then rootVerified w p.page (rootAdvance s)
    else if 2 ≤ w.failures then rootFails w.job.client (rootAdvance s)
    else rootForm w.job w.record.settings (w.failures + 1) (rootAdvance s)

/-- PAGE_PROGRAM_DONE: the page program on the port ends (R139). -/
def pageProgramDoneStep (outcome : ProgramOutcome) (s : State) : State :=
  match s.store.port with
  | some p =>
    match p.op with
    | .pageProgram _ =>
      let ok := outcome == .pass
      let s := portEnd s
      let s := match p.purpose with
        | .intakePage => assetProgramEnd ok p s
        | .imagePage => imageProgramEnd ok p s
        | .rootPage => rootProgramEnd ok p s
        | _ => s
      eraserStep (mountIfWaiting s)
    | _ => s
  | none => s

/-! ### Grants (R129, R143, R148) -/

/-- A granted root page goes to the root log position (R134). -/
def grantRootPage (w : WaitingOp) (s : State) : State :=
  let pos := s.store.rootPosition
  sendProgram w (pos.unit * s.store.pagesPerUnit + pos.page) s

/-- A granted operation begins on the port (R129, R143). -/
def beginOp (w : WaitingOp) (s : State) : State :=
  match w.op with
  | .descriptorRead => s.setStore { s.store with port := some { purpose := w.purpose, op := w.op, limit := 50 } }
  | .pageRead _ => s.setStore { s.store with port := some { purpose := w.purpose, op := w.op, limit := 50 } }
  | .erase us =>
    let limit := (s.store.descriptor.map fun d => eraseDeadlineMs d us.length).getD 0
    let batch := if w.purpose = .eraseBatch then s.store.batch.map fun b => { b with granted := true } else s.store.batch
    s.setStore { s.store with
      batch := batch, port := some { purpose := w.purpose, op := w.op, limit := limit, unreported := us } }
  | .pageProgram _ =>
    match w.purpose with
    | .rootPage => grantRootPage w s
    | p => grantProgram (p == .imagePage) w s

/-- PORT_GRANT: the free port is granted to the waiting operation chosen, and every other has been passed over (R148). -/
def portGrantStep (s : State) : State :=
  match s.store.port, s.choice with
  | none, some (w, i) =>
    let rest := (s.store.arbiter.eraseIdx i).map fun x => { x with passed := x.passed + 1 }
    eraserStep (beginOp w (s.setStore { s.store with arbiter := rest }))
  | _, _ => s

/-! ### Erases (R134, R143, R144) -/

/-- A page that waited for a clean unit is placed, or its relocation goes on (R138, R144). -/
def wakeClean (s : State) : State :=
  match s.store.cleanWait with
  | [] => s
  | w :: rest =>
    let s := s.setStore { s.store with cleanWait := rest }
    match w with
    | .program op => s.setStore (s.store.place op.purpose op.cls op.op)
    | .relocation image =>
      match (s.writer image).reloc with
      | some r => takeFresh image r s
      | none => s

/-- A unit reports PASS: it is FREE_CLEAN (R144). -/
def cleanUnit (u : Nat) (s : State) : State :=
  wakeClean (s.setStore (s.store.modifyUnit u fun r => { r with state := .freeClean }))

/-- A page that waits for a clean unit fails with NO_SPACE when none can come any more (R138). -/
def noSpaceTest (s : State) : State :=
  match s.store.cleanWait with
  | [] => s
  | w :: _ =>
    if s.store.lowestClean.isNone && !s.store.reclaimable then failStream (w.client == .imageOrMount) .noSpace s else s

/-- Root writes that a change to READ_ONLY has stopped fail when the operation on the port has ended (R134). -/
def stoppedRootWrites (s : State) : State :=
  if s.store.state = .readOnly then failRootWrites .storeReadOnly s else s

/-- The batch ends and frees the port (R144), and root writes stopped during it fail (R134). -/
def batchEnd (s : State) : State :=
  stoppedRootWrites (noSpaceTest (portEnd (s.setStore { s.store with batch := none })))

/-- The erase of a root unit has failed: the root write fails and the store becomes READ_ONLY (R134, R142). -/
def rootEraseFails (s : State) : State :=
  let s := portEnd s
  let s := match s.store.rootWrite with
    | some w => rootFails w.job.client s
    | none => s
  if s.store.state = .online then becomeReadOnly .rootEraseFailed s else s

/-- The erase of a root unit has passed: the log position becomes its page 0 (R134). -/
def rootErased (u : Nat) (s : State) : State :=
  let s := portEnd s
  let s := s.setStore { s.store with rootPos := some ⟨u, 0⟩ }
  match s.store.rootWrite with
  | some w => rootPlace w.record s
  | none => s

/-- A unit of the eraser's batch reports (R144). -/
def batchReport (u : Nat) (passed : Bool) (rest : List Nat) (s : State) : State :=
  let s := if passed then cleanUnit u s else addBad u s
  if rest = [] then batchEnd s else s

/-- ERASE_UNIT_REPORT: a unit of the erase on the port reports (R134, R144). -/
def eraseUnitReportStep (u : Nat) (passed : Bool) (s : State) : State :=
  match s.store.port with
  | some p =>
    if u ∈ p.unreported then
      let rest := p.unreported.filter (· != u)
      let s' :=
        if p.purpose = .rootErase then (if passed then rootErased u s else rootEraseFails s)
        else batchReport u passed rest (s.setStore { s.store with port := some { p with unreported := rest } })
      eraserStep (mountIfWaiting s')
    else s
  | none => s

/-- ERASE_DEADLINE: the deadline of the erase on the port expires (R134, R144). -/
def eraseDeadlineStep (s : State) : State :=
  match s.store.port with
  | some p =>
    match p.op with
    | .erase _ =>
      let s' :=
        if p.purpose = .rootErase then rootEraseFails s
        else batchEnd (p.unreported.foldl (fun s u => addBad u s) s)
      eraserStep (mountIfWaiting s')
    | _ => s
  | none => s

/-! ### STORE_INFO and SETTINGS_SAVE (R149, R176) -/

/-- The descriptor's fields as STORE_INFO gives them, 0 without a descriptor copy (R149). -/
def descriptorBytes : Option Descriptor → List Byte
  | some d => [byteOf d.pagesPerUnit] ++ beBytes 2 d.unitCount ++ [byteOf d.correctable, byteOf d.programLimit] ++
      [byteOf d.batchSize] ++ beBytes 2 d.batchTime ++ [byteOf d.fixedTime, flagByte d.protect]
  | none => List.replicate 10 0#8

/-- The number of units in the erase batch in progress or waiting (R149). A root unit's erase counts as a batch of 1 (DEDUCED),
and while an eraser's batch and a root unit's erase exist together the eraser's batch alone is counted (DESIGN CHOICE); both are
log entry 21. -/
def Store.batchCount (st : Store) : Nat :=
  match st.batch with
  | some b => b.units.length
  | none => if st.rootErasing then 1 else 0

/-- STORE_INFO's data (R149). -/
def Store.info (st : Store) : List Byte :=
  let count := fun k : UnitState => beBytes 2 (st.units.countP (·.state == k))
  [byteOf st.state.code] ++ descriptorBytes st.descriptor ++
    (count .root ++ count .freeDirty ++ count .erasing ++ count .freeClean ++ count .filling ++ count .sealed ++ count .bad) ++
    beBytes 2 st.badUnits.length ++ beOption 2 (st.fillUnit.map (·.unit)) ++ beOption 1 (st.fillUnit.map (·.page)) ++
    beOption 1 (st.rootPos.map (·.unit)) ++ beOption 1 (st.rootPos.map (·.page)) ++ beBytes 4 st.highestSeq ++
    [byteOf st.batchCount]

def storeInfoOwner (tag : Nat) (s : State) : State := reply 0x10 tag .ok s.store.info s

def settingsSaveOwner (tag : Nat) (s : State) : State :=
  if s.power.saveTag.isSome then reply 0x0D tag .busy [] s
  else
    match s.store.state.writeRefusal with
    | some st => reply 0x0D tag st [] s
    | none =>
      (s.setPower { s.power with saveTag := some tag }).setStore
        { s.store with rootQueue := s.store.rootQueue ++ [{ client := .save, image := none }] }

end Sys2Proof.Machine
end

