-- ==== Sys2Proof/Machine/Mounts.lean ====
section
/-!
DEFINITION. Mounts (R126, R127, R130, R136, R137): the descriptor, the root units, the hand-over, the catalog image, the unit
table, the end with HELLO or the REMOUNT reply; REMOUNT; and the time limits of reads (R130, R146).
-/

namespace Sys2Proof.Machine

/-! ### The end of a mount (R136, R172) -/

/-- HELLO's payload (R172, R200). -/
def helloBytes (s : State) : List Byte :=
  beBytes 2 0x5436 ++ [3#8, byteOf s.store.state.code, byteOf s.catalog.state.code] ++ beBytes 4 s.catalog.number ++
    [if s.power.settings = some .loaded then 0#8 else 1#8] ++ causeBytes s.power.causes

/-- HELLO is handed to the Link, which accepts frames from then on; it is never dropped (R172, R190). -/
def hello (s : State) : State :=
  s.setLink ({ s.link with helloSent := true }.push { kind := 0xE0, tag := 0, payload := helloBytes s })

/-- The deferred reply to a REMOUNT (R137, R199). -/
def answerRemount (s : State) : State :=
  match s.store.remountTag with
  | some tag =>
    let status := if s.store.reads then Status.ok else .storeOffline
    reply 0x11 tag status ([byteOf s.store.state.code, byteOf s.catalog.state.code] ++ beBytes 4 s.catalog.number)
      (s.setStore { s.store with remountTag := none })
  | none => s

/-- The glyph load of a mount's end (R125, R126); an image's nonzero glyph key that names no live record begins no load, and
glyph memory stays invalid (the model's choice, log entry 45). -/
def mountGlyphs (s : State) : State :=
  if s.store.reads ∧ s.catalog.glyphKey ≠ 0 then
    match s.catalog.liveRecord s.catalog.glyphKey with
    | some a => startGlyphLoad a s
    | none => s
  else s

/-- A mount ends in a store state: the start-up mount with HELLO, a REMOUNT with the announcement and its reply, and then
STORE_STATE (R127, R135, R136, R172). -/
def mountEnd (new : StoreState) (cause : StoreCause) (s : State) : State :=
  let first := s.store.startUp
  let s := s.setStore { s.store with state := new, mount := .none, startUp := false }
  let s := if first then hello s else answerRemount (announceSwitch s)
  stateNotice .mounting cause (mountGlyphs s)

/-- The live generation is empty with number 0, and the catalog state is the one given (R126). -/
def Catalog.noGeneration (k : CatalogState) (c : Catalog) : Catalog :=
  { c with number := 0, glyphKey := 0, titles := [], liveImage := [], state := k, pool := c.pool.filter fun a => !a.inLive }

/-- The mount ends ABSENT or OFFLINE: an empty live generation with catalog state EMPTY, no units, no bad list, no fill unit, no
image part; at a start-up mount whose settings were not yet handed over, the defaults are loaded (R126, R136, R171). -/
def mountFails (new : StoreState) (cause : StoreCause) (s : State) : State :=
  let s := s.setCatalog (s.catalog.noGeneration .empty)
  let s := s.setStore { s.store with units := [], badUnits := [], fillUnit := none, imagePart := {} }
  let s := if s.store.startUp ∧ s.power.settings = none then settingsLoad none s else s
  mountEnd new cause s

/-- The mount ends ABSENT at step 1 (R130, R136); the store has no geometry. -/
def mountAbsent (s : State) : State := mountFails .absent .mountEnd (s.setStore { s.store with descriptor := none })

/-! ### The unit table (R136 step 4) -/

/-- One entry of the unit table a mount builds (R131, R136). That units 0 and 1 stay ROOT where the bad unit list names them is
the model's choice (DESIGN CHOICE, log entry 50). -/
def mountedUnit (bad held : List Nat) (u : Nat) : UnitRec :=
  if u < 2 then { state := .root, holders := 0 }
  else if u ∈ bad then { state := .bad, holders := held.count u }
  else if u ∈ held then { state := .sealed, holders := held.count u }
  else { state := .freeDirty, holders := 0 }

/-- The holders the Catalog hands over: one for each unit of the image and of each record (R126). -/
def mountHolders (ppu : Nat) (c : Catalog) : List Nat := c.liveImage ++ c.pool.flatMap fun a => unitsOfRuns ppu a.extents

/-- The mount ends with the store in service (R136 steps 4 and 5). -/
def mountService (record : Option RootRecord) (s : State) : State :=
  match s.store.descriptor with
  | none => s
  | some d =>
    let bad := (record.map (·.badUnits)).getD []
    let held := mountHolders d.pagesPerUnit s.catalog
    let part : ImagePart := if s.catalog.state = .valid then (record.map (·.image)).getD {} else {}
    let s := s.setStore { s.store with
      units := (List.range d.unitCount).map (mountedUnit bad held), badUnits := bad, fillUnit := none, imagePart := part }
    mountEnd (if d.protect then .readOnly else .online) .mountEnd s

/-! ### The catalog image (R126, R202) -/

def strictlyRising : List Nat → Bool
  | a :: b :: rest => a < b && strictlyRising (b :: rest)
  | _ => true

/-- A title record of an image (R202); a name count above 48 is read as 48 (the model's choice, log entry 27). -/
def titleAtOffset (bytes : List Byte) (o : Nat) : TitleRec :=
  { number := fieldAt bytes o 2, badge := fieldAt bytes (o + 2) 1, tint := rgbAt bytes (o + 3)
    stillKey := fieldAt bytes (o + 6) 4, clipKey := fieldAt bytes (o + 10) 4
    name := (bytes.drop (o + 15)).take (min 48 (fieldAt bytes (o + 14) 1)) }

/-- The kind data that a kind uses: a STILL no period and no unit count, GLYPHS none of the four (R121, R202). -/
def AssetKind.usedData (d : ClipDesc) : AssetKind → ClipDesc
  | .still => { width := d.width, height := d.height }
  | .clip => d
  | .glyphs => {}

/-- An asset record of an image, COMPLETE and live (R126, R202); an extent count above 16 is read as 16, and a count of 0
leaves no extent (the model's choice, log entry 27). Kind data that the record's kind does not use, which R202
leaves 0, is read as 0 whatever stands there (DESIGN CHOICE, log entry 27), and every other field out of its range is kept as it stands (DESIGN CHOICE, log entry 27).
Neither rule gives the bytes accepted of a loaded record: that they are
its announced length is the model's choice (DESIGN CHOICE, log entry 46). -/
def assetAtOffset (bytes : List Byte) (o uid : Nat) : Option Asset :=
  (AssetKind.ofCode (fieldAt bytes (o + 4) 1)).map fun kind =>
    { uid := uid, key := fieldAt bytes o 4, kind := kind, length := fieldAt bytes (o + 8) 4
      check := fieldAt bytes (o + 12) 4, state := .complete
      extents := (List.range (min 16 (fieldAt bytes (o + 5) 1))).map fun j =>
        ⟨fieldAt bytes (o + 24 + 6 * j) 4, fieldAt bytes (o + 28 + 6 * j) 2⟩
      accepted := fieldAt bytes (o + 8) 4, inLive := true, inStaged := false, readers := 0, damaged := false
      desc := kind.usedData { width := fieldAt bytes (o + 16) 2, height := fieldAt bytes (o + 18) 2
                              period := fieldAt bytes (o + 20) 2, units := fieldAt bytes (o + 22) 2 } }

/-- The live generation built from an image of the root record's length and check; none where the image is lost (R126,
R202). Counts beyond R103's 2,048 titles and 4,096 assets do not lose it (the model's choice, log entry 27). -/
def buildCatalog (part : ImagePart) (bytes : List Byte) (c : Catalog) : Option Catalog :=
  let t := fieldAt bytes 8 2
  let n := fieldAt bytes 10 2
  let titles := (List.range t).map fun i => titleAtOffset bytes (16 + 64 * i)
  let assets := (List.range n).map fun i => assetAtOffset bytes (16 + 64 * t + 120 * i) (c.nextUid + i)
  let pool := assets.filterMap id
  if bytes.length = part.length ∧ crc32 bytes = part.check ∧ part.length = 16 + 64 * t + 120 * n ∧ pool.length = n ∧
      strictlyRising (titles.map (·.number)) ∧ strictlyRising (pool.map (·.key)) then
    some { c with
      number := fieldAt bytes 0 4, glyphKey := fieldAt bytes 4 4, titles := titles, pool := pool
      liveImage := part.units, state := .valid, nextUid := c.nextUid + n }
  else none

/-- The image is lost: the live generation is empty with number 0 (R126). -/
def imageLost (record : RootRecord) (s : State) : State :=
  mountService (some record) (s.setCatalog (s.catalog.noGeneration .lost))

/-- The image has been read in full (R126). -/
def imageRead (record : RootRecord) (data : List Byte) (s : State) : State :=
  match buildCatalog record.image (data.take record.image.length) s.catalog with
  | some c => mountService (some record) (s.setCatalog c)
  | none => imageLost record s

/-- The pages of an image in unit-list order and page order (R202). -/
def imageRuns (ppu : Nat) (part : ImagePart) : List Run :=
  takePages (pagesFor part.length) (part.units.map fun u => ⟨u * ppu, ppu⟩)

/-- The image's units and length make an image that can be read (log entry 27). -/
def imageReadable (d : Descriptor) (part : ImagePart) : Bool :=
  part.units.all (· < d.unitCount) && 16 ≤ part.length && pagesFor part.length ≤ part.units.length * d.pagesPerUnit

/-- CATALOG_IMAGE_READ_DONE: a read of the mount's image completes (R126, R145). -/
def catalogImageReadDoneStep (pages : List PageRead) (s : State) : State :=
  match s.store.port, s.store.mount with
  | some p, .image record data rest =>
    match p.op with
    | .pageRead run =>
      if p.purpose = .mountImage ∧ pages.length = run.count then
        let s := portEnd s
        if pages.all readable then
          let data := data ++ pages.flatMap pageBytes
          match rest with
          | r :: more =>
            let s := s.setStore { s.store with mount := .image record data more }
            s.setStore (s.store.place .mountImage .write (.pageRead r))
          | [] => eraserStep (imageRead record data s)
        else eraserStep (imageLost record s)
      else s
    | _ => s
  | _, _ => s

/-! ### The root units and the hand-over (R133, R136 steps 2 and 3) -/

/-- A root page's record, where it is valid (R133, R202). -/
def rootRecordOf (page : PageRead) : Option RootRecord :=
  let b := pageBytes page
  let units := fieldAt b 4 1
  let bad := fieldAt b 296 2
  if readable page && rootCheckOk b && fieldAt b 0 4 != 0 && units ≤ 8 && bad ≤ 256 then
    some
      { sequence := fieldAt b 0 4
        image :=
          { units := (List.range units).map fun i => fieldAt b (8 + 2 * i) 2, length := fieldAt b 24 4, check := fieldAt b 28 4 }
        settings := (List.range 66).map fun i => fieldAt b (32 + 4 * i) 4
        badUnits := (List.range bad).map fun i => fieldAt b (298 + 2 * i) 2 }
  else none

/-- A page counts as programmed (R136). -/
def pageProgrammed (p : PageRead) : Bool := !readable p || (pageBytes p).any (· != 0xFF#8)

/-- The valid root record of highest sequence, with its page (R136); of two with the same sequence the first in page order (the
model's choice, log entry 43). -/
def newestRecord (pages : List PageRead) : Option (RootRecord × Nat) :=
  pages.zipIdx.foldl (fun best p =>
    match rootRecordOf p.1, best with
    | none, _ => best
    | some r, none => some (r, p.2)
    | some r, some b => if b.1.sequence < r.sequence then some (r, p.2) else best) none

/-- The first page after the last programmed page of a unit's pages (R136). -/
def afterProgrammed (pages : List PageRead) : Nat :=
  pages.zipIdx.foldl (fun n p => if pageProgrammed p.1 then p.2 + 1 else n) 0

/-- The hand-over of the chosen record, or of word that there is none, to the Power Controller and the Catalog (R136 step 3). -/
def handOver (record : Option RootRecord) (s : State) : State :=
  let s := if s.store.startUp then settingsLoad (record.map (·.settings)) s else s
  match record, s.store.descriptor with
  | some r, some d =>
    if r.image.units = [] then mountService (some r) (s.setCatalog (s.catalog.noGeneration .empty))
    else if imageReadable d r.image then
      match readRuns (imageRuns d.pagesPerUnit r.image) with
      | run :: rest =>
        let s := s.setStore { s.store with mount := .image r [] rest }
        s.setStore (s.store.place .mountImage .write (.pageRead run))
      | [] => imageLost r s
    else imageLost r s
  | r, _ => mountService r (s.setCatalog (s.catalog.noGeneration .empty))

/-- Both root units have been read (R136 step 2). -/
def rootsRead (pages : List PageRead) (s : State) : State :=
  let ppu := s.store.pagesPerUnit
  match newestRecord pages with
  | some (r, page) =>
    let unit := page / ppu
    let pos : PagePos := ⟨unit, afterProgrammed ((pages.drop (unit * ppu)).take ppu)⟩
    handOver (some r)
      (s.setStore { s.store with rootPos := some pos, highestSeq := r.sequence, newestRoot := some page })
  | none => handOver none (s.setStore { s.store with rootPos := some ⟨1, ppu⟩, highestSeq := 0, newestRoot := none })

/-- ROOT_UNIT_READ_DONE: a read of the root units completes (R136, R145). -/
def rootUnitReadDoneStep (pages : List PageRead) (s : State) : State :=
  match s.store.port, s.store.mount with
  | some p, .roots done rest =>
    match p.op with
    | .pageRead run =>
      if p.purpose = .mountRoots ∧ pages.length = run.count then
        let s := portEnd s
        match rest with
        | r :: more =>
          let s := s.setStore { s.store with mount := .roots (done ++ pages) more }
          s.setStore (s.store.place .mountRoots .write (.pageRead r))
        | [] => eraserStep (rootsRead (done ++ pages) s)
      else s
    | _ => s
  | _, _ => s

/-! ### The descriptor (R130, R202) -/

/-- The descriptor of a page, where every field is in its range (R130, R202). -/
def descriptorOf (bytes : List Byte) : Option Descriptor :=
  let f := fieldAt bytes
  let d : Descriptor :=
    { pagesPerUnit := f 0 2, unitCount := f 2 2, correctable := f 4 1, programLimit := f 5 1, batchSize := f 6 1
      fixedTime := f 7 1, batchTime := f 8 2, protect := f 10 1 == 1 }
  if (d.pagesPerUnit = 64 ∨ d.pagesPerUnit = 128) ∧ 1024 ≤ d.unitCount ∧ d.unitCount ≤ 16384 ∧ 1 ≤ d.correctable ∧
      d.correctable ≤ 16 ∧ 1 ≤ d.programLimit ∧ 1 ≤ d.batchSize ∧ d.batchSize ≤ 64 ∧ 1 ≤ d.batchTime ∧ f 10 1 ≤ 1 then some d
  else none

/-- The descriptor is held and the reads of the root units begin (R136). -/
def beginRoots (d : Descriptor) (s : State) : State :=
  let s := s.setStore { s.store with descriptor := some d }
  match readRuns [⟨0, 2 * d.pagesPerUnit⟩] with
  | r :: rest =>
    let s := s.setStore { s.store with mount := .roots [] rest }
    s.setStore (s.store.place .mountRoots .write (.pageRead r))
  | [] => s

/-- DESCRIPTOR_READ_DONE: the mount's descriptor read answers (R130, R136). -/
def descriptorReadDoneStep (page : List Byte) (s : State) : State :=
  match s.store.port with
  | some p =>
    if p.purpose = .mountDescriptor then
      let s := portEnd s
      match descriptorOf (pageBytes ⟨.clean, page⟩) with
      | some d => beginRoots d s
      | none => mountAbsent s
    else s
  | none => s

/-- The read on the port is issued again (R130, R146). -/
def reissue (p : PortOp) (s : State) : State := s.setStore { s.store with port := some { p with misses := p.misses + 1 } }

/-- DESCRIPTOR_READ_TIMEOUT (R130, R179). -/
def descriptorReadTimeoutStep (s : State) : State :=
  match s.store.port with
  | some p =>
    if p.purpose = .mountDescriptor then
      if p.misses = 0 then reissue p s else mountAbsent (portEnd s)
    else if p.purpose = .testDescriptor then failStoreTest (portEnd s)
    else s
  | none => s

/-! ### The time limit of page reads (R146, R147) -/

/-- A read has missed its limit twice (R136, R146, R147); an old operation may do so before a REMOUNT's mount has begun (log
entry 22). -/
def readFails (s : State) : State :=
  match s.store.mount with
  | .none => leaveService .offline .readTimeout (portEnd s)
  | .waitPort =>
    let s := emptyCatalog (failWaitingGlyph (failWaitingLoads (portEnd s)))
    mountFails .offline .readTimeout
      (s.setStore { s.store with rootPos := none, highestSeq := 0, newestRoot := none })
  | _ => mountFails .offline .readTimeout (portEnd s)

/-- STORE_READ_TIMEOUT: a page read misses its 50 ms limit (R146). -/
def storeReadTimeoutStep (s : State) : State :=
  match s.store.port with
  | some p =>
    match p.op with
    | .pageRead _ => if p.misses = 0 then reissue p s else readFails s
    | _ => s
  | none => s

/-! ### REMOUNT (R137) -/

/-- A root write is in progress or waiting. -/
def Store.rootBusy (st : Store) : Bool := st.rootWrite.isSome || !st.rootQueue.isEmpty

def remountOwner (tag : Nat) (s : State) : State :=
  if s.store.state = .mounting then reply 0x11 tag .busy [] s
  else if s.catalog.intakeBusy || s.catalog.publishing || s.store.rootBusy || s.power.selfTest.isSome then
    reply 0x11 tag .busy [] s
  else
    let s := leaveService .mounting .mountStart s
    mountIfWaiting (s.setStore { s.store with mount := .waitPort, startUp := false, remountTag := some tag })

end Sys2Proof.Machine
end

