-- ==== Sys2Proof/Machine/Links.lean ====
section
/-!
DEFINITION. The resets (R169, R171, R181, R194), the Command Link's receiver, acceptance and hand-off (R182 to R189), its
transmitter (R190, R192, R193) and its own requests (R191 to R193).
-/

namespace Sys2Proof.Machine

/-! ### Resets (R169, R171) -/

/-- The two screens after a reset (R102); their buffers' content is a new unspecified one (log entry 9). -/
def resetScreens (s : State) : Two Screen :=
  ⟨{ State.reset.screens.s0 with spoils := s.screens.s0.spoils }.spoil,
    { State.reset.screens.s1 with spoils := s.screens.s1.spoils }.spoil⟩

/-- The part as it begins after a reset with a cause set (R169, R171); no break counts until RX has been seen high (R194, log
entry 14), and the waiting commands are outside the part (log entry 39). -/
def startUp (causes : List ResetCause) (s : State) : State :=
  { State.reset with
    screens := resetScreens s
    power := { causes := causes }
    pending := s.pending }

/-- The part held in reset by its RESET line: every block as after a reset, and nothing begun (R169; log entry 13). -/
def heldInReset (causes : List ResetCause) (s : State) : State :=
  { screens := resetScreens s
    light := { sampleTimer := false }
    power := { causes := causes, resetLow := true }
    pending := s.pending }

/-- A hard reset with a cause (R169). -/
def hardReset (cause : ResetCause) (s : State) : State := startUp (addCause cause s.power.causes) s

/-- POWER_ON_RESET (R169); under a held RESET line the set is {POWER_ON} all the same (log entry 13). -/
def powerOnResetStep (s : State) : State :=
  if s.power.resetLow then heldInReset [.powerOn] s else startUp [.powerOn] s

/-- SUPPLY_DIP: a hard reset; under a held RESET line its cause is added and the part stays held (R169). -/
def supplyDipStep (s : State) : State :=
  if s.power.resetLow then heldInReset (addCause .supplyDip s.power.causes) s else hardReset .supplyDip s

/-- RESET_LINE_LOW: the part is held in a hard reset (R169). -/
def resetLineLowStep (s : State) : State :=
  if s.power.resetLow then s else heldInReset (addCause .resetLine s.power.causes) s

/-- RESET_LINE_RELEASE: the start-up begins (R169, R171). -/
def resetLineReleaseStep (s : State) : State :=
  if s.power.resetLow then startUp s.power.causes s else s

/-- LINK_BREAK: a low run reaches 2 ms; it counts when the line has been seen high since the last reset, that of an earlier
break included (R186, R194). -/
def linkBreakStep (seenHigh : Bool) (s : State) : State :=
  if s.link.breakArmed || seenHigh then hardReset .linkBreak s else s

/-! ### Acceptance (R187) -/

/-- The kind of the reply to a frame (R189). -/
def replyKind (kind : Nat) : Nat := if isRequestKind kind then kind + 0x80 else 0xFF

/-- A complete frame is discarded, queued, or answered QUEUE_FULL (R187). -/
def Link.accept (f : Frame) (l : Link) : Link :=
  if !l.helloSent || l.resetTaken then l
  else if l.requests.length < 8 then { l with requests := l.requests ++ [f] }
  else if l.occupancy < 48 then
    l.push { kind := replyKind f.kind, tag := f.tag, payload := [byteOf Status.queueFull.code] }
  else l

/-! ### The receiver (R182, R184, R185) -/

/-- A frame is discarded: the bytes after its SYNC are examined again, ahead of any already held (R184). -/
def Link.discard (bytes : List Byte) (l : Link) : Link := { l with rxFrame := [], rxHeld := bytes.drop 1 ++ l.rxHeld }

/-- The CHECK of a complete frame agrees (R183). -/
def checkAgrees (bytes : List Byte) : Bool :=
  let n := bytes.length
  (crc16 ((bytes.drop 1).take (n - 3))).toNat == fieldAt bytes (n - 2) 2

/-- The request frame of a complete frame's bytes (R183). -/
def frameOf (bytes : List Byte) : Frame :=
  { kind := fieldAt bytes 3 1, tag := fieldAt bytes 4 1, payload := (bytes.drop 5).take (bytes.length - 7) }

/-- One byte of a frame in progress, or of the hunt (R184). -/
def Link.examine (b : Byte) (l : Link) : Link :=
  if l.rxFrame = [] then (if b = 0xA7#8 then { l with rxFrame := [b] } else l)
  else
    let bytes := l.rxFrame ++ [b]
    if bytes.length < 3 then { l with rxFrame := bytes }
    else
      let len := fieldAt bytes 1 2
      if 1100 < len then l.discard bytes
      else if bytes.length < len + 7 then { l with rxFrame := bytes }
      else if checkAgrees bytes then { l with rxFrame := [] }.accept (frameOf bytes)
      else l.discard bytes

/-- The held bytes are examined in order (R184). -/
def Link.examineHeld : Nat → Link → Link
  | 0, l => l
  | fuel + 1, l =>
    match l.rxHeld with
    | [] => l
    | b :: rest => Link.examineHeld fuel ({ l with rxHeld := rest }.examine b)

/-- A bound on the examinations that held bytes can need: each discard drops a SYNC for good. -/
def Link.fuel (l : Link) : Nat := (l.rxHeld.length + 1) * (l.rxHeld.length + 1)

/-- A byte from the line is examined, and then every byte it makes held (R184). -/
def Link.receive (b : Byte) (l : Link) : Link :=
  let l := l.examine b
  l.examineHeld l.fuel

/-- RX_CHARACTER: a character arrives; one whose stop bit is low is dropped with any frame in progress (R182, R184). -/
def rxCharacterStep (b : Byte) (stopHigh : Bool) (s : State) : State :=
  let l := { s.link with breakArmed := true }
  if stopHigh then s.setLink (l.receive b) else s.setLink { l with rxFrame := [], rxHeld := [] }

/-- FRAME_TIMEOUT: the frame in progress is discarded and its bytes dropped (R185). -/
def frameTimeoutStep (s : State) : State := s.setLink { s.link with rxFrame := [] }

/-! ### The transmitter (R190, R192, R193) -/

/-- The rate changes after a SET_LINK_RATE reply; a rate that is the current one changes nothing (R192). -/
def Link.changeRate (r : LinkRate) (l : Link) : Link :=
  if r = l.rate then l else { l with rate := r, rxFrame := [], rxHeld := [] }

/-- TX_FRAME_SENT: the last byte of the frame being sent has left (R190, R192, R193). -/
def txFrameSentStep (s : State) : State :=
  match s.link.sending with
  | none => s
  | some m =>
    let l := { s.link with sending := none }
    match m.after with
    | .nothing => s.setLink l.startSend
    | .setRate r => s.setLink (l.changeRate r).startSend
    | .resetPart => hardReset .resetRequest s

/-! ### The Link's own requests (R191 to R193) -/

/-- ECHO (R191); a payload of 1,100 bytes does not pass the Link's own length check (R188). -/
def echoOwner (tag : Nat) (data : List Byte) (s : State) : State :=
  if data.length ≤ 1099 then reply 0x01 tag .ok data s else reply 0x01 tag .badLength [] s

def IntakeState.code : IntakeState → Nat
  | .none => 0 | .open => 1 | .finishing => 2 | .failed => 3

/-- STATUS's data (R191). -/
def statusBytes (s : State) : List Byte :=
  [byteOf s.power.state.code, flagByte s.power.changing, byteOf s.store.state.code, byteOf s.screens.s0.state.code,
      byteOf s.screens.s1.state.code, byteOf (s.lane 0).state.code, byteOf (s.lane 1).state.code, byteOf (s.lane 2).state.code,
      byteOf s.catalog.intake.state.code, flagByte s.catalog.publishing, flagByte s.link.noticesDropped] ++
    beBytes 4 s.link.rate.baud ++ [byteOf s.link.requests.length, byteOf s.link.occupancy]

def statusOwner (tag : Nat) (s : State) : State :=
  let s' := reply 0x02 tag .ok (statusBytes s) s
  s'.setLink { s'.link with noticesDropped := false }

/-- A reply of the Link after whose last byte something follows (R192, R193). -/
def replyThen (kind tag : Nat) (after : AfterSend) (s : State) : State :=
  s.setLink (s.link.fillPlace (replyMsg kind tag .ok [] after))

def setLinkRateOwner (tag rate : Nat) (s : State) : State :=
  match LinkRate.ofBaud rate with
  | some r => replyThen 0x03 tag (.setRate r) s
  | none => reply 0x03 tag .badParam [] s

def resetOwner (tag : Nat) (s : State) : State :=
  let s := replyThen 0x04 tag .resetPart s
  s.setLink { s.link with resetTaken := true }

/-! ### Hand-off (R188, R189) -/

/-- The owning block takes a request given to it; an event is no request. -/
def ownerOf (i : Instr) (s : State) : State :=
  match i with
  | .echo tag data => echoOwner tag data s
  | .status tag => statusOwner tag s
  | .setLinkRate tag rate => setLinkRateOwner tag rate s
  | .reset tag => resetOwner tag s
  | .setPower tag state => setPowerOwner tag state s
  | .causes tag => causesOwner tag s
  | .selfTest tag flags => selfTestOwner tag flags s
  | .settingGet tag index => settingGetOwner tag index s
  | .settingPut tag index value => settingPutOwner tag index value s
  | .settingsSave tag => settingsSaveOwner tag s
  | .storeInfo tag => storeInfoOwner tag s
  | .remount tag => remountOwner tag s
  | .stageOpen tag mode => stageOpenOwner tag mode s
  | .stageDiscard tag => stageDiscardOwner tag s
  | .titlePut tag title badge tint stillKey clipKey name => titlePutOwner tag title badge tint stillKey clipKey name s
  | .titleDrop tag title => titleDropOwner tag title s
  | .titleGet tag generation mode title => titleGetOwner tag generation mode title s
  | .setGlyphs tag key => setGlyphsOwner tag key s
  | .assetBegin tag key kind length check => assetBeginOwner tag key kind length check s
  | .assetData tag key offset chunk => assetDataOwner tag key offset chunk s
  | .assetAbort tag key => assetAbortOwner tag key s
  | .assetInfo tag generation key => assetInfoOwner tag generation key s
  | .publish tag => publishOwner tag s
  | .cacheInfo tag => cacheInfoOwner tag s
  | .cacheFlush tag => cacheFlushOwner tag s
  | .planBackdrop tag screen colour => planBackdropOwner tag screen colour s
  | .planWall tag screen presence rect columns rows gap border focusColour =>
    planWallOwner tag screen presence rect columns rows gap border focusColour s
  | .planTitles tag screen start removeCount titles => planTitlesOwner tag screen start removeCount titles s
  | .planItem tag screen index rect normal lit text alignment scale glyphs =>
    planItemOwner tag screen index rect normal lit text alignment scale glyphs s
  | .planItemClear tag screen index => planItemClearOwner tag screen index s
  | .planWindow tag screen window lane rect => planWindowOwner tag screen window lane rect s
  | .planRevert tag screen => planRevertOwner tag screen s
  | .present tag screen kind length => presentOwner tag screen kind length s
  | .scroll tag screen speed target => scrollOwner tag screen speed target s
  | .focus tag screen kind index => focusOwner tag screen kind index s
  | .lanePlay tag lane clockScreen endAction loops title stallLimit =>
    lanePlayOwner tag lane clockScreen endAction loops title stallLimit s
  | .laneStop tag lane => laneStopOwner tag lane s
  | .laneStatus tag lane => laneStatusOwner tag lane s
  | .screenStatus tag screen => screenStatusOwner tag screen s
  | .lightMode tag screen mode level => lightModeOwner tag screen mode level s
  | .lightStatus tag => lightStatusOwner tag s
  | _ => s

/-- A reply whose KIND is that of R189 for any received kind. -/
def refuse (f : Frame) (status : Status) (data : List Byte) (s : State) : State :=
  s.setLink (s.link.fillPlace { kind := replyKind f.kind, tag := f.tag, payload := byteOf status.code :: data })

/-- The checks of R188 in order, then the owning block. -/
def handFrame (f : Frame) (s : State) : State :=
  if !isRequestKind f.kind then refuse f .badKind [byteOf f.kind] s
  else if f.tag = 0 then refuse f .badParam [] s
  else
    match parseRequest f with
    | .error st => refuse f st [] s
    | .ok i => ownerOf i s

/-- REQUEST_HANDOFF: the head request is handed on while the Link may do so; a place is held for its reply (R188). -/
def requestHandoffStep (s : State) : State :=
  match s.link.requests with
  | f :: rest =>
    if s.link.canHandOn then handFrame f (holdPlace (s.setLink { s.link with requests := rest })) else s
  | [] => s

end Sys2Proof.Machine
end

