-- ==== Sys2Proof/Machine/Events.lean ====
section
/-!
DEFINITION. The meaning of every event command: the step of its rule, while the part is not held in reset (R169). An event
whose conditions do not hold changes nothing (log entry 1).
-/

namespace Sys2Proof.Machine

/-- POWER_ON_RESET (R169). -/
def execPowerOnReset (s : State) : Host.Outcome State Fault Refusal :=
  .next (powerOnResetStep s)

/-- SUPPLY_DIP (R169). -/
def execSupplyDip (s : State) : Host.Outcome State Fault Refusal :=
  .next (supplyDipStep s)

/-- RESET_LINE_LOW (R169). -/
def execResetLineLow (s : State) : Host.Outcome State Fault Refusal :=
  .next (resetLineLowStep s)

/-- RESET_LINE_RELEASE (R169). -/
def execResetLineRelease (s : State) : Host.Outcome State Fault Refusal :=
  .next (resetLineReleaseStep s)

/-- RX_CHARACTER (R184). -/
def execRxCharacter (byte : Byte) (stopHigh : Bool) (s : State) : Host.Outcome State Fault Refusal :=
  live (rxCharacterStep byte stopHigh) s

/-- FRAME_TIMEOUT (R185). -/
def execFrameTimeout (s : State) : Host.Outcome State Fault Refusal :=
  live frameTimeoutStep s

/-- LINK_BREAK (R186). -/
def execLinkBreak (seenHigh : Bool) (s : State) : Host.Outcome State Fault Refusal :=
  live (linkBreakStep seenHigh) s

/-- REQUEST_HANDOFF (R188). -/
def execRequestHandoff (s : State) : Host.Outcome State Fault Refusal :=
  live requestHandoffStep s

/-- TX_FRAME_SENT (R190). -/
def execTxFrameSent (s : State) : Host.Outcome State Fault Refusal :=
  live txFrameSentStep s

/-- WAKE_EDGE (R168). -/
def execWakeEdge (s : State) : Host.Outcome State Fault Refusal :=
  live wakeEdgeStep s

/-- PANEL_SIGNAL_ON (R93). -/
def execPanelSignalOn (screen : Fin 2) (s : State) : Host.Outcome State Fault Refusal :=
  live (panelSignalOnStep screen) s

/-- POWER_UP_END (R93). -/
def execPowerUpEnd (screen : Fin 2) (s : State) : Host.Outcome State Fault Refusal :=
  live (powerUpEndStep screen) s

/-- PANEL_SIGNAL_OFF (R94). -/
def execPanelSignalOff (screen : Fin 2) (s : State) : Host.Outcome State Fault Refusal :=
  live (panelSignalOffStep screen) s

/-- POWER_DOWN_END (R94). -/
def execPowerDownEnd (screen : Fin 2) (s : State) : Host.Outcome State Fault Refusal :=
  live (powerDownEndStep screen) s

/-- VBLANK (R97). -/
def execVblank (screen : Fin 2) (lanesFirst : Bool) (s : State) : Host.Outcome State Fault Refusal :=
  live (vblankStep screen lanesFirst) s

/-- PASS_COMPLETE (R99). -/
def execPassComplete (screen : Fin 2) (moments : DrawMoments) (s : State) : Host.Outcome State Fault Refusal :=
  live (passCompleteStep screen moments) s

/-- LANE_HEADER_READ_DONE (R67). -/
def execLaneHeaderReadDone (lane : Fin 3) (pages : List PageRead) (s : State) : Host.Outcome State Fault Refusal :=
  live (laneHeaderReadDoneStep lane pages) s

/-- LANE_READ_ISSUE (R70). -/
def execLaneReadIssue (lane : Fin 3) (s : State) : Host.Outcome State Fault Refusal :=
  live (laneReadIssueStep lane) s

/-- LANE_READ_DONE (R71). -/
def execLaneReadDone (lane : Fin 3) (pages : List PageRead) (s : State) : Host.Outcome State Fault Refusal :=
  live (laneReadDoneStep lane pages) s

/-- CLIP_DECODE_START (R73). -/
def execClipDecodeStart (s : State) : Host.Outcome State Fault Refusal :=
  live clipDecodeStartStep s

/-- CLIP_DECODE_DONE (R74). -/
def execClipDecodeDone (result : Option Picture) (s : State) : Host.Outcome State Fault Refusal :=
  live (clipDecodeDoneStep result) s

/-- STALL_TIMER_EXPIRY (R80). -/
def execStallTimerExpiry (lane : Fin 3) (s : State) : Host.Outcome State Fault Refusal :=
  live (stallTimerExpiryStep lane) s

/-- FETCH_TAKE (R51). -/
def execFetchTake (s : State) : Host.Outcome State Fault Refusal :=
  live fetchTakeStep s

/-- STILL_READ_DONE (R52). -/
def execStillReadDone (pages : List PageRead) (s : State) : Host.Outcome State Fault Refusal :=
  live (stillReadDoneStep pages) s

/-- STILL_DECODE_START (R54). -/
def execStillDecodeStart (s : State) : Host.Outcome State Fault Refusal :=
  live stillDecodeStartStep s

/-- STILL_DECODE_DONE (R55). -/
def execStillDecodeDone (result : Option Picture) (s : State) : Host.Outcome State Fault Refusal :=
  live (stillDecodeDoneStep result) s

/-- CACHE_CLEAR (R61). -/
def execCacheClear (s : State) : Host.Outcome State Fault Refusal :=
  live cacheClearStep s

/-- PAGE_PROGRAM_DONE (R139). -/
def execPageProgramDone (outcome : ProgramOutcome) (s : State) : Host.Outcome State Fault Refusal :=
  live (pageProgramDoneStep outcome) s

/-- RELOCATION_READ_DONE (R140). -/
def execRelocationReadDone (page : PageRead) (s : State) : Host.Outcome State Fault Refusal :=
  live (relocationReadDoneStep page) s

/-- ROOT_WRITE_START (R134). -/
def execRootWriteStart (s : State) : Host.Outcome State Fault Refusal :=
  live rootWriteStartStep s

/-- GLYPH_READ_DONE (R125). -/
def execGlyphReadDone (pages : List PageRead) (s : State) : Host.Outcome State Fault Refusal :=
  live (glyphReadDoneStep pages) s

/-- PORT_GRANT (R148). -/
def execPortGrant (s : State) : Host.Outcome State Fault Refusal :=
  live portGrantStep s

/-- STORE_READ_TIMEOUT (R146). -/
def execStoreReadTimeout (s : State) : Host.Outcome State Fault Refusal :=
  live storeReadTimeoutStep s

/-- ERASE_UNIT_REPORT (R144). -/
def execEraseUnitReport (unit : Nat) (passed : Bool) (s : State) : Host.Outcome State Fault Refusal :=
  live (eraseUnitReportStep unit passed) s

/-- ERASE_DEADLINE (R144). -/
def execEraseDeadline (s : State) : Host.Outcome State Fault Refusal :=
  live eraseDeadlineStep s

/-- DESCRIPTOR_READ_DONE (R130). -/
def execDescriptorReadDone (page : List Byte) (s : State) : Host.Outcome State Fault Refusal :=
  live (descriptorReadDoneStep page) s

/-- ROOT_UNIT_READ_DONE (R136). -/
def execRootUnitReadDone (pages : List PageRead) (s : State) : Host.Outcome State Fault Refusal :=
  live (rootUnitReadDoneStep pages) s

/-- CATALOG_IMAGE_READ_DONE (R126). -/
def execCatalogImageReadDone (pages : List PageRead) (s : State) : Host.Outcome State Fault Refusal :=
  live (catalogImageReadDoneStep pages) s

/-- SAMPLE_TIMER (R151). -/
def execSampleTimer (s : State) : Host.Outcome State Fault Refusal :=
  live sampleTimerStep s

/-- SENSOR_READ_DONE (R151). -/
def execSensorReadDone (reading : Option Int) (s : State) : Host.Outcome State Fault Refusal :=
  live (sensorRead reading) s

/-- SENSOR_READ_TIMEOUT (R151). -/
def execSensorReadTimeout (s : State) : Host.Outcome State Fault Refusal :=
  live (sensorRead none) s

/-- MEMORY_TEST_DONE (R178). -/
def execMemoryTestDone (matched : Bool) (s : State) : Host.Outcome State Fault Refusal :=
  live (memoryTestDoneStep matched) s

/-- STORE_TEST_READ_DONE (R179). -/
def execStoreTestReadDone (page : PageRead) (s : State) : Host.Outcome State Fault Refusal :=
  live (storeTestReadDoneStep page) s

/-- PANEL_TEST_DONE (R180). -/
def execPanelTestDone (result : PanelLoop) (s : State) : Host.Outcome State Fault Refusal :=
  live (panelTestDoneStep result) s

/-- SENSOR_TEST_START (R180). -/
def execSensorTestStart (s : State) : Host.Outcome State Fault Refusal :=
  live sensorTestStartStep s

/-- TIMEBASE_TEST_END (R180). -/
def execTimebaseTestEnd (ticks : Nat) (s : State) : Host.Outcome State Fault Refusal :=
  live (timebaseTestEndStep ticks) s

/-- DESCRIPTOR_READ_TIMEOUT (R130). -/
def execDescriptorReadTimeout (s : State) : Host.Outcome State Fault Refusal :=
  live descriptorReadTimeoutStep s

end Sys2Proof.Machine
end

