-- ==== Sys2Proof/Machine/Requests.lean ====
section
/-!
DEFINITION. The meaning of every request command: the Link hands it to its owning block, as R188 states for the head of the
request queue (log entry 2).
-/

namespace Sys2Proof.Machine

/-- ECHO (R191). -/
def execEcho (tag : Nat) (data : List Byte) (s : State) :
    Host.Outcome State Fault Refusal :=
  request 0x01 tag (echoOwner tag data) s

/-- STATUS (R191). -/
def execStatus (tag : Nat) (s : State) :
    Host.Outcome State Fault Refusal :=
  request 0x02 tag (statusOwner tag) s

/-- SET_LINK_RATE (R192). -/
def execSetLinkRate (tag : Nat) (rate : Nat) (s : State) :
    Host.Outcome State Fault Refusal :=
  request 0x03 tag (setLinkRateOwner tag rate) s

/-- RESET (R193). -/
def execReset (tag : Nat) (s : State) :
    Host.Outcome State Fault Refusal :=
  request 0x04 tag (resetOwner tag) s

/-- SET_POWER (R166). -/
def execSetPower (tag : Nat) (state : Nat) (s : State) :
    Host.Outcome State Fault Refusal :=
  request 0x08 tag (setPowerOwner tag state) s

/-- CAUSES (R170). -/
def execCauses (tag : Nat) (s : State) :
    Host.Outcome State Fault Refusal :=
  request 0x09 tag (causesOwner tag) s

/-- SELF_TEST (R177). -/
def execSelfTest (tag : Nat) (flags : Nat) (s : State) :
    Host.Outcome State Fault Refusal :=
  request 0x0A tag (selfTestOwner tag flags) s

/-- SETTING_GET (R173). -/
def execSettingGet (tag : Nat) (index : Nat) (s : State) :
    Host.Outcome State Fault Refusal :=
  request 0x0B tag (settingGetOwner tag index) s

/-- SETTING_PUT (R174). -/
def execSettingPut (tag : Nat) (index : Nat) (value : Nat) (s : State) :
    Host.Outcome State Fault Refusal :=
  request 0x0C tag (settingPutOwner tag index value) s

/-- SETTINGS_SAVE (R176). -/
def execSettingsSave (tag : Nat) (s : State) :
    Host.Outcome State Fault Refusal :=
  request 0x0D tag (settingsSaveOwner tag) s

/-- STORE_INFO (R149). -/
def execStoreInfo (tag : Nat) (s : State) :
    Host.Outcome State Fault Refusal :=
  request 0x10 tag (storeInfoOwner tag) s

/-- REMOUNT (R137). -/
def execRemount (tag : Nat) (s : State) :
    Host.Outcome State Fault Refusal :=
  request 0x11 tag (remountOwner tag) s

/-- STAGE_OPEN (R109). -/
def execStageOpen (tag : Nat) (mode : Nat) (s : State) :
    Host.Outcome State Fault Refusal :=
  request 0x18 tag (stageOpenOwner tag mode) s

/-- STAGE_DISCARD (R110). -/
def execStageDiscard (tag : Nat) (s : State) :
    Host.Outcome State Fault Refusal :=
  request 0x19 tag (stageDiscardOwner tag) s

/-- TITLE_PUT (R111). -/
def execTitlePut (tag : Nat) (title : Nat) (badge : Nat) (tint : Rgb) (stillKey : Nat) (clipKey : Nat) (name : List Byte) (s : State) :
    Host.Outcome State Fault Refusal :=
  request 0x1A tag (titlePutOwner tag title badge tint stillKey clipKey name) s

/-- TITLE_DROP (R111). -/
def execTitleDrop (tag : Nat) (title : Nat) (s : State) :
    Host.Outcome State Fault Refusal :=
  request 0x1B tag (titleDropOwner tag title) s

/-- TITLE_GET (R112). -/
def execTitleGet (tag : Nat) (generation : Nat) (mode : Nat) (title : Nat) (s : State) :
    Host.Outcome State Fault Refusal :=
  request 0x1C tag (titleGetOwner tag generation mode title) s

/-- SET_GLYPHS (R112). -/
def execSetGlyphs (tag : Nat) (key : Nat) (s : State) :
    Host.Outcome State Fault Refusal :=
  request 0x22 tag (setGlyphsOwner tag key) s

/-- ASSET_BEGIN (R114). -/
def execAssetBegin (tag : Nat) (key : Nat) (kind : Nat) (length : Nat) (check : Nat) (s : State) :
    Host.Outcome State Fault Refusal :=
  request 0x1D tag (assetBeginOwner tag key kind length check) s

/-- ASSET_DATA (R115). -/
def execAssetData (tag : Nat) (key : Nat) (offset : Nat) (chunk : List Byte) (s : State) :
    Host.Outcome State Fault Refusal :=
  request 0x1E tag (assetDataOwner tag key offset chunk) s

/-- ASSET_ABORT (R120). -/
def execAssetAbort (tag : Nat) (key : Nat) (s : State) :
    Host.Outcome State Fault Refusal :=
  request 0x1F tag (assetAbortOwner tag key) s

/-- ASSET_INFO (R121). -/
def execAssetInfo (tag : Nat) (generation : Nat) (key : Nat) (s : State) :
    Host.Outcome State Fault Refusal :=
  request 0x20 tag (assetInfoOwner tag generation key) s

/-- PUBLISH (R122). -/
def execPublish (tag : Nat) (s : State) :
    Host.Outcome State Fault Refusal :=
  request 0x21 tag (publishOwner tag) s

/-- CACHE_INFO (R60). -/
def execCacheInfo (tag : Nat) (s : State) :
    Host.Outcome State Fault Refusal :=
  request 0x28 tag (cacheInfoOwner tag) s

/-- CACHE_FLUSH (R59). -/
def execCacheFlush (tag : Nat) (s : State) :
    Host.Outcome State Fault Refusal :=
  request 0x29 tag (cacheFlushOwner tag) s

/-- PLAN_BACKDROP (R4). -/
def execPlanBackdrop (tag : Nat) (screen : Nat) (colour : Rgb) (s : State) :
    Host.Outcome State Fault Refusal :=
  request 0x30 tag (planBackdropOwner tag screen colour) s

/-- PLAN_WALL (R4). -/
def execPlanWall (tag : Nat) (screen : Nat) (presence : Nat) (rect : Rect) (columns : Nat) (rows : Nat) (gap : Nat) (border : Nat) (focusColour : Rgb) (s : State) :
    Host.Outcome State Fault Refusal :=
  request 0x31 tag (planWallOwner tag screen presence rect columns rows gap border focusColour) s

/-- PLAN_TITLES (R5). -/
def execPlanTitles (tag : Nat) (screen : Nat) (start : Nat) (removeCount : Nat) (titles : List Nat) (s : State) :
    Host.Outcome State Fault Refusal :=
  request 0x32 tag (planTitlesOwner tag screen start removeCount titles) s

/-- PLAN_ITEM (R6). -/
def execPlanItem (tag : Nat) (screen : Nat) (index : Nat) (rect : Rect) (normal : Fill) (lit : Fill) (text : Rgb) (alignment : Nat) (scale : Nat) (glyphs : List Byte) (s : State) :
    Host.Outcome State Fault Refusal :=
  request 0x33 tag (planItemOwner tag screen index rect normal lit text alignment scale glyphs) s

/-- PLAN_ITEM_CLEAR (R6). -/
def execPlanItemClear (tag : Nat) (screen : Nat) (index : Nat) (s : State) :
    Host.Outcome State Fault Refusal :=
  request 0x34 tag (planItemClearOwner tag screen index) s

/-- PLAN_WINDOW (R7). -/
def execPlanWindow (tag : Nat) (screen : Nat) (window : Nat) (lane : Nat) (rect : Rect) (s : State) :
    Host.Outcome State Fault Refusal :=
  request 0x35 tag (planWindowOwner tag screen window lane rect) s

/-- PLAN_REVERT (R8). -/
def execPlanRevert (tag : Nat) (screen : Nat) (s : State) :
    Host.Outcome State Fault Refusal :=
  request 0x36 tag (planRevertOwner tag screen) s

/-- PRESENT (R9). -/
def execPresent (tag : Nat) (screen : Nat) (kind : Nat) (length : Nat) (s : State) :
    Host.Outcome State Fault Refusal :=
  request 0x37 tag (presentOwner tag screen kind length) s

/-- SCROLL (R14). -/
def execScroll (tag : Nat) (screen : Nat) (speed : Nat) (target : Nat) (s : State) :
    Host.Outcome State Fault Refusal :=
  request 0x38 tag (scrollOwner tag screen speed target) s

/-- FOCUS (R15). -/
def execFocus (tag : Nat) (screen : Nat) (kind : Nat) (index : Nat) (s : State) :
    Host.Outcome State Fault Refusal :=
  request 0x39 tag (focusOwner tag screen kind index) s

/-- LANE_PLAY (R65). -/
def execLanePlay (tag : Nat) (lane : Nat) (clockScreen : Nat) (endAction : Nat) (loops : Nat) (title : Nat) (stallLimit : Nat) (s : State) :
    Host.Outcome State Fault Refusal :=
  request 0x40 tag (lanePlayOwner tag lane clockScreen endAction loops title stallLimit) s

/-- LANE_STOP (R83). -/
def execLaneStop (tag : Nat) (lane : Nat) (s : State) :
    Host.Outcome State Fault Refusal :=
  request 0x41 tag (laneStopOwner tag lane) s

/-- LANE_STATUS (R84). -/
def execLaneStatus (tag : Nat) (lane : Nat) (s : State) :
    Host.Outcome State Fault Refusal :=
  request 0x42 tag (laneStatusOwner tag lane) s

/-- SCREEN_STATUS (R101). -/
def execScreenStatus (tag : Nat) (screen : Nat) (s : State) :
    Host.Outcome State Fault Refusal :=
  request 0x48 tag (screenStatusOwner tag screen) s

/-- LIGHT_MODE (R162). -/
def execLightMode (tag : Nat) (screen : Nat) (mode : Nat) (level : Nat) (s : State) :
    Host.Outcome State Fault Refusal :=
  request 0x50 tag (lightModeOwner tag screen mode level) s

/-- LIGHT_STATUS (R163). -/
def execLightStatus (tag : Nat) (s : State) :
    Host.Outcome State Fault Refusal :=
  request 0x51 tag (lightStatusOwner tag) s

end Sys2Proof.Machine
end

