-- ==== Sys2Proof/Machine/Dispatch.lean ====
section
/-!
DEFINITION. The effect of each command on everything but the queue: one arm per row of the table.
-/

namespace Sys2Proof.Machine

def exec (i : Instr) (s : State) : Host.Outcome State Fault Refusal :=
  match i with
  | .powerOnReset => Sys2Proof.Machine.execPowerOnReset s
  | .supplyDip => Sys2Proof.Machine.execSupplyDip s
  | .resetLineLow => Sys2Proof.Machine.execResetLineLow s
  | .resetLineRelease => Sys2Proof.Machine.execResetLineRelease s
  | .rxCharacter byte stopHigh => Sys2Proof.Machine.execRxCharacter byte stopHigh s
  | .frameTimeout => Sys2Proof.Machine.execFrameTimeout s
  | .linkBreak seenHigh => Sys2Proof.Machine.execLinkBreak seenHigh s
  | .requestHandoff => Sys2Proof.Machine.execRequestHandoff s
  | .txFrameSent => Sys2Proof.Machine.execTxFrameSent s
  | .echo tag data => Sys2Proof.Machine.execEcho tag data s
  | .status tag => Sys2Proof.Machine.execStatus tag s
  | .setLinkRate tag rate => Sys2Proof.Machine.execSetLinkRate tag rate s
  | .reset tag => Sys2Proof.Machine.execReset tag s
  | .setPower tag state => Sys2Proof.Machine.execSetPower tag state s
  | .causes tag => Sys2Proof.Machine.execCauses tag s
  | .selfTest tag flags => Sys2Proof.Machine.execSelfTest tag flags s
  | .settingGet tag index => Sys2Proof.Machine.execSettingGet tag index s
  | .settingPut tag index value => Sys2Proof.Machine.execSettingPut tag index value s
  | .settingsSave tag => Sys2Proof.Machine.execSettingsSave tag s
  | .storeInfo tag => Sys2Proof.Machine.execStoreInfo tag s
  | .remount tag => Sys2Proof.Machine.execRemount tag s
  | .stageOpen tag mode => Sys2Proof.Machine.execStageOpen tag mode s
  | .stageDiscard tag => Sys2Proof.Machine.execStageDiscard tag s
  | .titlePut tag title badge tint stillKey clipKey name => Sys2Proof.Machine.execTitlePut tag title badge tint stillKey clipKey name s
  | .titleDrop tag title => Sys2Proof.Machine.execTitleDrop tag title s
  | .titleGet tag generation mode title => Sys2Proof.Machine.execTitleGet tag generation mode title s
  | .setGlyphs tag key => Sys2Proof.Machine.execSetGlyphs tag key s
  | .assetBegin tag key kind length check => Sys2Proof.Machine.execAssetBegin tag key kind length check s
  | .assetData tag key offset chunk => Sys2Proof.Machine.execAssetData tag key offset chunk s
  | .assetAbort tag key => Sys2Proof.Machine.execAssetAbort tag key s
  | .assetInfo tag generation key => Sys2Proof.Machine.execAssetInfo tag generation key s
  | .publish tag => Sys2Proof.Machine.execPublish tag s
  | .cacheInfo tag => Sys2Proof.Machine.execCacheInfo tag s
  | .cacheFlush tag => Sys2Proof.Machine.execCacheFlush tag s
  | .planBackdrop tag screen colour => Sys2Proof.Machine.execPlanBackdrop tag screen colour s
  | .planWall tag screen presence rect columns rows gap border focusColour => Sys2Proof.Machine.execPlanWall tag screen presence rect columns rows gap border focusColour s
  | .planTitles tag screen start removeCount titles => Sys2Proof.Machine.execPlanTitles tag screen start removeCount titles s
  | .planItem tag screen index rect normal lit text alignment scale glyphs => Sys2Proof.Machine.execPlanItem tag screen index rect normal lit text alignment scale glyphs s
  | .planItemClear tag screen index => Sys2Proof.Machine.execPlanItemClear tag screen index s
  | .planWindow tag screen window lane rect => Sys2Proof.Machine.execPlanWindow tag screen window lane rect s
  | .planRevert tag screen => Sys2Proof.Machine.execPlanRevert tag screen s
  | .present tag screen kind length => Sys2Proof.Machine.execPresent tag screen kind length s
  | .scroll tag screen speed target => Sys2Proof.Machine.execScroll tag screen speed target s
  | .focus tag screen kind index => Sys2Proof.Machine.execFocus tag screen kind index s
  | .lanePlay tag lane clockScreen endAction loops title stallLimit => Sys2Proof.Machine.execLanePlay tag lane clockScreen endAction loops title stallLimit s
  | .laneStop tag lane => Sys2Proof.Machine.execLaneStop tag lane s
  | .laneStatus tag lane => Sys2Proof.Machine.execLaneStatus tag lane s
  | .screenStatus tag screen => Sys2Proof.Machine.execScreenStatus tag screen s
  | .lightMode tag screen mode level => Sys2Proof.Machine.execLightMode tag screen mode level s
  | .lightStatus tag => Sys2Proof.Machine.execLightStatus tag s
  | .wakeEdge => Sys2Proof.Machine.execWakeEdge s
  | .panelSignalOn screen => Sys2Proof.Machine.execPanelSignalOn screen s
  | .powerUpEnd screen => Sys2Proof.Machine.execPowerUpEnd screen s
  | .panelSignalOff screen => Sys2Proof.Machine.execPanelSignalOff screen s
  | .powerDownEnd screen => Sys2Proof.Machine.execPowerDownEnd screen s
  | .vblank screen lanesFirst => Sys2Proof.Machine.execVblank screen lanesFirst s
  | .passComplete screen moments => Sys2Proof.Machine.execPassComplete screen moments s
  | .laneHeaderReadDone lane pages => Sys2Proof.Machine.execLaneHeaderReadDone lane pages s
  | .laneReadIssue lane => Sys2Proof.Machine.execLaneReadIssue lane s
  | .laneReadDone lane pages => Sys2Proof.Machine.execLaneReadDone lane pages s
  | .clipDecodeStart => Sys2Proof.Machine.execClipDecodeStart s
  | .clipDecodeDone result => Sys2Proof.Machine.execClipDecodeDone result s
  | .stallTimerExpiry lane => Sys2Proof.Machine.execStallTimerExpiry lane s
  | .fetchTake => Sys2Proof.Machine.execFetchTake s
  | .stillReadDone pages => Sys2Proof.Machine.execStillReadDone pages s
  | .stillDecodeStart => Sys2Proof.Machine.execStillDecodeStart s
  | .stillDecodeDone result => Sys2Proof.Machine.execStillDecodeDone result s
  | .cacheClear => Sys2Proof.Machine.execCacheClear s
  | .pageProgramDone outcome => Sys2Proof.Machine.execPageProgramDone outcome s
  | .relocationReadDone page => Sys2Proof.Machine.execRelocationReadDone page s
  | .rootWriteStart => Sys2Proof.Machine.execRootWriteStart s
  | .glyphReadDone pages => Sys2Proof.Machine.execGlyphReadDone pages s
  | .portGrant => Sys2Proof.Machine.execPortGrant s
  | .storeReadTimeout => Sys2Proof.Machine.execStoreReadTimeout s
  | .eraseUnitReport unit passed => Sys2Proof.Machine.execEraseUnitReport unit passed s
  | .eraseDeadline => Sys2Proof.Machine.execEraseDeadline s
  | .descriptorReadDone page => Sys2Proof.Machine.execDescriptorReadDone page s
  | .rootUnitReadDone pages => Sys2Proof.Machine.execRootUnitReadDone pages s
  | .catalogImageReadDone pages => Sys2Proof.Machine.execCatalogImageReadDone pages s
  | .sampleTimer => Sys2Proof.Machine.execSampleTimer s
  | .sensorReadDone reading => Sys2Proof.Machine.execSensorReadDone reading s
  | .sensorReadTimeout => Sys2Proof.Machine.execSensorReadTimeout s
  | .memoryTestDone matched => Sys2Proof.Machine.execMemoryTestDone matched s
  | .storeTestReadDone page => Sys2Proof.Machine.execStoreTestReadDone page s
  | .panelTestDone result => Sys2Proof.Machine.execPanelTestDone result s
  | .sensorTestStart => Sys2Proof.Machine.execSensorTestStart s
  | .timebaseTestEnd ticks => Sys2Proof.Machine.execTimebaseTestEnd ticks s
  | .descriptorReadTimeout => Sys2Proof.Machine.execDescriptorReadTimeout s

end Sys2Proof.Machine
end

