-- ==== Sys2Proof/WellFormed.lean ====
section
/-!
DEFINITION. Which commands are well formed: every request field fits the width R198 gives it, the counted parts fit the
frame's limits, and what an event carries is what its agent can deliver.
-/

namespace Sys2Proof

/-- A one-byte field. -/
def fits1 (n : Nat) : Bool := n < 256

/-- A two-byte field. -/
def fits2 (n : Nat) : Bool := n < 65536

/-- A four-byte field. -/
def fits4 (n : Nat) : Bool := n < 4294967296

/-- A colour of three channels 0..255 (R195). -/
def rgbFits (c : Rgb) : Bool := fits1 c.r && fits1 c.g && fits1 c.b

/-- A fill of a colour and an alpha (R195). -/
def fillFits (f : Fill) : Bool := rgbFits f.colour && fits1 f.alpha

/-- A rect of signed x and y and unsigned width and height of two bytes each (R195). -/
def rectFits (r : Rect) : Bool :=
  (-32768 ≤ r.x && r.x < 32768) && (-32768 ≤ r.y && r.y < 32768) && fits2 r.w && fits2 r.h

/-- A page of at most 4,096 bytes (R129). -/
def pageFits (p : PageRead) : Bool := p.data.length ≤ 4096

/-- A page read of 1 to 16 pages (R129). -/
def pagesFit (ps : List PageRead) : Bool := 1 ≤ ps.length && ps.length ≤ 16 && ps.all pageFits

/-- A picture whose pixels fill its size. -/
def pictureFits (p : Picture) : Bool := p.pixels.length == p.width * p.height && p.pixels.all rgbFits

/-- A decoder's answer. -/
def answerFits (r : Option Picture) : Bool :=
  match r with
  | some p => pictureFits p
  | none => true

/-- A command is well formed. -/
def Instr.wf (i : Instr) : Bool :=
  match i with
  | .echo tag data => fits1 tag && data.length ≤ 1099
  | .status tag => fits1 tag
  | .setLinkRate tag rate => fits1 tag && fits4 rate
  | .reset tag => fits1 tag
  | .setPower tag state => fits1 tag && fits1 state
  | .causes tag => fits1 tag
  | .selfTest tag flags => fits1 tag && fits1 flags
  | .settingGet tag index => fits1 tag && fits1 index
  | .settingPut tag index value => fits1 tag && fits1 index && fits4 value
  | .settingsSave tag => fits1 tag
  | .storeInfo tag => fits1 tag
  | .remount tag => fits1 tag
  | .stageOpen tag mode => fits1 tag && fits1 mode
  | .stageDiscard tag => fits1 tag
  | .titlePut tag title badge tint stillKey clipKey name =>
    fits1 tag && fits2 title && fits1 badge && rgbFits tint && fits4 stillKey && fits4 clipKey && fits1 name.length
  | .titleDrop tag title => fits1 tag && fits2 title
  | .titleGet tag generation mode title => fits1 tag && fits1 generation && fits1 mode && fits2 title
  | .setGlyphs tag key => fits1 tag && fits4 key
  | .assetBegin tag key kind length check => fits1 tag && fits4 key && fits1 kind && fits4 length && fits4 check
  | .assetData tag key offset chunk => fits1 tag && fits4 key && fits4 offset && chunk.length ≤ 1024
  | .assetAbort tag key => fits1 tag && fits4 key
  | .assetInfo tag generation key => fits1 tag && fits1 generation && fits4 key
  | .publish tag => fits1 tag
  | .cacheInfo tag => fits1 tag
  | .cacheFlush tag => fits1 tag
  | .planBackdrop tag screen colour => fits1 tag && fits1 screen && rgbFits colour
  | .planWall tag screen presence rect columns rows gap border focusColour =>
    fits1 tag && fits1 screen && fits1 presence && rectFits rect && fits1 columns && fits1 rows && fits1 gap &&
      fits1 border && rgbFits focusColour
  | .planTitles tag screen start removeCount titles =>
    fits1 tag && fits1 screen && fits2 start && fits2 removeCount && titles.length ≤ 546 && titles.all fits2
  | .planItem tag screen index rect normal lit text alignment scale glyphs =>
    fits1 tag && fits1 screen && fits1 index && rectFits rect && fillFits normal && fillFits lit && rgbFits text &&
      fits1 alignment && fits1 scale && fits1 glyphs.length
  | .planItemClear tag screen index => fits1 tag && fits1 screen && fits1 index
  | .planWindow tag screen window lane rect => fits1 tag && fits1 screen && fits1 window && fits1 lane && rectFits rect
  | .planRevert tag screen => fits1 tag && fits1 screen
  | .present tag screen kind length => fits1 tag && fits1 screen && fits1 kind && fits1 length
  | .scroll tag screen speed target => fits1 tag && fits1 screen && fits1 speed && fits4 target
  | .focus tag screen kind index => fits1 tag && fits1 screen && fits1 kind && fits2 index
  | .lanePlay tag lane clockScreen endAction loops title stallLimit =>
    fits1 tag && fits1 lane && fits1 clockScreen && fits1 endAction && fits1 loops && fits2 title && fits2 stallLimit
  | .laneStop tag lane => fits1 tag && fits1 lane
  | .laneStatus tag lane => fits1 tag && fits1 lane
  | .screenStatus tag screen => fits1 tag && fits1 screen
  | .lightMode tag screen mode level => fits1 tag && fits1 screen && fits1 mode && fits2 level
  | .lightStatus tag => fits1 tag
  | .powerOnReset => true
  | .supplyDip => true
  | .resetLineLow => true
  | .resetLineRelease => true
  | .rxCharacter _ _ => true
  | .frameTimeout => true
  | .linkBreak _ => true
  | .requestHandoff => true
  | .txFrameSent => true
  | .wakeEdge => true
  | .panelSignalOn _ => true
  | .powerUpEnd _ => true
  | .panelSignalOff _ => true
  | .powerDownEnd _ => true
  | .vblank _ _ => true
  | .passComplete _ _ => true
  | .laneHeaderReadDone _ pages => pagesFit pages
  | .laneReadIssue _ => true
  | .laneReadDone _ pages => pagesFit pages
  | .clipDecodeStart => true
  | .clipDecodeDone result => answerFits result
  | .stallTimerExpiry _ => true
  | .fetchTake => true
  | .stillReadDone pages => pagesFit pages
  | .stillDecodeStart => true
  | .stillDecodeDone result => answerFits result
  | .cacheClear => true
  | .pageProgramDone _ => true
  | .relocationReadDone page => pageFits page
  | .rootWriteStart => true
  | .glyphReadDone pages => pagesFit pages
  | .portGrant => true
  | .storeReadTimeout => true
  | .eraseUnitReport unit _ => fits2 unit
  | .eraseDeadline => true
  | .descriptorReadDone page => page.length ≤ 4096
  | .rootUnitReadDone pages => pagesFit pages
  | .catalogImageReadDone pages => pagesFit pages
  | .sampleTimer => true
  | .sensorReadDone _ => true
  | .sensorReadTimeout => true
  | .memoryTestDone _ => true
  | .storeTestReadDone page => pageFits page
  | .panelTestDone _ => true
  | .sensorTestStart => true
  | .timebaseTestEnd _ => true
  | .descriptorReadTimeout => true

end Sys2Proof
end

