-- ==== Sys2Proof/Safety.lean ====
section
/-!
DEFINITION. The terms in which claims about the part are stated: when the Command Link takes a request, what an answer at
once, a teardown, the store's leaving service, a failed mount, a failed unit and the end of a test leave, and the invariants that
every step keeps.
-/

namespace Sys2Proof.Machine

/-- The Link takes a request of this tag: the part is not held in reset, HELLO has been handed over, the occupancy is below
40, no RESET has been taken, and the tag is not 0 (R169, R187, R188). -/
abbrev State.takes (s : State) (tag : Nat) : Prop :=
  s.power.resetLow = false ∧ s.link.helloSent = true ∧ s.link.canHandOn = true ∧ tag ≠ 0

/-- A request answered at once: the state with one reply handed to the outbound queue (R188, R189). -/
def answered (kind tag : Nat) (status : Status) (data : List Byte) (s : State) : State :=
  s.setLink (s.link.push (replyMsg kind tag status data .nothing))

/-- The messages on their way to the host: the one being sent and those of the outbound queue (R190). -/
def Link.queued (l : Link) : List LinkMsg := l.sending.toList ++ l.outbound

/-! ### What an event leaves behind it -/

/-- An operation has been placed with the arbiter from `a` to `b`, its count 0: it waits there, or, while the port serves an operation
that its client left to run to its end, it is held back behind that one (R148). -/
def Store.placed (purpose : Purpose) (cls : OpClass) (op : StoreOp) (a b : Store) : Prop :=
  let w : WaitingOp := { purpose := purpose, cls := cls, op := op, passed := 0 }
  ((∃ p, a.port = some p ∧ p.orphan = true ∧ clientOf p.purpose = clientOf purpose) →
      b.heldBack = a.heldBack ++ [w] ∧ b.arbiter = a.arbiter) ∧
    ((∀ p, a.port = some p → p.orphan = true → clientOf p.purpose ≠ clientOf purpose) →
      b.arbiter = a.arbiter ++ [w] ∧ b.heldBack = a.heldBack)

/-- A read has reported an unreadable page of a record: the record was DAMAGED already and nothing is sent, or one ASSET_DAMAGED notice
of its first unreadable page is (R108, R200). -/
def damageTold (a : Asset) (run : Run) (pages : List PageRead) (s t : State) : Prop :=
  (a.damaged = true → t.link = s.link) ∧
    (a.damaged = false → ∀ n, pages.findIdx? (fun p => !readable p) = some n →
      t.link = (notice 0xE5 (beBytes 4 a.key ++ beBytes 4 a.check ++ [byteOf a.kind.code] ++ beBytes 4 (run.first + n)) s).link)

/-- One reader fewer on a record: it stays with its count, or it is gone where it was in no generation and had no other reader
(R106, R107). -/
def Asset.afterRelease (a : Asset) : Option Asset :=
  if a.inLive = true ∨ a.inStaged = true ∨ 1 < a.readers then some { a with readers := a.readers - 1 } else none

/-- So many readers fewer on a record, one after the other (R106, R107). -/
def Asset.afterReleases : Nat → Asset → Option Asset
  | 0, a => some a
  | n + 1, a => a.afterRelease.bind (Asset.afterReleases n)

/-- The operation on the port is one of the lane's that has not been left to itself (R82, R148). -/
def State.laneOnPort (s : State) (l : Fin 3) : Bool := s.store.port.any fun p => !p.orphan && clientOf p.purpose == .lane l

/-- The lanes `gone` have been torn down from `s` to `t`: no operation of theirs waits; one in progress is left to run to its end and
keeps its clip's reader until then; each other one has released a reader of its clip, two that share a clip one each; no other
record changes (R82, R106). -/
def readersReleased (gone : List (Fin 3)) (s t : State) : Prop :=
  (∀ l ∈ gone, ∀ w ∈ t.store.arbiter ++ t.store.heldBack, clientOf w.purpose ≠ .lane l) ∧
    (∀ l ∈ gone, ∀ p, s.store.port = some p → s.laneOnPort l = true →
      t.store.port = some { p with orphan := true, releaseReader := (s.lane l).clip }) ∧
    ∀ (uid : Nat) (a : Asset), s.catalog.record uid = some a →
      t.catalog.record uid = a.afterReleases (gone.countP fun l => (s.lane l).clip = some uid ∧ s.laneOnPort l = false)

/-- A lane has been torn down from `s` to `t`: no operation of it waits, and its clip's reader is released at once, or at the end
of its operation in progress, which is left to run to its end (R82, R106). -/
def readerReleased (l : Fin 3) (s t : State) : Prop :=
  (∀ w ∈ t.store.arbiter ++ t.store.heldBack, clientOf w.purpose ≠ .lane l) ∧
    ∀ (uid : Nat) (a : Asset), (s.lane l).clip = some uid → s.catalog.record uid = some a →
      (∀ p, s.store.port = some p → p.orphan = false → clientOf p.purpose = .lane l →
        t.store.port = some { p with orphan := true, releaseReader := some uid } ∧ t.catalog.record uid = some a) ∧
      ((∀ p, s.store.port = some p → p.orphan = true ∨ clientOf p.purpose ≠ .lane l) →
        t.catalog.record uid = a.afterRelease)

/-- The store has left service altogether between `s` and `t`, with the operation `op` still on the port: every active lane is
HELD with cause STORE, the loads that wait for a read have ended, the intake, the publish and the root writes have failed, nothing
waits at the arbiter, and each of them is told, the STORE_STATE notice among the messages (R53, R85, R119, R123, R134, R135,
R137, R147). The notices enter where the outbound queue has room for all of them. -/
def leftService (new : StoreState) (cause : StoreCause) (op : Option PortOp) (s t : State) : Prop :=
  let fits := s.link.helloSent = true ∧ s.link.occupancy < 24
  let running := fun c : Client => ∃ p, op = some p ∧ p.orphan = false ∧ clientOf p.purpose = c
  let sent := fun m : LinkMsg => m ∈ t.link.queued
  t.store.state = new ∧ t.store.arbiter = [] ∧ t.store.heldBack = [] ∧ t.store.cleanWait = [] ∧
    t.store.rootWrite = none ∧ t.store.rootQueue = [] ∧
    (∀ b, s.store.batch = some b → b.granted = false → t.store.batch = none) ∧
    (∀ l : Fin 3,
      ((s.lane l).active = false → t.lane l = s.lane l) ∧
      ((s.lane l).active = true → (t.lane l).state = .held ∧ (t.lane l).heldCause = some .store ∧ (t.lane l).clip = none ∧
        (t.lane l).title = (s.lane l).title ∧ (t.lane l).ring = [] ∧ (t.lane l).queue = [] ∧ (t.lane l).onShow = none ∧
        (t.lane l).stallTimer = none ∧ (t.lane l).pendingTag = none ∧ t.lanes.decoding ≠ some l ∧
        (∀ tag, (s.lane l).pendingTag = some tag → sent (replyMsg 0x40 tag .storeOffline [] .nothing)) ∧
        (fits → sent { kind := 0xE4, tag := 0, payload := [byteOf l.val, 2] }))) ∧
    (∀ m ∈ s.cache.loads, (s.cache.slot m.slot).ident.isSome = true →
      let waits := m.slot ∉ s.cache.waitList ∧ s.cache.decoding ≠ some m.slot ∧ ¬ running (.still m.slot)
      (waits → (∀ n ∈ t.cache.loads, n.slot ≠ m.slot) ∧ t.cache.slot m.slot = {}) ∧
        (¬ waits → m ∈ t.cache.loads ∧ t.cache.slot m.slot = s.cache.slot m.slot)) ∧
    t.cache.failed = s.cache.failed ∧ (¬ running .glyph → t.catalog.glyphLoad = none) ∧
    (s.catalog.intake.state = .open →
      t.catalog.intake.state = .failed ∧ t.catalog.intake.failure = .storeOffline ∧ t.catalog.intake.key = s.catalog.intake.key) ∧
    (s.catalog.intake.state = .finishing →
      t.catalog.intake.state = .none ∧ sent (replyMsg 0x1E s.catalog.intake.tag .storeOffline [] .nothing)) ∧
    (∀ q, s.catalog.publish = some q → t.catalog.publish = none ∧ t.catalog.staged = s.catalog.staged ∧
      sent (replyMsg 0x21 q.tag .storeFault [] .nothing)) ∧
    (∀ tag, s.power.saveTag = some tag → t.power.saveTag = none ∧ sent (replyMsg 0x0D tag .storeOffline [] .nothing)) ∧
    (fits → sent
      { kind := 0xE6, tag := 0
        payload := [byteOf new.code, byteOf s.store.state.code, byteOf cause.code, byteOf s.catalog.state.code] ++
          beBytes 4 s.catalog.number })

/-- A mount has ended ABSENT or OFFLINE between `s` and `t`: the live generation is empty with number 0 and catalog state EMPTY; there
are no units, no bad list, no fill unit and no image part; a start-up mount has loaded the defaults where it had no settings, and
has sent HELLO; a REMOUNT is answered STORE_OFFLINE; STORE_STATE follows (R126, R130, R135 to R137, R171, R172). -/
def mountFailed (new : StoreState) (cause : StoreCause) (s t : State) : Prop :=
  let stands := [byteOf new.code, 2, 0, 0, 0, 0]
  t.store.state = new ∧ t.store.mount = .none ∧ t.store.port = none ∧ t.store.startUp = false ∧ t.store.units = [] ∧
    t.store.badUnits = [] ∧ t.store.fillUnit = none ∧ t.store.imagePart = {} ∧ t.store.rootPos = s.store.rootPos ∧
    t.store.highestSeq = s.store.highestSeq ∧ t.catalog.state = .empty ∧ t.catalog.number = 0 ∧ t.catalog.titles = [] ∧
    t.catalog.glyphKey = 0 ∧ t.catalog.liveImage = [] ∧ (∀ a ∈ t.catalog.pool, a.inLive = false) ∧
    (s.store.startUp = true → t.link.helloSent = true ∧ t.power.settings = s.power.settings.or (some .defaults) ∧
      ({ kind := 0xE0, tag := 0, payload := [0x54, 0x36, 3] ++ stands ++
          [if s.power.settings = some .loaded then 0 else 1] ++
          byteOf s.power.causes.length :: s.power.causes.map (fun c => byteOf c.code) } : LinkMsg) ∈ t.link.queued) ∧
    (s.store.startUp = false → t.power.settings = s.power.settings ∧ ∀ tag, s.store.remountTag = some tag →
      t.store.remountTag = none ∧ replyMsg 0x11 tag .storeOffline stands .nothing ∈ t.link.queued) ∧
    ((s.store.startUp = true ∨ s.link.helloSent = true) → s.link.occupancy < 24 →
      ({ kind := 0xE6, tag := 0, payload := [byteOf new.code, 1, byteOf cause.code, 2, 0, 0, 0, 0] } : LinkMsg) ∈ t.link.queued)

/-- The bad unit list takes in these units, and one in ascending order without repeats stays so (R141). -/
def Store.listed (us : List Nat) (a b : Store) : Prop :=
  (∀ v, v ∈ b.badUnits ↔ v ∈ a.badUnits ∨ v ∈ us) ∧ (a.badUnits.Pairwise (· < ·) → b.badUnits.Pairwise (· < ·))

/-- The self-test `u` goes on from `s` to `t` with the tests still to run and the codes so far: the next begins, the STORE test giving
its code 2 at once where the store takes no reads, or the reply is sent, with a pair for each of flags 5 to 7 that is set (R177, R178,
R179, R180). -/
def SelfTest.goesOn (u : SelfTest) (s t : State) : List SelfTestKind → List (Nat × Nat) → Prop
  | [], codes =>
    t.power.selfTest = none ∧ t.power.wakeMark = false ∧
      (s.power.wakeMark = false → t.link = s.link.fillPlace (replyMsg 0x0A u.tag .ok
        (codes.flatMap (fun p => [byteOf p.1, byteOf p.2]) ++
          ([5, 6, 7].filter fun n => u.flags.testBit n).flatMap fun n => [byteOf n, 255]) .nothing))
  | .store :: rest, codes =>
    if s.store.state = .online ∨ s.store.state = .readOnly then
      t.power.selfTest = some { u with rest := rest, codes := codes, step := .storeDescriptor } ∧ t.link = s.link ∧
        ∃ w ∈ t.store.arbiter ++ t.store.heldBack, w.purpose = .testDescriptor ∧ w.cls = .write ∧ w.op = .descriptorRead
    else u.goesOn s t rest (codes ++ [(1, 2)])
  | .memory :: rest, codes =>
    t.power.selfTest = some { u with rest := rest, codes := codes, step := .memoryClear } ∧ t.link = s.link ∧
      t.cache.clearWaiting = true
  | .panel :: rest, codes => t.power.selfTest = some { u with rest := rest, codes := codes, step := .panel } ∧ t.link = s.link
  | .sensor :: rest, codes =>
    t.power.selfTest = some { u with rest := rest, codes := codes, step := .sensorWait false } ∧ t.link = s.link
  | .timebase :: rest, codes =>
    t.power.selfTest = some { u with rest := rest, codes := codes, step := .timebase } ∧ t.link = s.link

/-! ### Invariants -/

/-- The Link between two commands (R184, R187, R190): every held byte has been examined, a frame in progress begins with SYNC
and is not yet as long as the longest frame, the request queue holds at most 8 requests, and an idle transmitter has nothing
to send. -/
def Link.settled (l : Link) : Prop :=
  l.rxHeld = [] ∧ l.rxFrame.length ≤ 1106 ∧ (l.rxFrame = [] ∨ l.rxFrame.head? = some 0xA7#8) ∧ l.requests.length ≤ 8 ∧
    (l.sending = none → l.outbound = [])

/-- The backlight of both screens: a target and an output never above the cap, an output of 0 unless the panel is RUNNING
(R158 to R160). -/
def State.lightBounded (s : State) : Prop :=
  ∀ i, (s.lightOf i).target ≤ (s.lightOf i).cap ∧ (s.lightOf i).output ≤ (s.lightOf i).cap ∧
    (s.running i = false → (s.lightOf i).output = 0)

/-- A screen record and its panel pins agree with the screen state (R91, R93 to R96). -/
def Screen.consistent (c : Screen) : Prop :=
  match c.state with
  | .off =>
    c.sequence = none ∧ c.frameTimer = false ∧ c.back = .free ∧ c.powerEnable = false ∧ c.videoSignal = false
  | .waking =>
    c.frameTimer = false ∧ c.back = .free ∧ c.powerEnable = true ∧
      (c.sequence = some .wake20 ∧ c.videoSignal = false ∨ c.sequence = some .wake100 ∧ c.videoSignal = true)
  | .running => c.sequence = none ∧ c.frameTimer = true ∧ c.powerEnable = true ∧ c.videoSignal = true
  | .sleeping =>
    c.frameTimer = false ∧ c.back = .free ∧ c.powerEnable = true ∧
      (c.sequence = some .sleep50 ∧ c.videoSignal = true ∨ c.sequence = some .sleep20 ∧ c.videoSignal = false)

/-- Both screens are consistent, and a pass context is open exactly while a back buffer is COMPOSING (R25, R26, R98). -/
def State.scanoutConsistent (s : State) : Prop :=
  ∀ i, (s.screen i).consistent ∧ ((s.compScreen i).context.isSome ↔ (s.screen i).back = .composing)

/-- The tables of fixed size and the bounded lists keep their sizes: 96 slots, at most 2 loads, 32 queue entries and 16 failed
identities (R43, R47, R51, R57), 48 menu items in every plan (R1), nine coefficients and three offsets in every matrix (R41),
eight breakpoints in every curve (R155). -/
def State.shaped (s : State) : Prop :=
  s.cache.slots.length = 96 ∧ s.cache.loads.length ≤ 2 ∧ s.cache.queue.length ≤ 32 ∧ s.cache.failed.length ≤ 16 ∧
    ∀ i, (s.plan i).live.items.length = 48 ∧ (s.plan i).pending.items.length = 48 ∧
      (s.compScreen i).matrix.coeffs.length = 9 ∧ (s.compScreen i).matrix.offsets.length = 3 ∧
      (s.lightOf i).curveLux.length = 8 ∧ (s.lightOf i).curveLevel.length = 8

/-- Titles stand in strictly rising number order, in both generations (R103, R111). -/
def State.titlesInOrder (s : State) : Prop :=
  strictlyRising (s.catalog.titles.map (·.number)) = true ∧
    ∀ g, s.catalog.staged = some g → strictlyRising (g.titles.map (·.number)) = true

end Sys2Proof.Machine
end

