-- ==== Sys2Proof/Certificates/Slice0/Obligations.lean ====
section
/-!
DEFINITION. The statements about the part: what its reset leaves, what each command does, what the Link carries, and what
every step keeps. Each docstring names the rules of spec/ it rests on.
-/

open Sys2Proof Sys2Proof.Machine

/-- A step runs the command at the front of the queue; an empty queue idles (00_scope.md). -/
def Obligations.StepRunsTheFrontCommand : Prop :=
  (∀ (c : Instr) (rest : List Instr) (s : State), step { s with pending := c :: rest } = exec c { s with pending := rest }) ∧
    ∀ s : State, s.pending = [] → step s = .next s

/-- Each reset command leaves the start-up state, or the held state under a low RESET line, with the cause set of R169 (R169, R171,
R186, R194); the held state is the start-up state with nothing begun. That a held part has begun nothing and stays held at a supply
dip and a power-on, and that a power-on then leaves {POWER_ON}, is the model's choice (log entry 13), as are the operand that says
that RX has been high (log entry 14) and the waiting commands that stay queued (log entry 39). -/
def Obligations.ResetsBeginStartUp : Prop :=
  ∀ s : State,
    (s.power.resetLow = false →
      exec .powerOnReset s = .next (startUp [.powerOn] s) ∧
        exec .supplyDip s = .next (startUp (addCause .supplyDip s.power.causes) s) ∧
        exec .resetLineLow s = .next (heldInReset (addCause .resetLine s.power.causes) s) ∧
        (∀ seen : Bool, (s.link.breakArmed = true ∨ seen = true) →
          exec (.linkBreak seen) s = .next (startUp (addCause .linkBreak s.power.causes) s)) ∧
        (s.link.breakArmed = false → exec (.linkBreak false) s = .next s)) ∧
      (s.power.resetLow = true →
        exec .resetLineRelease s = .next (startUp s.power.causes s) ∧
          exec .powerOnReset s = .next (heldInReset [.powerOn] s) ∧
          exec .supplyDip s = .next (heldInReset (addCause .supplyDip s.power.causes) s) ∧ exec .resetLineLow s = .next s) ∧
      (∀ causes : List ResetCause,
        let t := startUp causes s
        t.pending = s.pending ∧ heldInReset causes s = { t with
          store := { t.store with port := none, mount := .none }
          light := { t.light with sampleTimer := false }
          power := { t.power with resetLow := true } }) ∧
      (∀ (c x : ResetCause) (set : List ResetCause), x ∈ addCause c set ↔ x = c ∨ x ∈ set) ∧
      ∀ (c : ResetCause) (set : List ResetCause), (addCause c set).Nodup ∧
        (addCause c set).Sublist [.powerOn, .supplyDip, .resetLine, .linkBreak, .resetRequest]

/-- Start-up leaves every block at its reset values (R24, R42, R62, R88, R102, R171, R128, R150, R164, R181, R194). The model's
choices: the transition's length and step and other inner fields (log entry 36), the descriptor read on the port (log entry
12). The unspecified content of the frame buffers is log entry 9. -/
def Obligations.StartUpLeavesEveryBlockAtItsResetValues : Prop :=
  (∀ (causes : List ResetCause) (s : State) (i : Fin 2) (l : Fin 3),
      let t := startUp causes s
      let empty : Plan := { backdrop := ⟨0, 0, 0⟩, wall := none, items := List.replicate 48 none, windows := ⟨none, none, none⟩ }
      t.plan i = { live := empty, pending := empty, sealMark := none
                   transition := { fading := false, length := 0, step := 0, level := 0 }
                   scroll := { position := 0, target := 0, speed := 1, down := true }
                   focus := .none, cells := [], posters := ⟨none, none, none⟩, wantedVisible := [], wantedPrefetch := []
                   reResolve := false } ∧
        t.compScreen i = { matrix := { coeffs := [1024, 0, 0, 0, 1024, 0, 0, 0, 1024], offsets := [0, 0, 0] }, context := none } ∧
        (∀ k, k < 96 → t.cache.slot k = { state := .free, ident := none, picture := none, stale := false, cls := none }) ∧
        (t.cache.pins = [] ∧ t.cache.reuse = [] ∧ t.cache.queue = [] ∧ t.cache.failed = [] ∧ t.cache.loads = [] ∧
          t.cache.waitList = [] ∧ t.cache.decoding = none ∧ t.cache.clearWaiting = false) ∧
        ((t.lane l).state = .idle ∧ (t.lane l).title = 0 ∧ (t.lane l).clip = none ∧ (t.lane l).clockScreen = 0 ∧
          (t.lane l).endAction = .freeze ∧ (t.lane l).loops = 0 ∧ (t.lane l).stallLimit = 3000 ∧ (t.lane l).stallTimer = none ∧
          (t.lane l).clock = 0 ∧ (t.lane l).fill = 0 ∧ (t.lane l).ring = [] ∧ (t.lane l).queue = [] ∧ (t.lane l).index = [] ∧
          (t.lane l).onShow = none ∧ (t.lane l).skipped = 0 ∧ (t.lane l).pendingTag = none ∧ (t.lane l).heldCause = none ∧
          (t.lane l).endedReason = none ∧ (t.lane l).endReason = none ∧ (t.lane l).ready = false ∧ (t.lane l).skipping = false ∧
          (t.lane l).readingStopped = false ∧ (t.lane l).demand = false ∧ (t.lane l).readPos = ⟨0, 0⟩ ∧
          (t.lane l).decodePos = ⟨0, 0⟩ ∧ (t.lane l).finalPass = none ∧ (t.lane l).header = none ∧
          (t.lane l).request = none) ∧
        (t.lanes.decoding = none ∧ t.lanes.lastServed = 2) ∧
        ((t.screen i).state = .off ∧ (t.screen i).wantedOn = false ∧ (t.screen i).sequence = none ∧
          (t.screen i).frameTimer = false ∧ (t.screen i).active = (if i = 0 then ⟨1280, 800, 60⟩ else ⟨1080, 1920, 60⟩) ∧
          (t.screen i).entries = (t.screen i).active ∧ (t.screen i).front1 = false ∧ (t.screen i).back = .free ∧
          (t.screen i).missed = 0 ∧ (t.screen i).passCount = 0 ∧ (t.screen i).powerEnable = false ∧
          (t.screen i).videoSignal = false ∧ ∃ time, (t.screen i).buffers = ⟨.unspecified time, .unspecified time⟩)) ∧
  (∀ (causes : List ResetCause) (s : State) (i : Fin 2),
      let t := startUp causes s
      (t.catalog.number = 0 ∧ t.catalog.glyphKey = 0 ∧ t.catalog.titles = [] ∧ t.catalog.staged = none ∧ t.catalog.pool = [] ∧
          t.catalog.retiring = [] ∧ t.catalog.intake.state = .none ∧ t.catalog.intake.buffer = [] ∧
          t.catalog.intake.refused = false ∧ t.catalog.publish = none ∧ t.catalog.glyphs = none ∧ t.catalog.glyphLoad = none) ∧
        (t.store.state = .mounting ∧ t.store.descriptor = none ∧ t.store.units = [] ∧ t.store.badUnits = [] ∧
          t.store.fillUnit = none ∧ t.store.rootPos = none ∧ t.store.highestSeq = 0 ∧ t.store.imagePart = ⟨[], 0, 0⟩ ∧
          t.store.newestRoot = none ∧ t.store.arbiter = [] ∧ t.store.heldBack = [] ∧ t.store.cleanWait = [] ∧
          t.store.rootQueue = [] ∧ t.store.rootWrite = none ∧ t.store.batch = none ∧ t.store.startUp = true ∧
          t.store.mount = .descriptor ∧ (t.store.port.map (·.purpose)) = some .mountDescriptor) ∧
        (t.light.sampleTimer = true ∧ t.light.ambient = { state := .unknown, misses := 0, latest := none } ∧
          t.light.temps.get i = { state := .unknown, misses := 0, latest := none } ∧ t.light.window = [] ∧
          t.light.filteredLux = none ∧ t.light.derateStart = 60 ∧ t.light.derateStep = 4096 ∧ t.light.fallback = 52428 ∧
          t.light.slew = 2048 ∧ (t.lightOf i).manual = false ∧ (t.lightOf i).manualLevel = 0 ∧
          (t.lightOf i).curve = [(0, 6554), (500, 13107), (5000, 32768), (20000, 52428), (60000, 65535)] ∧
          (t.lightOf i).cap = 32767 ∧ (t.lightOf i).target = 32767 ∧ (t.lightOf i).output = 0) ∧
        (t.power.state = .active ∧ t.power.changing = true ∧ t.power.causes = causes ∧ t.power.selfTest = none ∧
          t.power.wakeMark = false ∧ t.power.saveTag = none ∧ t.power.settings = none ∧ t.power.resetLow = false) ∧
        (t.link.rate = .b115200 ∧ t.link.rxFrame = [] ∧ t.link.rxHeld = [] ∧ t.link.helloSent = false ∧
          t.link.resetTaken = false ∧ t.link.requests = [] ∧ t.link.outbound = [] ∧ t.link.places = 0 ∧ t.link.sending = none ∧
          t.link.noticesDropped = false ∧ t.link.breakArmed = false))

/-- While the RESET line is low only a reset command changes the part. R169 says that the part stays in reset while the line is
low; that no other command then changes anything is the model's reading of it (log entry 13). -/
def Obligations.HeldPartDoesNothing : Prop :=
  ∀ (c : Instr) (s : State), s.power.resetLow = true →
    c ≠ .powerOnReset → c ≠ .supplyDip → c ≠ .resetLineRelease → exec c s = .next s

/-- The state after reset meets every invariant stated of the part (R181, R194, R164, R102). -/
def Obligations.ResetMeetsTheInvariants : Prop :=
  State.reset.link.settled ∧ State.reset.lightBounded ∧ State.reset.scanoutConsistent ∧ State.reset.shaped ∧
    State.reset.titlesInOrder

/-- Every step keeps the Link settled (R184, R187, R190). -/
def Obligations.EveryStepKeepsTheLinkSettled : Prop :=
  ∀ s s' : State, s.link.settled → step s = .next s' → s'.link.settled

/-- Every step keeps each backlight at or below its cap, and at 0 unless its panel is RUNNING (R158, R159, R160). -/
def Obligations.EveryStepKeepsTheBacklightBounded : Prop :=
  ∀ s s' : State, s.lightBounded → step s = .next s' → s'.lightBounded

/-- Every step keeps panel pins, sequence timers, back buffers and pass contexts in line with the screen states (R91, R93,
R94, R95, R98). -/
def Obligations.EveryStepKeepsScanoutConsistent : Prop :=
  ∀ s s' : State, s.scanoutConsistent → step s = .next s' → s'.scanoutConsistent

/-- Every step keeps the 96 slots, the bounded lists and the tables of fixed size (R43, R47, R51, R57, R1, R41, R155). -/
def Obligations.EveryStepKeepsTheTableSizes : Prop :=
  ∀ s s' : State, s.shaped → step s = .next s' → s'.shaped

/-- Every step keeps the live and the staged titles in strictly rising number order (R103, R111, R124, R126). -/
def Obligations.EveryStepKeepsTitlesInOrder : Prop :=
  ∀ s s' : State, s.titlesInOrder → step s = .next s' → s'.titlesInOrder

/-- The link rate changes only when a SET_LINK_RATE reply has been sent, or to 115,200 baud at a reset (R182, R192). -/
def Obligations.LinkRateChangesOnlyAfterItsReply : Prop :=
  ∀ (c : Instr) (s t : State), exec c s = .next t →
    t.link.rate = s.link.rate ∨
      (c = .txFrameSent ∧ ∃ m, s.link.sending = some m ∧ m.after = .setRate t.link.rate) ∨
      t.link.rate = .b115200 ∧
        (c = .powerOnReset ∨ c = .supplyDip ∨ c = .resetLineLow ∨ c = .resetLineRelease ∨ (∃ seen, c = .linkBreak seen) ∨
          c = .txFrameSent ∧ ∃ m, s.link.sending = some m ∧ m.after = .resetPart)

/-- The receiver begins a frame at A7h, drops other bytes while hunting, and drops a frame at a low stop bit (R182, R184,
R186). -/
def Obligations.ReceiverTakesBytes : Prop :=
  ∀ (s : State) (b : Byte), s.power.resetLow = false → s.link.rxHeld = [] →
    (s.link.rxFrame = [] → exec (.rxCharacter b true) s =
      .next (s.setLink { s.link with breakArmed := true, rxFrame := if b = 0xA7#8 then [b] else [] })) ∧
    exec (.rxCharacter b false) s = .next (s.setLink { s.link with breakArmed := true, rxFrame := [] })

/-- A whole frame on the wire, byte by byte, joins the request queue as it was sent, or is discarded or answered QUEUE_FULL as R187 gives;
a frame whose LEN or CHECK fails leaves what the bytes after its SYNC leave by themselves, since they are examined again (R183, R184,
R187, R189). -/
def Obligations.FrameOnTheWireIsQueued : Prop :=
  let line := fun (bytes : List Byte) (s : State) => bytes.foldl
    (fun o b => match o with | .next t => exec (.rxCharacter b true) t | o => o) (Host.Outcome.next (φ := Fault) (ρ := Refusal) s)
  ∀ s : State, s.power.resetLow = false → s.link.rxFrame = [] → s.link.rxHeld = [] →
    (∀ f : Frame, f.kind < 256 → f.tag < 256 → f.payload.length ≤ 1100 →
      let arrives := line (frameBytes { kind := f.kind, tag := f.tag, payload := f.payload }) s
      let heard : Link := { s.link with breakArmed := true }
      (s.link.helloSent = false ∨ s.link.resetTaken = true → arrives = .next (s.setLink heard)) ∧
      (s.link.helloSent = true → s.link.resetTaken = false →
        (s.link.requests.length < 8 → arrives = .next (s.setLink { heard with requests := s.link.requests ++ [f] })) ∧
        (8 ≤ s.link.requests.length → s.link.occupancy < 48 → arrives = .next (s.setLink (heard.push
          { kind := if isRequestKind f.kind then f.kind + 0x80 else 0xFF, tag := f.tag
            payload := [byteOf Status.queueFull.code] }))) ∧
        (8 ≤ s.link.requests.length → 48 ≤ s.link.occupancy → arrives = .next (s.setLink heard)))) ∧
    (∀ hi lo : Byte, 1100 < 256 * hi.toNat + lo.toNat → line [0xA7#8, hi, lo] s = line [hi, lo] s) ∧
    ∀ (n : Nat) (rest check : List Byte), n ≤ 1100 → rest.length = n + 2 → check.length = 2 →
      let body := beBytes 2 n ++ rest
      beNat check ≠ (crc16 body).toNat → line (0xA7#8 :: (body ++ check)) s = line (body ++ check) s

/-- Every well-formed request parses back from the frame that encodes it, and every request command has a frame, of its kind and with
its tag (R195, R196, R198). -/
def Obligations.EncodedRequestsParseBack : Prop :=
  (∀ (i : Instr) (f : Frame), i.wf = true → encodeRequest i = some f → parseRequest f = .ok i ∧ isRequestKind f.kind = true) ∧
  ∀ tag : Nat,
    let framed := fun (i : Instr) (kind : Nat) => ∃ payload, encodeRequest i = some ⟨kind, tag, payload⟩
    (∀ (data : List Byte), framed (.echo tag data) 0x01) ∧
    framed (.status tag) 0x02 ∧
    (∀ (rate : Nat), framed (.setLinkRate tag rate) 0x03) ∧
    framed (.reset tag) 0x04 ∧
    (∀ (state : Nat), framed (.setPower tag state) 0x08) ∧
    framed (.causes tag) 0x09 ∧
    (∀ (flags : Nat), framed (.selfTest tag flags) 0x0A) ∧
    (∀ (index : Nat), framed (.settingGet tag index) 0x0B) ∧
    (∀ (index value : Nat), framed (.settingPut tag index value) 0x0C) ∧
    framed (.settingsSave tag) 0x0D ∧
    framed (.storeInfo tag) 0x10 ∧
    framed (.remount tag) 0x11 ∧
    (∀ (mode : Nat), framed (.stageOpen tag mode) 0x18) ∧
    framed (.stageDiscard tag) 0x19 ∧
    (∀ (title badge : Nat) (tint : Rgb) (stillKey clipKey : Nat) (name : List Byte),
      framed (.titlePut tag title badge tint stillKey clipKey name) 0x1A) ∧
    (∀ (title : Nat), framed (.titleDrop tag title) 0x1B) ∧
    (∀ (generation mode title : Nat), framed (.titleGet tag generation mode title) 0x1C) ∧
    (∀ (key : Nat), framed (.setGlyphs tag key) 0x22) ∧
    (∀ (key kind length check : Nat), framed (.assetBegin tag key kind length check) 0x1D) ∧
    (∀ (key offset : Nat) (chunk : List Byte), framed (.assetData tag key offset chunk) 0x1E) ∧
    (∀ (key : Nat), framed (.assetAbort tag key) 0x1F) ∧
    (∀ (generation key : Nat), framed (.assetInfo tag generation key) 0x20) ∧
    framed (.publish tag) 0x21 ∧
    framed (.cacheInfo tag) 0x28 ∧
    framed (.cacheFlush tag) 0x29 ∧
    (∀ (screen : Nat) (colour : Rgb), framed (.planBackdrop tag screen colour) 0x30) ∧
    (∀ (screen presence : Nat) (rect : Rect) (columns rows gap border : Nat) (focusColour : Rgb),
      framed (.planWall tag screen presence rect columns rows gap border focusColour) 0x31) ∧
    (∀ (screen start removeCount : Nat) (titles : List Nat), framed (.planTitles tag screen start removeCount titles) 0x32) ∧
    (∀ (screen index : Nat) (rect : Rect) (normal lit : Fill) (text : Rgb) (alignment scale : Nat) (glyphs : List Byte),
      framed (.planItem tag screen index rect normal lit text alignment scale glyphs) 0x33) ∧
    (∀ (screen index : Nat), framed (.planItemClear tag screen index) 0x34) ∧
    (∀ (screen window lane : Nat) (rect : Rect), framed (.planWindow tag screen window lane rect) 0x35) ∧
    (∀ (screen : Nat), framed (.planRevert tag screen) 0x36) ∧
    (∀ (screen kind length : Nat), framed (.present tag screen kind length) 0x37) ∧
    (∀ (screen speed target : Nat), framed (.scroll tag screen speed target) 0x38) ∧
    (∀ (screen kind index : Nat), framed (.focus tag screen kind index) 0x39) ∧
    (∀ (lane clockScreen endAction loops title stallLimit : Nat),
      framed (.lanePlay tag lane clockScreen endAction loops title stallLimit) 0x40) ∧
    (∀ (lane : Nat), framed (.laneStop tag lane) 0x41) ∧
    (∀ (lane : Nat), framed (.laneStatus tag lane) 0x42) ∧
    (∀ (screen : Nat), framed (.screenStatus tag screen) 0x48) ∧
    (∀ (screen mode level : Nat), framed (.lightMode tag screen mode level) 0x50) ∧
    framed (.lightStatus tag) 0x51

/-- Handing on the head request has the effect of its command; requests are queued only once HELLO has been handed over (R187,
R188). -/
def Obligations.HandOffRunsTheRequest : Prop :=
  ∀ (i : Instr) (f : Frame) (rest : List Frame) (s : State),
    s.power.resetLow = false → s.link.helloSent = true → s.link.canHandOn = true → i.wf = true → encodeRequest i = some f → f.tag ≠ 0 →
    s.link.requests = f :: rest →
    ∃ t, exec .requestHandoff s = .next t ∧ exec i (s.setLink { s.link with requests := rest }) = .next t

/-- The hand-off checks kind, tag, length and reserved fields in that order, each against the table of the request kinds (R188, R189,
R198). -/
def Obligations.HandOffRefusesInOrder : Prop :=
  let fixed : List (Nat × Nat) := [(0x02, 0), (0x03, 4), (0x04, 0), (0x08, 1), (0x09, 0), (0x0A, 1), (0x0B, 1), (0x0C, 5), (0x0D, 0),
    (0x10, 0), (0x11, 0), (0x18, 1), (0x19, 0), (0x1B, 2), (0x1C, 4), (0x1D, 14), (0x1F, 4), (0x20, 5), (0x21, 0), (0x22, 4),
    (0x28, 0), (0x29, 0), (0x30, 4), (0x31, 18), (0x34, 2), (0x35, 12), (0x36, 1), (0x37, 3), (0x38, 6), (0x39, 4), (0x40, 8),
    (0x41, 1), (0x42, 1), (0x48, 1), (0x50, 4), (0x51, 0)]
  (∀ p : List Byte, (∀ x ∈ fixed, lengthOk x.1 p = true ↔ p.length = x.2) ∧ (lengthOk 0x01 p = true ↔ p.length ≤ 1099) ∧
    (lengthOk 0x1E p = true ↔ 8 ≤ p.length ∧ p.length ≤ 1032) ∧
    (lengthOk 0x1A p = true ↔ 16 ≤ p.length ∧ p.length = 16 + fieldAt p 14 1) ∧
    (lengthOk 0x32 p = true ↔ 8 ≤ p.length ∧ p.length = 8 + 2 * fieldAt p 6 2) ∧
    (lengthOk 0x33 p = true ↔ 24 ≤ p.length ∧ p.length = 24 + fieldAt p 23 1)) ∧
  (∀ (p : List Byte) (kind : Nat),
    (∀ o, (kind, o) ∈ [(0x1A, 15), (0x1D, 5), (0x31, 17), (0x32, 1), (0x35, 3)] →
      (reservedOk kind p = true ↔ p.getD o 0 = 0)) ∧
    (kind ∉ [0x1A, 0x1D, 0x31, 0x32, 0x35] → reservedOk kind p = true)) ∧
  (∀ kind : Nat, isRequestKind kind = true ↔ kind ∈ fixed.map (·.1) ∨ kind ∈ [0x01, 0x1A, 0x1E, 0x32, 0x33]) ∧
  ∀ (f : Frame) (rest : List Frame) (s : State), s.power.resetLow = false → s.link.requests = f :: rest →
    let s' := s.setLink { s.link with requests := rest }
    let refused := fun (kind : Nat) (st : Status) (data : List Byte) =>
      s'.setLink (s'.link.push { kind := kind, tag := f.tag, payload := byteOf st.code :: data })
    (s.link.canHandOn = false → exec .requestHandoff s = .next s) ∧
      (s.link.canHandOn = true →
        (isRequestKind f.kind = false → exec .requestHandoff s = .next (refused 0xFF .badKind [byteOf f.kind])) ∧
          (isRequestKind f.kind = true →
            (f.tag = 0 → exec .requestHandoff s = .next (refused (f.kind + 0x80) .badParam [])) ∧
              (f.tag ≠ 0 →
                (lengthOk f.kind f.payload = false →
                  exec .requestHandoff s = .next (refused (f.kind + 0x80) .badLength [])) ∧
                  (lengthOk f.kind f.payload = true → reservedOk f.kind f.payload = false →
                    exec .requestHandoff s = .next (refused (f.kind + 0x80) .fieldNonzero [])))))

/-- A frame timeout drops the frame in progress; a sent frame frees the transmitter, changes the rate or resets the part
(R185, R190, R192, R193). -/
def Obligations.TransmitterAndFrameTimer : Prop :=
  ∀ s : State, s.power.resetLow = false →
    exec .frameTimeout s = .next (s.setLink { s.link with rxFrame := [] }) ∧
      ∀ m : LinkMsg, s.link.sending = some m →
        let idle : Link := { s.link with sending := none }
        let next := fun l : Link => match l.outbound with
          | [] => l
          | n :: more => { l with sending := some n, outbound := more }
        (m.after = .nothing → exec .txFrameSent s = .next (s.setLink (next idle))) ∧
          (∀ r, m.after = .setRate r →
            (r = s.link.rate → exec .txFrameSent s = .next (s.setLink (next idle))) ∧
              (r ≠ s.link.rate →
                exec .txFrameSent s = .next (s.setLink (next { idle with rate := r, rxFrame := [], rxHeld := [] })))) ∧
          (m.after = .resetPart →
            exec .txFrameSent s = .next (startUp (addCause .resetRequest s.power.causes) s))

/-- ECHO returns its payload; STATUS reports the part and then clears the notices-dropped flag (R191). -/
def Obligations.EchoAndStatusAnswer : Prop :=
  ∀ (s : State) (tag : Nat), s.takes tag →
    (∀ data : List Byte, exec (.echo tag data) s =
      .next (if data.length ≤ 1099 then answered 0x01 tag .ok data s else answered 0x01 tag .badLength [] s)) ∧
    let u := answered 0x02 tag .ok
      ([byteOf s.power.state.code, flagByte s.power.changing, byteOf s.store.state.code, byteOf (s.screen 0).state.code,
          byteOf (s.screen 1).state.code, byteOf (s.lane 0).state.code, byteOf (s.lane 1).state.code,
          byteOf (s.lane 2).state.code, byteOf s.catalog.intake.state.code, flagByte s.catalog.publish.isSome,
          flagByte s.link.noticesDropped] ++
        beBytes 4 s.link.rate.baud ++ [byteOf s.link.requests.length, byteOf (s.link.occupancy + 1)]) s
    exec (.status tag) s = .next (u.setLink { u.link with noticesDropped := false })

/-- SET_LINK_RATE and RESET answer OK and act once their reply has been sent (R192, R193). -/
def Obligations.RateAndResetRequests : Prop :=
  ∀ (s : State) (tag rate : Nat), s.takes tag →
    (∀ r : LinkRate, rate = r.baud →
      exec (.setLinkRate tag rate) s = .next (s.setLink (s.link.push (replyMsg 0x03 tag .ok [] (.setRate r))))) ∧
    (rate ≠ 115200 → rate ≠ 460800 → rate ≠ 1000000 → rate ≠ 3000000 →
      exec (.setLinkRate tag rate) s = .next (answered 0x03 tag .badParam [] s)) ∧
    exec (.reset tag) s =
      .next (s.setLink { s.link.push (replyMsg 0x04 tag .ok [] .resetPart) with resetTaken := true })

/-- SET_POWER is refused BAD_PARAM or BUSY in the order of R166, and otherwise begins the change; an OFF screen asked for ON enters
WAKING; a screen that leaves RUNNING gives up its pass, its seal, its records and its pins, the slots that lose their last pin joining
the reuse list or, stale, becoming FREE, the fetches that it alone wanted are withdrawn, and its lanes stop with LANE_ENDED, each
releasing its reader, two that share a clip one each (R165, R166, R167, R23, R44, R45, R46, R50, R82, R86, R92, R93, R95, R106). -/
def Obligations.SetPowerIsCheckedInOrder : Prop :=
  ∀ (s : State) (tag code : Nat), s.takes tag →
    (3 ≤ code → exec (.setPower tag code) s = .next (answered 0x08 tag .badParam [] s)) ∧
    (code < 3 → (s.power.changing = true ∨ s.power.selfTest.isSome = true) →
      exec (.setPower tag code) s = .next (answered 0x08 tag .busy [] s)) ∧
    ∀ p : PowerState, code = p.code → s.power.changing = false → s.power.selfTest = none →
      ∃ t, exec (.setPower tag code) s = .next t ∧ t.power.state = p ∧
        (let leaves := fun i : Fin 2 => s.running i && !(t.screen i).wantedOn
        let wanted := fun i : Fin 2 => (t.plan i).wantedVisible ++ (t.plan i).wantedPrefetch
        ((∃ i, leaves i = true) → t.cache.queue = s.cache.queue.filter fun e => e.ident ∈ wanted 0 ++ wanted 1) ∧
        ((∀ i, leaves i = false) → t.cache.queue = s.cache.queue) ∧
        readersReleased ([0, 1, 2].filter fun l => (s.lane l).active && leaves (s.lane l).clockScreen) s t ∧
        let freed := fun k : Nat => 0 < s.cache.pinCount k ∧ t.cache.pinCount k = 0 ∧ (s.cache.slot k).state = .resident
        (∀ x, x ∈ t.cache.pins ↔ x ∈ s.cache.pins ∧ leaves x.place.screen = false) ∧
        (∀ k, k < 96 →
          (freed k → (s.cache.slot k).stale = true → t.cache.slot k = {}) ∧
            (¬ freed k ∨ (s.cache.slot k).stale = false → t.cache.slot k = s.cache.slot k)) ∧
        ∃ more, t.cache.reuse = s.cache.reuse ++ more ∧
          ∀ k, k ∈ more ↔ k < 96 ∧ freed k ∧ (s.cache.slot k).stale = false) ∧
        (∀ i : Fin 2, (t.screen i).wantedOn = (p == .active || (p == .quiet && i == 1))) ∧
        (∀ i : Fin 2,
          let c : Screen := { s.screen i with wantedOn := (t.screen i).wantedOn }
          (c.state = .off → c.wantedOn = true → t.screen i = { c with
            state := .waking, sequence := some .wake20, buffers := ⟨.black, .black⟩, back := .free, powerEnable := true }) ∧
          (c.state = .waking ∨ c.state = .sleeping ∨ c.state = .off ∧ c.wantedOn = false ∨
            c.state = .running ∧ c.wantedOn = true → t.screen i = c)) ∧
        (t.power.changing = true → ∀ i : Fin 2, t.power.reached.get i = true ↔
          (s.screen i).state = (if (t.screen i).wantedOn then ScreenState.running else ScreenState.off)) ∧
        (t.power.changing = true ↔
          ∃ i : Fin 2, (s.screen i).state ≠ (if (t.screen i).wantedOn then ScreenState.running else ScreenState.off)) ∧
        t.power.setPowerTag = (if t.power.changing then some tag else none) ∧
        t.power.causes = s.power.causes ∧ t.light.ambient = s.light.ambient ∧ t.catalog.titles = s.catalog.titles ∧
        (t.power.changing = false → t.link = s.link.push (replyMsg 0x08 tag .ok [byteOf code] .nothing)) ∧
        (∀ i : Fin 2, s.running i = true → (t.screen i).wantedOn = false →
          (t.screen i).state = .sleeping ∧ (t.screen i).sequence = some .sleep50 ∧ (t.screen i).frameTimer = false ∧
          (t.screen i).back = .free ∧ (t.compScreen i).context = none ∧ (t.lightOf i).output = 0 ∧
          ((t.plan i).live = (s.plan i).live ∧ (t.plan i).pending = (s.plan i).pending ∧ (t.plan i).sealMark = none ∧
            (t.plan i).transition.fading = false ∧ (t.plan i).transition.level = 0 ∧ (t.plan i).cells = [] ∧
            (t.plan i).posters = ⟨none, none, none⟩ ∧ (t.plan i).wantedVisible = [] ∧ (t.plan i).wantedPrefetch = [] ∧
            (t.plan i).scroll = (s.plan i).scroll ∧ (t.plan i).focus = (s.plan i).focus) ∧
          (∀ m : Seal, (s.plan i).sealMark = some m → replyMsg 0x37 m.tag .notNow [] .nothing ∈ t.link.queued) ∧
          ∀ l : Fin 3, (s.lane l).clockScreen = i → (s.lane l).state ≠ .idle →
            (t.lane l).state = .idle ∧ (t.lane l).title = 0 ∧ (t.lane l).onShow = none ∧
            (t.lane l).endedReason = some .power ∧
            (s.link.occupancy < 24 → ({ kind := 0xE3, tag := 0, payload := [byteOf l.val, 3] } : LinkMsg) ∈ t.link.queued) ∧
            ((s.lane l).active = true → (t.lane l).clip = none ∧ (t.lane l).ring = [] ∧ (t.lane l).queue = [] ∧ (t.lane l).fill = 0 ∧
              (t.lane l).stallTimer = none) ∧
            ∀ old, (s.lane l).pendingTag = some old → replyMsg 0x40 old .notNow [] .nothing ∈ t.link.queued) ∧
        ∀ l : Fin 3, (s.running (s.lane l).clockScreen = false ∨ (t.screen (s.lane l).clockScreen).wantedOn = true ∨
          (s.lane l).state = .idle) → t.lane l = s.lane l

/-- A WAKE edge is taken, held or without effect as R168 gives, and a held one is taken, or cleared without effect, when the self-test
ends, whichever test ends it; a taken one wakes every OFF screen; CAUSES reports the cause set and empties it (R92, R93, R168, R170). -/
def Obligations.WakeEdgeWakesAndCausesEmpty : Prop :=
  let woken := fun s t : State => ∀ i : Fin 2,
    ((s.screen i).state = .off → t.screen i = { s.screen i with
      wantedOn := true, state := .waking, sequence := some .wake20, buffers := ⟨.black, .black⟩, back := .free
      powerEnable := true }) ∧
    ((s.screen i).state ≠ .off → t.screen i = { s.screen i with wantedOn := true })
  (∀ s : State, s.power.resetLow = false →
    (s.power.selfTest.isSome = true → exec .wakeEdge s = .next (s.setPower { s.power with wakeMark := true })) ∧
    (s.power.selfTest = none → (s.power.state = .active ∨ s.power.changing = true) → exec .wakeEdge s = .next s) ∧
    (s.power.selfTest = none → s.power.state ≠ .active → s.power.changing = false →
      ∃ t, exec .wakeEdge s = .next t ∧ t.power.state = .active ∧ t.power.setPowerTag = none ∧
        woken s t ∧ t.plans = s.plans ∧ t.catalog = s.catalog ∧ t.lanes = s.lanes ∧
        (s.link.helloSent = true → s.link.occupancy < 40 →
          t.link = s.link.push { kind := 0xE8, tag := 0, payload := [byteOf s.power.state.code] }) ∧
        (s.link.helloSent = false ∨ 40 ≤ s.link.occupancy → t.link = { s.link with noticesDropped := true })) ∧
    ∀ (u : SelfTest) (c : Instr), s.power.selfTest = some u → u.rest = [] → s.power.wakeMark = true →
      ((∃ matched, c = .memoryTestDone matched) ∧ u.step = .memory ∨ (∃ loops, c = .panelTestDone loops) ∧ u.step = .panel ∨
        (∃ ticks, c = .timebaseTestEnd ticks) ∧ u.step = .timebase ∨
        (∃ page p, c = .storeTestReadDone page ∧ s.store.port = some p ∧
          (p.purpose = .testRoot ∨ p.purpose = .testDescriptor ∧ s.store.newestRoot = none)) ∨
        (∃ p, c = .descriptorReadTimeout ∧ s.store.port = some p ∧ p.purpose = .testDescriptor ∧
          u.step = .storeDescriptor) ∨
        (∃ reading, c = .sensorReadDone (some reading)) ∧ s.light.port = .test 2 ∨
        (∃ n, s.light.port = .test n) ∧ c = .sensorReadTimeout) →
      ∃ t data, exec c s = .next t ∧ t.power.selfTest = none ∧ t.power.wakeMark = false ∧
        let l := s.link.fillPlace (replyMsg 0x0A u.tag .ok data .nothing)
        (s.power.changing = true ∨ s.power.state = .active →
          t.power.state = s.power.state ∧ t.screens = s.screens ∧ t.link = l) ∧
        (s.power.changing = false → s.power.state ≠ .active → t.power.state = .active ∧ woken s t ∧
          (s.link.helloSent = true → l.occupancy < 40 →
            t.link = l.push { kind := 0xE8, tag := 0, payload := [byteOf s.power.state.code] }) ∧
          (s.link.helloSent = false ∨ 40 ≤ l.occupancy → t.link = { l with noticesDropped := true }))) ∧
  ∀ (s : State) (tag : Nat), s.takes tag →
    exec (.causes tag) s =
      .next (answered 0x09 tag .ok (byteOf s.power.causes.length :: s.power.causes.map fun c => byteOf c.code)
        (s.setPower { s.power with causes := [] }))

/-- SETTING_GET reports a held value; SETTING_PUT takes a value in range, no other entry changes and its effect follows at once;
the settings load gives every entry its value or its default (R90, R155, R161, R173 to R175). -/
def Obligations.SettingsAreGotAndPut : Prop :=
  let curve := fun (x : LightScreen) => (x.curveLux.zip x.curveLevel).takeWhile fun p => p.1 != 4294967295
  let retargeted := fun (t : State) (i : Fin 2) =>
    (t.lightOf i).target = min (t.light.modeValue (t.lightOf i)) (t.lightOf i).cap
  let rederated := fun (s t : State) (i : Fin 2) => (t.lightOf i).cap = t.light.capOf (t.light.temps.get i) ∧ retargeted t i ∧
    (t.lightOf i).output = min (s.lightOf i).output (t.lightOf i).cap
  let defaults : List Int :=
    let matrix : List Int := [1024, 0, 0, 0, 1024, 0, 0, 0, 1024, 0, 0, 0]
    let curve : List Int := [0, 500, 5000, 20000, 60000, 4294967295, 4294967295, 4294967295, 6554, 13107, 32768, 52428, 65535, 0, 0, 0]
    matrix ++ matrix ++ curve ++ curve ++ [60, 4096, 52428, 2048]
  (∀ (s : State) (tag index value : Nat), s.takes tag →
    (entryOf index = none → exec (.settingGet tag index) s = .next (answered 0x0B tag .noSuch [] s) ∧
      exec (.settingPut tag index value) s = .next (answered 0x0C tag .noSuch [] s)) ∧
    (entryOf index = none ↔
      0x0C ≤ index ∧ index < 0x10 ∨ 0x1C ≤ index ∧ index < 0x20 ∨ 0x44 ≤ index ∧ index < 0x50 ∨ 0x56 ≤ index) ∧
    ∀ e : Entry, entryOf index = some e →
      let signed : Int := if value < 2147483648 then (value : Int) else (value : Int) - 4294967296
      e.ofField value = (if index < 0x20 ∨ index = 0x40 then signed else (value : Int)) ∧
      (e.accepts s (e.ofField value) = true ↔
        ((index < 0x09 ∨ 0x10 ≤ index ∧ index < 0x19) ∧ -2048 ≤ signed ∧ signed ≤ 2047 ∨
          (0x09 ≤ index ∧ index < 0x0C ∨ 0x19 ≤ index ∧ index < 0x1C) ∧ -64 ≤ signed ∧ signed ≤ 63 ∨
          (0x20 ≤ index ∧ index < 0x28 ∨ 0x30 ≤ index ∧ index < 0x38) ∧ (value ≤ 120000 ∨ value = 0xFFFFFFFF) ∨
          (0x28 ≤ index ∧ index < 0x30 ∨ 0x38 ≤ index ∧ index < 0x40) ∧ value ≤ 65535 ∨
          index = 0x40 ∧ -40 ≤ signed ∧ signed ≤ 125 ∨ (index = 0x41 ∨ index = 0x42) ∧ value ≤ 65535 ∨
          index = 0x43 ∧ 1 ≤ value ∧ value ≤ 65535 ∨
          ∃ i : Fin 2,
            index = 0x50 + 3 * i.val ∧ 320 ≤ value ∧ value ≤ 1920 ∧ value * (s.screen i).entries.height ≤ 2073600 ∨
              index = 0x51 + 3 * i.val ∧ 240 ≤ value ∧ value ≤ 1920 ∧ value * (s.screen i).entries.width ≤ 2073600 ∨
              index = 0x52 + 3 * i.val ∧ (value = 60 ∨ value = 50 ∨ value = 30))) ∧
      exec (.settingGet tag index) s =
          .next (answered 0x0B tag .ok (byteOf index :: beBytes 4 (twosOf 4 (e.held s))) s) ∧
        (e.accepts s (e.ofField value) = false →
          exec (.settingPut tag index value) s = .next (answered 0x0C tag .badParam [] s)) ∧
        (e.accepts s (e.ofField value) = true → s.shaped →
          ∃ t, exec (.settingPut tag index value) s = .next t ∧
            t.link = s.link.push (replyMsg 0x0C tag .ok (byteOf index :: beBytes 4 (twosOf 4 (e.ofField value))) .nothing) ∧
            e.held t = e.ofField value ∧ (∀ (k : Nat) (o : Entry), entryOf k = some o → k ≠ index → o.held t = o.held s) ∧
            t.plans = s.plans ∧ t.cache = s.cache ∧ t.lanes = s.lanes ∧ t.catalog = s.catalog ∧ t.store = s.store ∧
            t.power = s.power ∧
            (∀ i, t.screen i = { s.screen i with entries := (t.screen i).entries } ∧
              (t.compScreen i).context = (s.compScreen i).context ∧ (t.lightOf i).manual = (s.lightOf i).manual ∧
              (t.lightOf i).manualLevel = (s.lightOf i).manualLevel) ∧
            t.light.sampleTimer = s.light.sampleTimer ∧ t.light.port = s.light.port ∧ t.light.ambient = s.light.ambient ∧
            t.light.temps = s.light.temps ∧ t.light.window = s.light.window ∧
            (∀ i : Fin 2, 0x20 + 0x10 * i.val ≤ index → index < 0x30 + 0x10 * i.val → retargeted t i ∧
              (t.lightOf i).cap = (s.lightOf i).cap ∧ (t.lightOf i).output = (s.lightOf i).output ∧
              t.lightOf (1 - i) = s.lightOf (1 - i)) ∧
            (index = 0x40 ∨ index = 0x41 → ∀ i, rederated s t i) ∧
            (index = 0x42 → ∀ i, retargeted t i ∧ (t.lightOf i).cap = (s.lightOf i).cap ∧
              (t.lightOf i).output = (s.lightOf i).output) ∧
            (index < 0x20 ∨ 0x43 ≤ index → t.light.screen = s.light.screen))) ∧
  (∀ x : LightScreen, x.curve = curve x) ∧
  (∀ (s : State) (i : Fin 2),
    (∀ n, n < 9 → entryOf (0x10 * i.val + n) = some (.coefficient i n)) ∧
    (∀ n, n < 3 → entryOf (0x10 * i.val + 9 + n) = some (.offset i n)) ∧
    (∀ n, n < 8 → entryOf (0x20 + 0x10 * i.val + n) = some (.curveLux i n) ∧
      entryOf (0x28 + 0x10 * i.val + n) = some (.curveLevel i n)) ∧
    entryOf 0x40 = some .derateStart ∧ entryOf 0x41 = some .derateStep ∧ entryOf 0x42 = some .fallback ∧
    entryOf 0x43 = some .slew ∧ entryOf (0x50 + 3 * i.val) = some (.width i) ∧ entryOf (0x51 + 3 * i.val) = some (.height i) ∧
    entryOf (0x52 + 3 * i.val) = some (.rate i) ∧
    (∀ n, (Entry.coefficient i n).held s = (s.compScreen i).matrix.coeffs.getD n 0 ∧
      (Entry.offset i n).held s = (s.compScreen i).matrix.offsets.getD n 0 ∧
      (Entry.curveLux i n).held s = ((s.lightOf i).curveLux.getD n 0 : Nat) ∧
      (Entry.curveLevel i n).held s = ((s.lightOf i).curveLevel.getD n 0 : Nat)) ∧
    Entry.derateStart.held s = s.light.derateStart ∧ Entry.derateStep.held s = s.light.derateStep ∧
    Entry.fallback.held s = s.light.fallback ∧ Entry.slew.held s = s.light.slew ∧
    (Entry.width i).held s = (s.screen i).entries.width ∧ (Entry.height i).held s = (s.screen i).entries.height ∧
    (Entry.rate i).held s = (s.screen i).entries.rate) ∧
  ∀ (s : State) (block : Option (List Nat)), s.shaped → (∀ b, block = some b → b.length = 66) →
    let t := settingsLoad block s
    let field := fun n : Nat => (block.map fun b => b.getD n 0).getD 0
    (∀ (n : Nat) (e : Entry), n < 60 → entryOf (if n < 12 then n else if n < 24 then n + 4 else n + 8) = some e →
      e.held t = if block.isSome = true ∧ e.accepts s (e.ofField (field n)) = true then e.ofField (field n) else defaults.getD n 0) ∧
    (∀ i : Fin 2,
      let w := field (60 + 3 * i.val)
      let h := field (61 + 3 * i.val)
      let r := field (62 + 3 * i.val)
      (t.screen i).entries = (if 320 ≤ w ∧ w ≤ 1920 ∧ 240 ≤ h ∧ h ≤ 1920 ∧ (r = 60 ∨ r = 50 ∨ r = 30) ∧ w * h ≤ 2073600 then ⟨w, h, r⟩
        else if i = 0 then ⟨1280, 800, 60⟩ else ⟨1080, 1920, 60⟩) ∧
      (t.screen i).active = (t.screen i).entries ∧ (t.screen i).wantedOn = true ∧
      ((s.screen i).state = .off → (t.screen i).state = .waking ∧ (t.screen i).sequence = some .wake20 ∧
        (t.screen i).powerEnable = true ∧ (t.screen i).buffers = ⟨.black, .black⟩ ∧ (t.screen i).back = .free) ∧
      rederated s t i) ∧
    t.power.settings = some (if block.isSome = true then .loaded else .defaults) ∧ t.light.temps = s.light.temps ∧
    t.light.window = s.light.window ∧ t.store = s.store ∧ t.catalog = s.catalog ∧ t.lanes = s.lanes ∧ t.cache = s.cache ∧
    t.plans = s.plans

/-- SETTINGS_SAVE asks for a root write, whose record is formed at its turn and whose verification answers the save; a page that
fails is left behind and the record formed again with the settings of the turn, the third failure and a failed erase of the other root
unit ending the write with STORE_FAULT (R134, R142, R176). That a record formed again holds the bad unit list and the image part as they
stand at the failure, and that a publish's record keeps the settings of its turn too, is read from R134 (DEDUCED, log entry 51). -/
def Obligations.SettingsSaveWritesARootRecord : Prop :=
  ∀ (s : State) (tag : Nat),
    let formed := fun (block : List Nat) (r : RootRecord) => r.settings = block ∧ r.badUnits = s.store.badUnits ∧
      (s.store.highestSeq < 4294967295 → r.sequence = s.store.highestSeq + 1)
    let image := fun job : RootJob => match job.image with | some part => part | none => s.store.imagePart
    let placed := fun (t : State) (q : PagePos) (r : RootRecord) (d : Descriptor) => ∃ more, t.store.arbiter = s.store.arbiter ++
      (if q.page < d.pagesPerUnit then { purpose := .rootPage, cls := .write, op := .pageProgram r.page, passed := 0 }
        else { purpose := .rootErase, cls := .write, op := .erase [1 - q.unit], passed := 0 }) :: more
    let failed := fun (t : State) (w : RootWrite) => t.store.rootWrite = none ∧ t.store.badUnits = s.store.badUnits ∧
      t.store.highestSeq = s.store.highestSeq ∧ t.store.imagePart = s.store.imagePart ∧ t.store.port = none ∧
      (w.job.client = .save → ∀ tag, s.power.saveTag = some tag →
        t.power.saveTag = none ∧ replyMsg 0x0D tag .storeFault [] .nothing ∈ t.link.queued) ∧
      (w.job.client = .publish → ∀ q, s.catalog.publish = some q → t.catalog.publish = none ∧
        t.catalog.staged = s.catalog.staged ∧ replyMsg 0x21 q.tag .storeFault [] .nothing ∈ t.link.queued)
    (s.takes tag →
      (s.power.saveTag.isSome = true → exec (.settingsSave tag) s = .next (answered 0x0D tag .busy [] s)) ∧
      (s.power.saveTag = none →
        (s.store.state = .readOnly → exec (.settingsSave tag) s = .next (answered 0x0D tag .storeReadOnly [] s)) ∧
        (s.store.state = .offline ∨ s.store.state = .absent ∨ s.store.state = .mounting →
          exec (.settingsSave tag) s = .next (answered 0x0D tag .storeOffline [] s)) ∧
        (s.store.state = .online → exec (.settingsSave tag) s =
          .next (((holdPlace s).setPower { s.power with saveTag := some tag }).setStore
            { s.store with rootQueue := s.store.rootQueue ++ [{ client := .save, image := none }] })))) ∧
    (s.power.resetLow = false → ∀ (job : RootJob) (rest : List RootJob), s.store.state = .online → s.store.rootWrite = none →
      s.store.rootQueue = job :: rest →
      ∃ t w, exec .rootWriteStart s = .next t ∧ t.store.rootWrite = some w ∧ t.store.rootQueue = rest ∧ w.job = job ∧
        w.failures = 0 ∧ w.record.image = image job ∧ formed (settingsBlock s) w.record ∧
        (∀ (d : Descriptor) (q : PagePos), s.store.descriptor = some d → s.store.rootPos = some q →
          (∀ p, s.store.port = some p → p.orphan = true → clientOf p.purpose ≠ .root) → placed t q w.record d)) ∧
    (s.power.resetLow = false → ∀ (w : RootWrite) (p : PortOp) (data : List Byte) (pos : PagePos), s.store.rootWrite = some w →
      w.job.client = .save → s.store.port = some p → p.purpose = .rootPage → p.op = .pageProgram data → p.orphan = false →
      s.store.rootPos = some pos → s.power.saveTag = some tag → s.store.mount = .none →
      ∃ t, exec (.pageProgramDone .pass) s = .next t ∧ t.store.highestSeq = w.record.sequence ∧
        t.store.imagePart = w.record.image ∧ t.store.rootPos = some ⟨pos.unit, pos.page + 1⟩ ∧ t.store.rootWrite = none ∧
        t.power.saveTag = none ∧
        t.link = s.link.fillPlace (replyMsg 0x0D tag .ok (beBytes 4 w.record.sequence) .nothing)) ∧
    (s.power.resetLow = false → ∀ (w : RootWrite) (p : PortOp) (d : Descriptor) (pos : PagePos), s.store.rootWrite = some w →
      s.store.port = some p → p.orphan = false → p.releaseReader = none → s.store.descriptor = some d →
      s.store.rootPos = some pos → s.store.mount = .none → s.store.heldBack = [] →
      (∀ (data : List Byte) (outcome : ProgramOutcome), p.purpose = .rootPage → p.op = .pageProgram data → outcome ≠ .pass →
        (w.failures < 2 → ∃ t v, exec (.pageProgramDone outcome) s = .next t ∧ t.store.rootWrite = some v ∧ v.job = w.job ∧
          v.failures = w.failures + 1 ∧ v.record.image = image w.job ∧ formed w.record.settings v.record ∧
          t.store.rootPos = some ⟨pos.unit, pos.page + 1⟩ ∧ placed t ⟨pos.unit, pos.page + 1⟩ v.record d ∧
          t.store.port = none ∧ t.store.badUnits = s.store.badUnits ∧ t.power = s.power ∧ t.link = s.link ∧
          t.catalog = s.catalog) ∧
        (2 ≤ w.failures → ∃ t, exec (.pageProgramDone outcome) s = .next t ∧ failed t w ∧ t.store.state = s.store.state ∧
          t.store.rootPos = some ⟨pos.unit, pos.page + 1⟩)) ∧
      ∀ u : Nat, p.purpose = .rootErase → p.op = .erase [u] → p.unreported = [u] →
        (0 < d.pagesPerUnit → ∃ t, exec (.eraseUnitReport u true) s = .next t ∧ t.store.rootPos = some ⟨u, 0⟩ ∧
          t.store.rootWrite = some w ∧ placed t ⟨u, 0⟩ w.record d ∧ t.store.port = none ∧
          t.store.badUnits = s.store.badUnits ∧ t.power = s.power ∧ t.link = s.link ∧ t.catalog = s.catalog) ∧
        (s.store.state = .online → ∀ c : Instr, (c = .eraseUnitReport u false ∨ c = .eraseDeadline) →
          ∃ t, exec c s = .next t ∧ failed t w ∧ t.store.state = .readOnly ∧ t.store.rootQueue = []))

/-- SELF_TEST is refused BUSY or NOT_NOW in the order of R177 and otherwise begins the first test requested, the STORE test being
over at once where the store takes no reads (R177, R178, R179, R180). -/
def Obligations.SelfTestIsCheckedAndBegins : Prop :=
  ∀ (s : State) (tag flags : Nat), s.takes tag →
    (s.power.selfTest.isSome = true → exec (.selfTest tag flags) s = .next (answered 0x0A tag .busy [] s)) ∧
    (s.power.selfTest = none →
      (s.power.state ≠ .standby ∨ s.power.changing = true ∨ s.catalog.intake.state = .open ∨
          s.catalog.intake.state = .finishing ∨ s.catalog.publish.isSome = true ∨ s.store.state = .mounting →
        exec (.selfTest tag flags) s = .next (answered 0x0A tag .notNow [] s)) ∧
      (s.power.state = .standby → s.power.changing = false →
        (s.catalog.intake.state = .none ∨ s.catalog.intake.state = .failed) → s.catalog.publish = none →
        s.store.state ≠ .mounting → s.power.wakeMark = false →
        let reads := s.store.state = .online ∨ s.store.state = .readOnly
        let unknown := ([5, 6, 7].filter fun n => flags.testBit n).flatMap fun n => [byteOf n, 255]
        let later := fun b : Nat => [(1, SelfTestKind.store), (2, .panel), (3, .sensor), (4, .timebase)].filterMap
          fun (p : Nat × SelfTestKind) => if b < p.1 ∧ flags.testBit p.1 then some p.2 else none
        let begins := fun (b : Nat) (step : TestStep) (codes : List (Nat × Nat)) (t : State) =>
          exec (.selfTest tag flags) s = .next t ∧
            t.power.selfTest = some { tag := tag, flags := flags, rest := later b, codes := codes, step := step } ∧
            t.link = (holdPlace s).link ∧ t.plans = s.plans ∧ t.catalog = s.catalog ∧ t.light = s.light
        (flags.testBit 0 = true → ∃ t, begins 0 .memoryClear [] t ∧ t.cache = { s.cache with clearWaiting := true } ∧
          t.store = s.store) ∧
        (flags.testBit 0 = false →
          (flags.testBit 1 = true → reads → ∃ t, begins 1 .storeDescriptor [] t ∧ t.cache = s.cache ∧
            s.store.placed .testDescriptor .write .descriptorRead t.store) ∧
          ∀ codes : List (Nat × Nat), (flags.testBit 1 = false ∧ codes = [] ∨
              flags.testBit 1 = true ∧ ¬ reads ∧ codes = [(1, 2)]) →
            (flags.testBit 2 = true → ∃ t, begins 2 .panel codes t ∧ t.store = s.store ∧ t.cache = s.cache) ∧
            (flags.testBit 2 = false →
              (flags.testBit 3 = true → ∃ t, begins 3 (.sensorWait false) codes t ∧ t.store = s.store ∧ t.cache = s.cache) ∧
              (flags.testBit 3 = false →
                (flags.testBit 4 = true → ∃ t, begins 4 .timebase codes t ∧ t.store = s.store ∧ t.cache = s.cache) ∧
                (flags.testBit 4 = false → exec (.selfTest tag flags) s =
                  .next (answered 0x0A tag .ok ((codes.flatMap fun p => [byteOf p.1, byteOf p.2]) ++ unknown) s)))))))

/-- Each test of a self-test gives its code at its end, and the next requested test begins or the self-test is answered with a pair for
each test and for each of flags 5 to 7; the STORE test goes from the descriptor to the newest root page, or is over without one, and
gives 2 for a descriptor not answered and for a store that goes OFFLINE; the SENSOR test ends with its first missed read (R177, R178,
R179, R180). -/
def Obligations.SelfTestsGiveTheirCodes : Prop :=
  ∀ (s : State) (u : SelfTest), s.power.resetLow = false → s.power.selfTest = some u →
    let ends := fun (test code : Nat) (t : State) => u.goesOn s t u.rest (u.codes ++ [(test, code)])
    (u.step = .memory → ∀ matched : Bool, ∃ t, exec (.memoryTestDone matched) s = .next t ∧
      ends 0 (if matched then 0 else 1) t) ∧
    (u.step = .storeDescriptor → ∀ p : PortOp, s.store.port = some p → p.purpose = .testDescriptor →
      (∀ page : PageRead,
        (s.store.newestRoot = none → ∃ t, exec (.storeTestReadDone page) s = .next t ∧ t.store.port = none ∧ ends 1 0 t) ∧
        ∀ n : Nat, s.store.newestRoot = some n →
          ∃ t, exec (.storeTestReadDone page) s = .next t ∧ t.store.port = none ∧
            t.power.selfTest = some { u with step := .storeRoot } ∧ t.link = s.link ∧
            ∃ w ∈ t.store.arbiter, w.purpose = .testRoot ∧ w.cls = .write ∧ w.op = .pageRead ⟨n, 1⟩) ∧
      ∃ t, exec .descriptorReadTimeout s = .next t ∧ t.store.port = none ∧ t.store.state = s.store.state ∧
        t.store.descriptor = s.store.descriptor ∧ ends 1 2 t) ∧
    (u.step = .storeRoot → ∀ (p : PortOp) (page : PageRead), s.store.port = some p → p.purpose = .testRoot →
      ∃ t, exec (.storeTestReadDone page) s = .next t ∧ t.store.port = none ∧
        ends 1 (if page.outcome ≠ .uncorrectable ∧ crc32 ((pageBytes page).take 810) = fieldAt (pageBytes page) 810 4
          then 0 else 3) t) ∧
    (u.step = .storeDescriptor ∨ u.step = .storeRoot → ∀ (p : PortOp) (run : Run), s.store.port = some p →
      p.op = .pageRead run → p.misses = 1 → s.store.mount = .none → s.power.wakeMark = false →
      ∃ t, exec .storeReadTimeout s = .next t ∧ t.store.state = .offline ∧
        (u.rest = [] → t.power.selfTest = none ∧ replyMsg 0x0A u.tag .ok
          ((u.codes ++ [(1, 2)]).flatMap (fun (p : Nat × Nat) => [byteOf p.1, byteOf p.2]) ++
            ([5, 6, 7].filter fun n => u.flags.testBit n).flatMap fun n => [byteOf n, 255]) .nothing ∈ t.link.queued) ∧
        ∀ (k : SelfTestKind) (more : List SelfTestKind), u.rest = k :: more → k ≠ .memory → k ≠ .store →
          ∃ step, t.power.selfTest = some { u with rest := more, codes := u.codes ++ [(1, 2)], step := step }) ∧
    (u.step = .panel → (∃ t, exec (.panelTestDone .bothPass) s = .next t ∧ ends 2 0 t) ∧
      (∃ t, exec (.panelTestDone .panel0Fails) s = .next t ∧ ends 2 4 t) ∧
      ∃ t, exec (.panelTestDone .panel1Fails) s = .next t ∧ ends 2 5 t) ∧
    (u.step = .sensorWait true → s.light.port = .idle →
      exec .sensorTestStart s =
        .next ((s.setPower { s.power with selfTest := some { u with step := .sensor } }).setLightAll
          { s.light with port := .test 0 })) ∧
    (u.step = .sensor → ∀ n : Nat, n < 3 → s.light.port = .test n →
      (∀ c : Instr, (c = .sensorReadTimeout ∨ c = .sensorReadDone none) → ∃ t, exec c s = .next t ∧ ends 3 (6 + n) t ∧
        t.light.port = .idle ∧ t.light.ambient = s.light.ambient ∧ t.light.temps = s.light.temps ∧ t.light.window = s.light.window) ∧
      ∀ r : Int,
        (n < 2 → exec (.sensorReadDone (some r)) s = .next (s.setLightAll { s.light with port := .test (n + 1) })) ∧
        (n = 2 → ∃ t, exec (.sensorReadDone (some r)) s = .next t ∧ ends 3 0 t ∧ t.light.port = .idle ∧
          t.light.ambient = s.light.ambient ∧ t.light.temps = s.light.temps ∧ t.light.window = s.light.window)) ∧
    (u.step = .timebase → ∀ ticks : Nat, ∃ t, exec (.timebaseTestEnd ticks) s = .next t ∧
      ends 4 (if 9045 < ticks then 9 else if ticks < 8955 then 10 else 0) t)

/-- STORE_INFO and ASSET_INFO report the store and an asset record without changing anything (R149, R195, R121). That a root unit's
erase counts as a batch of 1 unit where the eraser has no batch, and not where it has one, is the model's choice (log entry 21), and
so is that ASSET_INFO carries no generation number, between R121's table and R103 (log entry 42). -/
def Obligations.StoreInfoAndAssetInfoReport : Prop :=
  (∀ (s : State) (tag : Nat), s.takes tag →
      let count := fun k : UnitState => beBytes 2 (s.store.units.countP (·.state == k))
      exec (.storeInfo tag) s = .next (answered 0x10 tag .ok
        ([byteOf s.store.state.code] ++
          (match s.store.descriptor with
            | some d => [byteOf d.pagesPerUnit] ++ beBytes 2 d.unitCount ++ [byteOf d.correctable, byteOf d.programLimit] ++
                [byteOf d.batchSize] ++ beBytes 2 d.batchTime ++ [byteOf d.fixedTime, flagByte d.protect]
            | none => List.replicate 10 0) ++
          (count .root ++ count .freeDirty ++ count .erasing ++ count .freeClean ++ count .filling ++ count .sealed ++
            count .bad) ++
          beBytes 2 s.store.badUnits.length ++
          (match s.store.fillUnit with
            | some f => beBytes 2 f.unit ++ beBytes 1 f.page
            | none => [0xFF, 0xFF, 0xFF]) ++
          (match s.store.rootPos with
            | some r => beBytes 1 r.unit ++ beBytes 1 r.page
            | none => [0xFF, 0xFF]) ++
          beBytes 4 s.store.highestSeq ++ [byteOf (match s.store.batch with
            | some b => b.units.length
            | none => if (∃ w ∈ s.store.arbiter, w.purpose = .rootErase) ∨ ∃ p, s.store.port = some p ∧ p.purpose = .rootErase
                then 1 else 0)]) s)) ∧
  (∀ (s : State) (tag key generation : Nat), s.takes tag →
      let info := exec (.assetInfo tag generation key) s
      let report := fun a : Asset => Host.Outcome.next (φ := Fault) (ρ := Refusal) (answered 0x20 tag .ok
        ([byteOf a.kind.code] ++ beBytes 4 a.length ++ beBytes 4 a.check ++ [byteOf a.state.code] ++ beBytes 4 a.accepted ++
          [byteOf a.extents.length] ++ beBytes 2 (a.extents.map (·.count)).sum ++
          [flagByte a.inLive, flagByte a.inStaged] ++ beBytes 4 a.readers ++ [flagByte a.damaged] ++
          (beBytes 2 a.desc.width ++ beBytes 2 a.desc.height ++ beBytes 2 a.desc.period ++ beBytes 2 a.desc.units) ++
          (if (s.catalog.intake.state = .open ∨ s.catalog.intake.state = .finishing) ∧ s.catalog.intake.record = a.uid then
            beBytes 4 s.catalog.intake.buffer.length else [])) s)
      (2 ≤ generation → info = .next (answered 0x20 tag .badParam [] s)) ∧
      (generation = 0 →
        (∀ a, s.catalog.pool.find? (fun a => a.inLive && a.key == key) = some a → info = report a) ∧
          ((∀ a ∈ s.catalog.pool, a.inLive = true → a.key ≠ key) → info = .next (answered 0x20 tag .noSuch [] s))) ∧
      (generation = 1 →
        (s.catalog.staged = none → info = .next (answered 0x20 tag .notNow [] s)) ∧
          (s.catalog.staged.isSome = true →
            (∀ a, s.catalog.pool.find? (fun a => a.inStaged && a.key == key) = some a → info = report a) ∧
              ((∀ a ∈ s.catalog.pool, a.inStaged = true → a.key ≠ key) →
                info = .next (answered 0x20 tag .noSuch [] s)))))

/-- REMOUNT is refused BUSY as R137 gives, and otherwise the store is MOUNTING with catalog memory emptied when the port is free
(R127, R137). That the descriptor read is then on the port at once (log entry 12), that the unit table and the bad unit list are
dropped at that moment, and that STORE_STATE is sent with the catalog state and number as they stand before the mount empties them, with
the port free too (log entry 26), are the model's choices. -/
def Obligations.RemountBegins : Prop :=
  ∀ (s : State) (tag : Nat), s.takes tag →
    (s.store.state = .mounting ∨ s.catalog.intake.state = .open ∨ s.catalog.intake.state = .finishing ∨
        s.catalog.publish.isSome = true ∨ s.store.rootWrite.isSome = true ∨ s.store.rootQueue ≠ [] ∨
        s.power.selfTest.isSome = true →
      exec (.remount tag) s = .next (answered 0x11 tag .busy [] s)) ∧
    (s.store.state ≠ .mounting → (s.catalog.intake.state = .none ∨ s.catalog.intake.state = .failed) → s.catalog.publish = none → s.store.rootWrite = none →
      s.store.rootQueue = [] → s.power.selfTest = none →
      ∃ t, exec (.remount tag) s = .next t ∧ t.store.state = .mounting ∧ t.store.remountTag = some tag ∧
        leftService .mounting .mountStart s.store.port s t ∧ (∀ l : Fin 3, (t.lane l).active = false) ∧ t.plans = s.plans ∧ t.screens = s.screens ∧
        t.light = s.light ∧
        (s.store.port = none → t.store.mount = .descriptor ∧ (t.store.port.map (·.purpose)) = some .mountDescriptor ∧
          t.catalog.intake.state = .none ∧ t.catalog.pool = [] ∧ t.catalog.titles = [] ∧ t.catalog.staged = none ∧ t.catalog.glyphs = none ∧
          t.store.units = [] ∧ t.store.badUnits = []) ∧
        (s.store.port.isSome = true → t.store.mount = .waitPort ∧ t.store.port.isSome = true))

/-- A mount's descriptor is held when its fields are in range; a second miss or a field out of range ends the mount ABSENT; a page
read that misses twice ends a mount OFFLINE, and in service takes the store OFFLINE with all that `leftService` says (R130, R136,
R146, R147, R202). -/
def Obligations.DescriptorReadsEnd : Prop :=
  (∀ (bytes : List Byte) (d : Descriptor), descriptorOf bytes = some d ↔
    (d.pagesPerUnit = fieldAt bytes 0 2 ∧ d.unitCount = fieldAt bytes 2 2 ∧ d.correctable = fieldAt bytes 4 1 ∧
      d.programLimit = fieldAt bytes 5 1 ∧ d.batchSize = fieldAt bytes 6 1 ∧ d.fixedTime = fieldAt bytes 7 1 ∧
      d.batchTime = fieldAt bytes 8 2 ∧ (d.protect = true ↔ fieldAt bytes 10 1 = 1)) ∧
    (d.pagesPerUnit = 64 ∨ d.pagesPerUnit = 128) ∧ 1024 ≤ d.unitCount ∧ d.unitCount ≤ 16384 ∧ 1 ≤ d.correctable ∧
    d.correctable ≤ 16 ∧ 1 ≤ d.programLimit ∧ 1 ≤ d.batchSize ∧ d.batchSize ≤ 64 ∧ 1 ≤ d.batchTime ∧
    fieldAt bytes 10 1 ≤ 1) ∧
  ∀ (s : State) (p : PortOp), s.power.resetLow = false → s.store.port = some p → p.releaseReader = none →
    (p.purpose = .mountDescriptor →
      (∀ (page : List Byte) (d : Descriptor), descriptorOf (pageBytes ⟨.clean, page⟩) = some d →
        ∃ t, exec (.descriptorReadDone page) s = .next t ∧ t.store.descriptor = some d ∧ t.store.port = none ∧
          (∃ rest, t.store.mount = .roots [] rest) ∧ ∃ w ∈ t.store.arbiter, w.purpose = .mountRoots ∧ w.cls = .write) ∧
      (∀ page : List Byte, descriptorOf (pageBytes ⟨.clean, page⟩) = none →
        ∃ t, exec (.descriptorReadDone page) s = .next t ∧ mountFailed .absent .mountEnd s t ∧ t.store.descriptor = none) ∧
      (p.misses = 0 → exec .descriptorReadTimeout s =
        .next (s.setStore { s.store with port := some { p with misses := 1 } })) ∧
      (p.misses = 1 → ∃ t, exec .descriptorReadTimeout s = .next t ∧ mountFailed .absent .mountEnd s t ∧
        t.store.descriptor = none)) ∧
    ∀ run : Run, p.op = .pageRead run →
      (p.misses = 0 → exec .storeReadTimeout s = .next (s.setStore { s.store with port := some { p with misses := 1 } })) ∧
      (p.misses = 1 → s.store.mount = .none → ∃ t, exec .storeReadTimeout s = .next t ∧
        leftService .offline .readTimeout none s t ∧ t.store.port = none ∧ t.store.badUnits = s.store.badUnits ∧
        t.store.fillUnit = s.store.fillUnit ∧ t.store.rootPos = s.store.rootPos ∧ t.store.highestSeq = s.store.highestSeq ∧
        ∀ l : Fin 3, (t.lane l).active = false) ∧
      (p.misses = 1 → (∃ done rest, s.store.mount = .roots done rest) ∨ (∃ record data rest, s.store.mount = .image record data rest) →
        ∃ t, exec .storeReadTimeout s = .next t ∧ mountFailed .offline .readTimeout s t)

/-- A mount reads its root units and its image run by run; of the valid root records it takes that of highest sequence, and the log
position is the first page after the last programmed one of its unit; with no record, or one that names no image, it ends in
service with an EMPTY catalog, with a loaded image VALID and the glyph load begun, with a bad image CATALOG_LOST; a start-up mount
loads the settings and sends HELLO, a REMOUNT is answered (R125, R126, R133, R136, R137, R171, R172, R175, R179, R202). That the first
of two records of one highest sequence is taken is the model's choice (log entry 43), and so are that an image whose units or length no
store can have ends the mount with CATALOG_LOST before it is read (log entry 27), that units 0 and 1 stay ROOT where the bad unit list
names them and the list is taken as it stands (log entry 50), that a glyph key without a live record begins no load (log entry 45),
and that its first read is as large as the rules allow (log entry 19). -/
def Obligations.MountReadsTheRootsAndTheImage : Prop :=
  let programmed := fun pg : PageRead => readable pg = false ∨ ∃ b ∈ pageBytes pg, b ≠ 0xFF#8
  (∀ pg : PageRead,
    let b := pageBytes pg
    ((rootRecordOf pg).isSome = true ↔ readable pg = true ∧ crc32 (b.take 810) = fieldAt b 810 4 ∧ fieldAt b 0 4 ≠ 0 ∧
      fieldAt b 4 1 ≤ 8 ∧ fieldAt b 296 2 ≤ 256) ∧
    ∀ r, rootRecordOf pg = some r → r.sequence = fieldAt b 0 4 ∧
      r.image = ⟨(List.range (fieldAt b 4 1)).map fun i => fieldAt b (8 + 2 * i) 2, fieldAt b 24 4, fieldAt b 28 4⟩ ∧
      r.settings = (List.range 66).map (fun i => fieldAt b (32 + 4 * i) 4) ∧
      r.badUnits = (List.range (fieldAt b 296 2)).map fun i => fieldAt b (298 + 2 * i) 2) ∧
  (∀ (d : Descriptor) (part : ImagePart), imageReadable d part = true ↔ (∀ u ∈ part.units, u < d.unitCount) ∧
    16 ≤ part.length ∧ (part.length + 4095) / 4096 ≤ part.units.length * d.pagesPerUnit) ∧
  (∀ pages : List PageRead,
    (newestRecord pages = none ↔ ∀ pg ∈ pages, rootRecordOf pg = none) ∧
    ∀ (r : RootRecord) (n : Nat), newestRecord pages = some (r, n) ↔
      pages[n]?.bind rootRecordOf = some r ∧ ∀ (m : Nat) (q : RootRecord), pages[m]?.bind rootRecordOf = some q →
        q.sequence ≤ r.sequence ∧ (q.sequence = r.sequence → n ≤ m)) ∧
  ∀ (s : State) (p : PortOp) (run : Run) (pages : List PageRead), s.power.resetLow = false → s.store.port = some p →
    p.op = .pageRead run → pages.length = run.count → p.releaseReader = none →
    let service := fun (d : Descriptor) => if d.protect then StoreState.readOnly else .online
    let table := fun (d : Descriptor) (bad held : List Nat) (t : State) =>
      t.store.units.length = d.unitCount ∧ ∀ (u : Nat) (e : UnitRec), t.store.units[u]? = some e →
        (u < 2 → e = ⟨.root, 0⟩) ∧
        (2 ≤ u → u ∈ bad → e = ⟨.bad, held.count u⟩) ∧
        (2 ≤ u → u ∉ bad → u ∈ held → e = ⟨.sealed, held.count u⟩) ∧
        (2 ≤ u → u ∉ bad → u ∉ held → e.holders = 0 ∧ (e.state = .freeDirty ∨ d.protect = false ∧ e.state = .erasing))
    let loads := fun (block : Option (List Nat)) (t : State) =>
      let u := if s.store.startUp then settingsLoad block s else s
      t.power = u.power ∧ t.light = u.light ∧ t.screens = u.screens ∧
        ∀ i : Fin 2, (t.compScreen i).matrix = (u.compScreen i).matrix
    let noLoad := fun t : State => t.catalog.glyphs = s.catalog.glyphs ∧ t.catalog.glyphLoad = s.catalog.glyphLoad
    let found := fun (all : List PageRead) (d : Descriptor) (r : RootRecord) (page : Nat) (t : State) =>
      let unit := (all.drop (page / d.pagesPerUnit * d.pagesPerUnit)).take d.pagesPerUnit
      t.store.highestSeq = r.sequence ∧ t.store.newestRoot = some page ∧
        ∃ n, t.store.rootPos = some ⟨page / d.pagesPerUnit, n⟩ ∧
          (0 < n → ∃ pg, unit[n - 1]? = some pg ∧ programmed pg) ∧
          ∀ (m : Nat) (pg : PageRead), n ≤ m → unit[m]? = some pg → ¬ programmed pg
    (p.purpose = .mountRoots → ∀ (done : List PageRead) (rest : List Run), s.store.mount = .roots done rest →
      (∀ (r : Run) (more : List Run), rest = r :: more →
        ∃ t, exec (.rootUnitReadDone pages) s = .next t ∧ t.store.mount = .roots (done ++ pages) more ∧
          t.store.port = none ∧ ∃ w ∈ t.store.arbiter, w.purpose = .mountRoots ∧ w.op = .pageRead r) ∧
      (∀ d : Descriptor, rest = [] → newestRecord (done ++ pages) = none →
        s.store.descriptor = some d → s.catalog.pool = [] →
        ∃ t, exec (.rootUnitReadDone pages) s = .next t ∧ t.store.state = service d ∧ t.store.mount = .none ∧
          t.store.rootPos = some ⟨1, d.pagesPerUnit⟩ ∧ t.store.highestSeq = 0 ∧ t.store.newestRoot = none ∧
          t.store.badUnits = [] ∧ loads none t ∧ t.store.startUp = false ∧ t.catalog.state = .empty ∧ t.catalog.number = 0 ∧
          t.catalog.titles = [] ∧ table d [] [] t ∧ noLoad t ∧
          (s.store.startUp = false → ∀ tag, s.store.remountTag = some tag → t.store.remountTag = none ∧
            replyMsg 0x11 tag .ok ([byteOf (service d).code, 2] ++ beBytes 4 0) .nothing ∈ t.link.queued) ∧
          (s.store.startUp = true → t.link.helloSent = true ∧ t.power.settings = some .defaults ∧
            { kind := 0xE0, tag := 0, payload := [0x54, 0x36, 3, byteOf (service d).code, 2] ++ beBytes 4 0 ++ [1] ++
              byteOf s.power.causes.length :: s.power.causes.map (fun c => byteOf c.code) } ∈ t.link.queued ∧
            ∀ i : Fin 2, (t.screen i).wantedOn = true)) ∧
      (∀ (d : Descriptor) (r : RootRecord) (page : Nat), rest = [] → newestRecord (done ++ pages) = some (r, page) →
        s.store.descriptor = some d →
        (r.image.units ≠ [] → imageReadable d r.image = true → d.pagesPerUnit ≠ 0 →
          ∃ t, exec (.rootUnitReadDone pages) s = .next t ∧ (∃ more, t.store.mount = .image r [] more) ∧
            found (done ++ pages) d r page t ∧ loads (some r.settings) t ∧
            (∃ w ∈ t.store.arbiter, w.purpose = .mountImage ∧ w.cls = .write) ∧
            (s.store.startUp = true → t.power.settings = some .loaded)) ∧
        (r.image.units ≠ [] → imageReadable d r.image = false →
          ∃ t, exec (.rootUnitReadDone pages) s = .next t ∧ t.store.state = service d ∧ t.store.mount = .none ∧
            t.catalog.state = .lost ∧ t.catalog.number = 0 ∧ t.catalog.titles = [] ∧ t.store.imagePart = {} ∧
            t.store.badUnits = r.badUnits ∧ noLoad t ∧
            found (done ++ pages) d r page t ∧ loads (some r.settings) t) ∧
        (r.image.units = [] → s.catalog.pool = [] →
          ∃ t, exec (.rootUnitReadDone pages) s = .next t ∧ t.store.state = service d ∧ t.catalog.state = .empty ∧
            t.catalog.number = 0 ∧ t.catalog.titles = [] ∧ found (done ++ pages) d r page t ∧ loads (some r.settings) t ∧
            t.store.badUnits = r.badUnits ∧ table d r.badUnits [] t ∧ noLoad t))) ∧
    (p.purpose = .mountImage → ∀ (record : RootRecord) (data : List Byte) (rest : List Run),
      s.store.mount = .image record data rest →
      (∀ (r : Run) (more : List Run), rest = r :: more → pages.all readable = true →
        ∃ t, exec (.catalogImageReadDone pages) s = .next t ∧
          t.store.mount = .image record (data ++ pages.flatMap pageBytes) more ∧
          ∃ w ∈ t.store.arbiter, w.purpose = .mountImage ∧ w.op = .pageRead r) ∧
      (∀ (d : Descriptor) (c : Catalog), rest = [] → pages.all readable = true → s.store.descriptor = some d →
        buildCatalog record.image ((data ++ pages.flatMap pageBytes).take record.image.length) s.catalog = some c →
        ∃ t, exec (.catalogImageReadDone pages) s = .next t ∧ t.store.state = service d ∧ t.store.mount = .none ∧
          t.catalog.state = .valid ∧ t.catalog.number = c.number ∧ t.catalog.titles = c.titles ∧
          t.catalog.glyphKey = c.glyphKey ∧ t.catalog.pool.map (fun a => (a.key, a.extents, a.inLive)) =
            c.pool.map (fun a => (a.key, a.extents, a.inLive)) ∧
          t.store.imagePart = record.image ∧ t.store.badUnits = record.badUnits ∧
          table d record.badUnits
            (record.image.units ++ c.pool.flatMap fun a => unitsOfRuns d.pagesPerUnit a.extents) t ∧
          (c.glyphKey = 0 ∨ c.liveRecord c.glyphKey = none → noLoad t) ∧
          (∀ a : Asset, c.glyphKey ≠ 0 → c.liveRecord c.glyphKey = some a →
            t.catalog.glyphs = none ∧ (t.catalog.record a.uid).map (·.readers) = some 1 ∧
            ∃ rest, t.catalog.glyphLoad = some ⟨a.uid, rest, []⟩ ∧
              ∀ (r : Run) (more : List Run), readRuns (takePages (pagesFor a.length) a.extents) = r :: more → rest = more ∧
                ∃ w ∈ t.store.arbiter, w.purpose = .glyph ∧ w.cls = .prefetch ∧ w.op = .pageRead r) ∧
          t.power = s.power ∧ t.light = s.light ∧ t.screens = s.screens ∧
          (s.store.startUp = true → t.link.helloSent = true)) ∧
      (∀ d : Descriptor, (pages.all readable = false ∨ rest = [] ∧
          buildCatalog record.image ((data ++ pages.flatMap pageBytes).take record.image.length) s.catalog = none) →
        s.store.descriptor = some d →
        ∃ t, exec (.catalogImageReadDone pages) s = .next t ∧ t.catalog.state = .lost ∧ t.catalog.number = 0 ∧
          t.catalog.titles = [] ∧ t.store.mount = .none ∧ t.store.imagePart = {} ∧ t.store.badUnits = record.badUnits ∧
          t.store.state = service d ∧ noLoad t))

/-- The free port is granted to the operation the arbiter chooses, where one waits, by age, class, ring fill and arrival; reads,
page programs and erases begin on it with their limits and pages, and every other operation has been passed over once more
(R129, R134, R138, R143, R148). -/
def Obligations.PortIsGrantedByClassAndAge : Prop :=
  (OpClass.lane.rank < OpClass.stillVisible.rank ∧ OpClass.stillVisible.rank < OpClass.write.rank ∧
    OpClass.write.rank < OpClass.prefetch.rank ∧ OpClass.prefetch.rank < OpClass.erase.rank) ∧
  (∀ s : State, (s.store.arbiter ≠ [] → s.choice.isSome = true) ∧
    (s.store.arbiter = [] ∨ s.store.port.isSome = true → exec .portGrant s = .next s)) ∧
  ∀ (s : State) (w : WaitingOp) (i : Nat), s.choice = some (w, i) →
    let others := (s.store.arbiter.eraseIdx i).map fun x => { x with passed := x.passed + 1 }
    let state := fun (t : State) (u : Nat) => (t.store.units[u]?).map (·.state)
    s.store.arbiter[i]? = some w ∧
      ((∃ x ∈ s.store.arbiter, 32 ≤ x.passed) → (∀ x ∈ s.store.arbiter, x.passed ≤ w.passed) ∧
        ∀ (j : Nat) (x : WaitingOp), s.store.arbiter[j]? = some x → x.passed = w.passed → i ≤ j) ∧
      ((∀ x ∈ s.store.arbiter, x.passed < 32) → (∀ x ∈ s.store.arbiter, w.cls.rank ≤ x.cls.rank) ∧
        (w.cls ≠ .lane → ∀ (j : Nat) (x : WaitingOp), s.store.arbiter[j]? = some x → x.cls = w.cls → i ≤ j) ∧
        ∀ l m : Fin 3, w.cls = .lane → (w.purpose = .laneHeader l ∨ w.purpose = .laneUnits l) →
          ∀ x ∈ s.store.arbiter, x.cls = .lane → (x.purpose = .laneHeader m ∨ x.purpose = .laneUnits m) →
            (s.lane l).fill < (s.lane m).fill ∨ (s.lane l).fill = (s.lane m).fill ∧ l ≤ m) ∧
      (s.power.resetLow = false → s.store.port = none →
        (∀ run : Run, w.op = .pageRead run →
          ∃ t more, exec .portGrant s = .next t ∧
            t.store.port = some { purpose := w.purpose, op := w.op, limit := 50 } ∧
            t.store.arbiter = others ++ more ∧
            t.lanes = s.lanes ∧ t.cache = s.cache ∧ t.catalog = s.catalog ∧ t.plans = s.plans) ∧
        ∀ d : Descriptor, s.store.descriptor = some d →
          (∀ us : List Nat, w.op = .erase us →
            (w.purpose = .eraseBatch ∧ s.store.batch.isSome = true ∨ w.purpose = .rootErase) →
            ∃ t, exec .portGrant s = .next t ∧ t.store.arbiter = others ∧ t.store.units = s.store.units ∧
              t.store.port = some { purpose := w.purpose, op := w.op, unreported := us
                                    limit := d.fixedTime + (d.batchTime * us.length + d.batchSize - 1) / d.batchSize } ∧
              t.store.batch = (if w.purpose = .eraseBatch then s.store.batch.map fun b => { b with granted := true }
                else s.store.batch)) ∧
          ∀ data : List Byte, w.op = .pageProgram data →
            let sent := fun (page : Nat) (t : State) => exec .portGrant s = .next t ∧
              t.store.port = some { purpose := w.purpose, op := w.op, limit := d.programLimit, page := page } ∧
              ∃ more, t.store.arbiter = others ++ more
            (∀ pos : PagePos, w.purpose = .rootPage → s.store.rootPos = some pos →
              ∃ t, sent (pos.unit * d.pagesPerUnit + pos.page) t) ∧
            (∀ f : PagePos, w.purpose = .intakePage → s.store.fillUnit = some f → f.page < d.pagesPerUnit →
              ∃ t, sent (f.unit * d.pagesPerUnit + f.page) t ∧ t.store.fillUnit = some f) ∧
            (∀ (q : Publish) (u : Nat), w.purpose = .imagePage → s.catalog.publish = some q → q.units.getLast? = some u →
              q.nextPage < d.pagesPerUnit → ∃ t, sent (u * d.pagesPerUnit + q.nextPage) t ∧ t.catalog = s.catalog) ∧
            (∀ u : Nat, state s u = some .freeClean → (∀ v, v < u → state s v ≠ some .freeClean) →
              (w.purpose = .intakePage → (∀ f, s.store.fillUnit = some f → d.pagesPerUnit ≤ f.page) →
                ∃ t, sent (u * d.pagesPerUnit) t ∧ state t u = some .filling ∧ t.store.fillUnit = some ⟨u, 0⟩) ∧
              (∀ q : Publish, w.purpose = .imagePage → s.catalog.publish = some q →
                (q.units = [] ∨ d.pagesPerUnit ≤ q.nextPage) →
                ∃ t, sent (u * d.pagesPerUnit) t ∧ state t u = some .sealed ∧
                  t.catalog.publish = some { q with units := q.units ++ [u], nextPage := 0 })) ∧
            ((∀ x ∈ s.store.units, x.state ≠ .freeClean) → w.purpose = .imagePage → ∀ q : Publish, s.catalog.publish = some q →
              (q.units = [] ∨ d.pagesPerUnit ≤ q.nextPage) →
              ((∃ x ∈ s.store.units, x.state = .freeDirty ∨ x.state = .erasing) →
                ∃ t, exec .portGrant s = .next t ∧ t.store.port = none ∧ t.catalog = s.catalog ∧
                  t.store.cleanWait = s.store.cleanWait ++ [.program w]) ∧
              ((∀ x ∈ s.store.units, x.state ≠ .freeDirty ∧ x.state ≠ .erasing) →
                ∃ t, exec .portGrant s = .next t ∧ t.store.port = none ∧ t.catalog = { s.catalog with publish := none } ∧
                  t.link = s.link.fillPlace (replyMsg 0x21 q.tag .storeFault [] .nothing))) ∧
            ((∀ x ∈ s.store.units, x.state ≠ .freeClean) → w.purpose = .intakePage → s.store.fillUnit = none →
              ((∃ x ∈ s.store.units, x.state = .freeDirty ∨ x.state = .erasing) →
                ∃ t, exec .portGrant s = .next t ∧ t.store.port = none ∧
                  t.store.cleanWait = s.store.cleanWait ++ [.program w]) ∧
              ((∀ x ∈ s.store.units, x.state ≠ .freeDirty ∧ x.state ≠ .erasing) → s.catalog.intake.state = .open →
                ∃ t, exec .portGrant s = .next t ∧ t.store.port = none ∧ t.catalog.intake.state = .failed ∧
                  t.catalog.intake.failure = .noSpace)))

/-- The ONLINE eraser without a batch makes up to N_E of the lowest FREE_DIRTY units ERASING and places them as one batch in class ERASE; a
unit that reports PASS is FREE_CLEAN and, while the store is ONLINE, as it is whenever one waits, lets a page that waits for a clean
unit be placed, or its relocation go on; one that fails or
misses the deadline is BAD and listed in ascending order, and the batch ends with the last (R138, R140, R141, R142, R143, R144). That no
batch is formed while a root unit's erase waits or runs is the model's reading (log entry 21). -/
def Obligations.EraseReportsAndDeadline : Prop :=
  (∀ s : State, eraserStep s = s.setStore s.store.eraser) ∧
  (∀ (st : Store) (d : Descriptor), st.descriptor = some d →
    let dirty := (List.range st.units.length).filter fun u => (st.units[u]?).map (·.state) = some .freeDirty
    let us := dirty.take d.batchSize
    let rootErase := (∃ w ∈ st.arbiter, w.purpose = .rootErase) ∨ ∃ p, st.port = some p ∧ p.purpose = .rootErase
    (st.state ≠ .online ∨ st.batch.isSome = true ∨ us = [] ∨ rootErase → st.eraser = st) ∧
    (st.state = .online → st.batch = none → us ≠ [] → ¬ rootErase →
      (∀ p, st.port = some p → p.orphan = true → clientOf p.purpose ≠ .eraser) →
      ∃ units, st.eraser = { st with
          units := units, batch := some { units := us, granted := false }
          arbiter := st.arbiter ++ [{ purpose := .eraseBatch, cls := .erase, op := .erase us, passed := 0 }] } ∧
        units.length = st.units.length ∧ ∀ (u : Nat) (e : UnitRec), st.units[u]? = some e →
          units[u]? = some (if u ∈ us then { e with state := .erasing } else e))) ∧
  ∀ (s : State) (p : PortOp) (b : Batch), s.power.resetLow = false → s.store.port = some p → p.purpose = .eraseBatch →
    p.op = .erase b.units → s.store.batch = some b → p.releaseReader = none → p.releaseUnits = [] →
    s.store.heldBack = [] → p.unreported.length + s.store.badUnits.length ≤ 256 → s.store.mount = .none →
    (∀ u ∈ p.unreported, u < s.store.units.length) → p.unreported.Nodup →
    (s.store.cleanWait = [] →
      (∀ u ∈ p.unreported,
        (∃ t, exec (.eraseUnitReport u true) s = .next t ∧ (t.store.units[u]?).map (·.state) = some .freeClean ∧
          t.store.badUnits = s.store.badUnits ∧ (t.store.port = none ↔ p.unreported = [u])) ∧
        ∃ t, exec (.eraseUnitReport u false) s = .next t ∧ (t.store.units[u]?).map (·.state) = some .bad ∧
          s.store.listed [u] t.store ∧ (t.store.port = none ↔ p.unreported = [u])) ∧
        ∃ t, exec .eraseDeadline s = .next t ∧ t.store.port = none ∧ s.store.listed p.unreported t.store ∧
          ∀ u ∈ p.unreported, (t.store.units[u]?).map (·.state) = some .bad) ∧
    (p.orphan = false → s.store.state = .online → ∀ u ∈ p.unreported,
      (∀ (w : WaitingOp) (rest : List CleanWait), s.store.cleanWait = .program w :: rest →
        ∃ t more, exec (.eraseUnitReport u true) s = .next t ∧ (t.store.units[u]?).map (·.state) = some .freeClean ∧
          t.store.cleanWait = rest ∧ t.store.arbiter = s.store.arbiter ++ { w with passed := 0 } :: more) ∧
      ∀ image : Bool, s.store.cleanWait = [.relocation image] → (∀ v, v < u → (s.store.units[v]?).map (·.state) ≠ some .freeClean) →
        let goesOn := fun (r : Relocation) (back again : Purpose) (page : List Byte) (t : State) =>
          exec (.eraseUnitReport u true) s = .next t ∧ t.store.cleanWait = [] ∧ ∃ more, t.store.arbiter = s.store.arbiter ++
            (match r.src with
              | n :: _ => { purpose := back, cls := .write, op := .pageRead ⟨n, 1⟩, passed := 0 }
              | [] => { purpose := again, cls := .write, op := .pageProgram page, passed := 0 }) :: more
        (∀ r : Relocation, image = false → s.catalog.intake.writer.reloc = some r → r.moved = [] →
          ∃ t, goesOn r .intakeReadBack .intakePage (intakePage s.catalog.intake.buffer) t ∧
            (t.store.units[u]?).map (·.state) = some .filling ∧ t.store.fillUnit = some ⟨u, 0⟩ ∧
            t.catalog.intake.writer.reloc = some { r with fresh := true }) ∧
        ∀ (q : Publish) (r : Relocation), image = true → s.catalog.publish = some q → q.writer.reloc = some r → r.moved = [] →
          ∃ t, goesOn r .imageReadBack .imagePage q.page t ∧ (t.store.units[u]?).map (·.state) = some .sealed ∧
            t.catalog.publish = some { q with
              units := q.units ++ [u], nextPage := 0, writer := { q.writer with reloc := some { r with fresh := true } } })

/-- A page program that fails makes its unit BAD and listed in ascending order and begins a relocation into the lowest clean unit, at the
second failure from where the pages then are; the third failure of a page fails the write, a full list makes the store READ_ONLY; a
page read back in a relocation is programmed again with the same bytes, and at its end the record's extents and holders are rewritten;
a glyph read that is not the last is followed by the next, the last fills glyph memory or leaves it invalid, and an unreadable page
ends the load and makes the record DAMAGED (R108, R116, R119, R123, R125, R132, R139, R140, R141, R142, R145). That a relocation
reads one page back in each operation (log entry 19), and that at a second failure the pages already moved are read back from the unit
to which they were moved (log entry 29), are the model's choices. -/
def Obligations.RelocationAndGlyphReads : Prop :=
  (∀ data : List Byte, glyphDataOk data = true ↔ data.length = 98312 ∧ fieldAt data 0 1 = 3 ∧ fieldAt data 1 1 = 0 ∧
    fieldAt data 2 2 = 256 ∧ fieldAt data 4 1 = 16 ∧ fieldAt data 5 1 = 24 ∧ fieldAt data 6 2 = 0 ∧
    ∀ b ∈ data.drop 8, b.toNat ≤ 15) ∧
  ∀ (s : State) (p : PortOp), s.power.resetLow = false → s.store.port = some p → p.orphan = false → p.releaseReader = none →
    p.releaseUnits = [] → s.store.heldBack = [] → s.store.mount = .none →
    (∀ page : PageRead, p.purpose = .intakeReadBack ∨ p.purpose = .imageReadBack → readable page = true →
      ∃ t more, exec (.relocationReadDone page) s = .next t ∧ t.store.port = none ∧
        t.store.arbiter = s.store.arbiter ++
          [{ purpose := if p.purpose = .imageReadBack then .imagePage else .intakePage, cls := .write
             op := .pageProgram (pageBytes page), passed := 0 }] ++ more) ∧
    (∀ page : PageRead, p.purpose = .intakeReadBack → readable page = false → s.catalog.intake.state = .open →
      ∃ t, exec (.relocationReadDone page) s = .next t ∧ t.store.port = none ∧ t.catalog.intake.state = .failed ∧
        t.catalog.intake.failure = .storeFault) ∧
    (∀ (page : PageRead) (q : Publish), p.purpose = .imageReadBack → readable page = false → s.catalog.publish = some q →
      ∃ t, exec (.relocationReadDone page) s = .next t ∧ t.store.port = none ∧ t.catalog = { s.catalog with publish := none } ∧
        t.link = s.link.fillPlace (replyMsg 0x21 q.tag .storeFault [] .nothing)) ∧
    (∀ (data : List Byte) (q : Publish) (r : Relocation), p.purpose = .imagePage → p.op = .pageProgram data →
      s.catalog.publish = some q → q.writer.reloc = some r → r.moved.length < r.src.length →
      ∃ t more, exec (.pageProgramDone .pass) s = .next t ∧ t.store.port = none ∧
        t.catalog.publish = some { q with
          nextPage := q.nextPage + 1, writer := { q.writer with reloc := some { r with moved := r.moved ++ [p.page] } } } ∧
        t.store.arbiter = s.store.arbiter ++ (match r.src[r.moved.length + 1]? with
          | some n => { purpose := .imageReadBack, cls := .write, op := .pageRead ⟨n, 1⟩, passed := 0 }
          | none => { purpose := .imagePage, cls := .write, op := .pageProgram q.page, passed := 0 }) :: more) ∧
    (∀ (data : List Byte) (r : Relocation) (f : PagePos) (a : Asset) (es : List Run), p.purpose = .intakePage →
      p.op = .pageProgram data → s.catalog.intake.writer.reloc = some r → r.src.length ≤ r.moved.length →
      s.store.fillUnit = some f → f.page < s.store.pagesPerUnit → s.catalog.record s.catalog.intake.record = some a →
      (s.catalog.intake.state = .open ∨ s.catalog.intake.state = .finishing) →
      let k := s.catalog.intake
      let place := fun n : Nat => match (r.origin.zip r.moved).find? (·.1 == n) with | some x => x.2 | none => n
      let was := unitsOfRuns s.store.pagesPerUnit a.extents
      let is := unitsOfRuns s.store.pagesPerUnit es
      runPages es = (runPages a.extents).map place ++ [p.page] → (∀ x ∈ es, 0 < x.count) →
      es.IsChain (fun x y => x.first + x.count ≠ y.first) →
      (es.length ≤ 16 → ∃ t b, exec (.pageProgramDone .pass) s = .next t ∧ t.store.port = none ∧
        t.catalog.record k.record = some b ∧ b.extents = es ∧ t.catalog.intake.buffer = k.buffer.drop 4096 ∧
        t.catalog.intake.writer.reloc = none ∧ t.catalog.intake.writer.failures = 0 ∧
        (f.page + 1 < s.store.pagesPerUnit → t.store.fillUnit = some ⟨f.unit, f.page + 1⟩ ∧
          ∀ (u : Nat) (e : UnitRec), s.store.units[u]? = some e → (e.state = .bad ∨ e.state = .filling) →
            t.store.units[u]? = some { e with holders :=
              if u ∈ is ∧ u ∉ was then e.holders + 1 else if u ∈ was ∧ u ∉ is then e.holders - 1 else e.holders })) ∧
      (16 < es.length → ∃ t, exec (.pageProgramDone .pass) s = .next t ∧ t.store.port = none ∧
        (k.state = .open → t.catalog.intake.state = .failed ∧ t.catalog.intake.failure = .extentLimit) ∧
        (k.state = .finishing → t.catalog.intake.state = .none ∧
          t.link = s.link.fillPlace (replyMsg 0x1E k.tag .extentLimit [] .nothing)))) ∧
    (∀ (data : List Byte) (w : Writer) (r : Relocation) (f : PagePos), p.purpose = .intakePage →
      p.op = .pageProgram data → s.catalog.intake.writer = w → w.reloc = some r → r.moved.length < r.src.length →
      s.store.fillUnit = some f → f.page + 1 < s.store.pagesPerUnit →
      ∃ t more, exec (.pageProgramDone .pass) s = .next t ∧ t.store.port = none ∧
        t.catalog.intake = { s.catalog.intake with writer := { w with reloc := some { r with moved := r.moved ++ [p.page] } } } ∧
        t.store.fillUnit = some ⟨f.unit, f.page + 1⟩ ∧ t.catalog.pool = s.catalog.pool ∧
        t.store.arbiter = s.store.arbiter ++ (match r.src[r.moved.length + 1]? with
          | some n => { purpose := .intakeReadBack, cls := .write, op := .pageRead ⟨n, 1⟩, passed := 0 }
          | none => { purpose := .intakePage, cls := .write, op := .pageProgram (intakePage s.catalog.intake.buffer)
                      passed := 0 }) :: more) ∧
    (∀ (data : List Byte) (outcome : ProgramOutcome) (x u : Nat), p.op = .pageProgram data → outcome ≠ .pass →
      x = s.store.unitOfPage p.page → x < s.store.units.length → (s.store.units[u]?).map (·.state) = some .freeClean → u ≠ x →
      (∀ v, v < u → v ≠ x → (s.store.units[v]?).map (·.state) ≠ some .freeClean) →
      let again := fun (reloc : Option Relocation) (pages : List Nat) => match reloc with
        | some r => (⟨r.origin, r.moved ++ r.src.drop r.moved.length, [], true⟩ : Relocation)
        | none => ⟨pages, pages, [], true⟩
      let bad := fun t : State => exec (.pageProgramDone outcome) s = .next t ∧ t.store.port = none ∧
        (t.store.units[x]?).map (·.state) = some .bad
      let next := fun (t : State) (purpose : Purpose) (op : StoreOp) => ∃ more, t.store.arbiter = s.store.arbiter ++
        { purpose := purpose, cls := .write, op := op, passed := 0 } :: more
      (p.purpose = .intakePage → ∀ a : Asset, s.catalog.record s.catalog.intake.record = some a →
        (s.store.badUnits.length < 256 → (s.catalog.intake.state = .open ∨ s.catalog.intake.state = .finishing) →
          s.catalog.intake.writer.failures < 2 →
          let r := again s.catalog.intake.writer.reloc ((runPages a.extents).filter fun n => s.store.unitOfPage n = x)
          ∃ t, bad t ∧ s.store.listed [x] t.store ∧ (t.store.units[u]?).map (·.state) = some .filling ∧
            t.store.fillUnit = some ⟨u, 0⟩ ∧ t.catalog.pool = s.catalog.pool ∧
            t.catalog.intake = { s.catalog.intake with writer := { s.catalog.intake.writer with
              failures := s.catalog.intake.writer.failures + 1, reloc := some r } } ∧
            (∀ (n : Nat) (rest : List Nat), r.src = n :: rest → next t .intakeReadBack (.pageRead ⟨n, 1⟩)) ∧
            (r.src = [] → next t .intakePage (.pageProgram (intakePage s.catalog.intake.buffer)))) ∧
        (s.store.badUnits.length < 256 → 2 ≤ s.catalog.intake.writer.failures →
          (s.catalog.intake.state = .open → ∃ t, bad t ∧ s.store.listed [x] t.store ∧ t.store.fillUnit = none ∧
            t.catalog.intake.state = .failed ∧ t.catalog.intake.failure = .storeFault ∧ t.link = s.link) ∧
          (s.catalog.intake.state = .finishing → ∃ t, bad t ∧ s.store.listed [x] t.store ∧ t.catalog.intake.state = .none ∧
            t.link = s.link.fillPlace (replyMsg 0x1E s.catalog.intake.tag .storeFault [] .nothing))) ∧
        (256 ≤ s.store.badUnits.length → s.store.state = .online → s.catalog.intake.state = .open →
          (∀ b : Batch, s.store.batch = some b → x ∉ b.units) →
          ∃ t, bad t ∧ t.store.state = .readOnly ∧ t.store.badUnits = s.store.badUnits ∧ t.catalog.intake.state = .failed ∧
            t.catalog.intake.failure = .storeReadOnly)) ∧
      (p.purpose = .imagePage → s.store.badUnits.length < 256 → ∀ q : Publish, s.catalog.publish = some q →
        (q.writer.failures < 2 →
          let r := again q.writer.reloc (List.range' (x * s.store.pagesPerUnit) q.nextPage)
          ∃ t, bad t ∧ s.store.listed [x] t.store ∧ (t.store.units[u]?).map (·.state) = some .sealed ∧
            t.catalog = { s.catalog with publish := some { q with
              units := q.units ++ [u], nextPage := 0
              writer := { q.writer with failures := q.writer.failures + 1, reloc := some r } } } ∧
            (∀ (n : Nat) (rest : List Nat), r.src = n :: rest → next t .imageReadBack (.pageRead ⟨n, 1⟩)) ∧
            (r.src = [] → next t .imagePage (.pageProgram q.page))) ∧
        (2 ≤ q.writer.failures → ∃ t, bad t ∧ s.store.listed [x] t.store ∧ t.catalog = { s.catalog with publish := none } ∧
          t.link = s.link.fillPlace (replyMsg 0x21 q.tag .storeFault [] .nothing)))) ∧
    ∀ (run : Run) (pages : List PageRead) (g : GlyphLoad) (a : Asset), p.purpose = .glyph → p.op = .pageRead run →
      pages.length = run.count → s.catalog.glyphLoad = some g → s.catalog.record g.record = some a → a.uid = g.record →
      a.inLive = true →
      (pages.all readable = true → g.rest = [] →
        let data := (g.data ++ pages.flatMap pageBytes).take a.length
        ∃ t, exec (.glyphReadDone pages) s = .next t ∧ t.catalog.glyphLoad = none ∧
          t.catalog.glyphs = (if glyphDataOk data then some (data.drop 8) else s.catalog.glyphs) ∧
          (t.catalog.record g.record).map (·.readers) = some (a.readers - 1)) ∧
      (∀ (r : Run) (rest : List Run), pages.all readable = true → g.rest = r :: rest →
        ((s.store.state = .online ∨ s.store.state = .readOnly) →
          ∃ t more, exec (.glyphReadDone pages) s = .next t ∧ t.store.port = none ∧ t.catalog.glyphs = s.catalog.glyphs ∧
            t.catalog.glyphLoad = some ⟨g.record, rest, g.data ++ pages.flatMap pageBytes⟩ ∧ t.catalog.pool = s.catalog.pool ∧
            t.store.arbiter = s.store.arbiter ++ { purpose := .glyph, cls := .prefetch, op := .pageRead r, passed := 0 } :: more) ∧
        (s.store.state ≠ .online → s.store.state ≠ .readOnly →
          ∃ t, exec (.glyphReadDone pages) s = .next t ∧ t.store.port = none ∧ t.catalog.glyphLoad = none ∧
            t.catalog.glyphs = s.catalog.glyphs ∧ t.catalog.record g.record = some { a with readers := a.readers - 1 } ∧
            t.store.arbiter = s.store.arbiter ∧ t.link = s.link)) ∧
      (pages.all readable = false →
        ∃ t, exec (.glyphReadDone pages) s = .next t ∧ t.store.port = none ∧ t.catalog.glyphLoad = none ∧
          t.catalog.glyphs = s.catalog.glyphs ∧ damageTold a run pages s t ∧
          t.catalog.record g.record = some { a with damaged := true, readers := a.readers - 1 })

/-- STAGE_OPEN opens an empty stage or a copy of the live generation; STAGE_DISCARD closes it (R109, R110). -/
def Obligations.StagesOpenAndAreDiscarded : Prop :=
  ∀ (s : State) (tag : Nat), s.takes tag →
    (∀ mode : Nat, 2 ≤ mode → exec (.stageOpen tag mode) s = .next (answered 0x18 tag .badParam [] s)) ∧
    (∀ mode : Nat, mode < 2 → (s.catalog.staged.isSome = true ∨ s.catalog.publish.isSome = true) →
      exec (.stageOpen tag mode) s = .next (answered 0x18 tag .busy [] s)) ∧
    (s.catalog.staged = none → s.catalog.publish = none →
      exec (.stageOpen tag 0) s = .next (answered 0x18 tag .ok []
        (s.setCatalog { s.catalog with staged := some { glyphKey := 0, titles := [] } })) ∧
      exec (.stageOpen tag 1) s = .next (answered 0x18 tag .ok []
        (s.setCatalog { s.catalog with
          staged := some { glyphKey := s.catalog.glyphKey, titles := s.catalog.titles }
          pool := s.catalog.pool.map fun a => if a.inLive then { a with inStaged := true } else a }))) ∧
    (s.catalog.staged = none → exec (.stageDiscard tag) s = .next (answered 0x19 tag .notNow [] s)) ∧
    ∀ g : Staged, s.catalog.staged = some g →
      (s.catalog.publish.isSome = true ∨ s.catalog.intake.state = .open ∨ s.catalog.intake.state = .finishing →
        exec (.stageDiscard tag) s = .next (answered 0x19 tag .busy [] s)) ∧
      (s.catalog.publish = none → (s.catalog.intake.state = .none ∨ s.catalog.intake.state = .failed) →
        (s.catalog.pool.map (·.uid)).Nodup →
        ∃ t, exec (.stageDiscard tag) s = .next t ∧ t.link = s.link.push (replyMsg 0x19 tag .ok [] .nothing) ∧
          t.catalog.staged = none ∧ (∀ a ∈ t.catalog.pool, a.inStaged = false) ∧
          (∀ a ∈ s.catalog.pool, a.inLive = true → { a with inStaged := false } ∈ t.catalog.pool) ∧
          (∀ a ∈ s.catalog.pool, a.inLive = false → a.readers = 0 → ∀ b ∈ t.catalog.pool, b.uid ≠ a.uid) ∧
          t.catalog.titles = s.catalog.titles ∧ t.catalog.glyphKey = s.catalog.glyphKey ∧
          t.catalog.number = s.catalog.number ∧
          (s.catalog.intake.state = .failed → t.catalog.intake.state = .none) ∧ t.plans = s.plans ∧ t.cache = s.cache ∧
          t.lanes = s.lanes ∧ t.screens = s.screens)

/-- TITLE_PUT and TITLE_DROP are checked in the order of R111, and change one record of the staged table (R111). -/
def Obligations.TitlesArePutAndDropped : Prop :=
  ∀ (s : State) (tag n badge : Nat) (tint : Rgb) (still clip : Nat) (name : List Byte), s.takes tag →
    let put := exec (.titlePut tag n badge tint still clip name) s
    let drop := exec (.titleDrop tag n) s
    let new : TitleRec := ⟨n, badge, tint, still, clip, name⟩
    (n = 0 ∨ 15 < badge ∨ 48 < name.length → put = .next (answered 0x1A tag .badParam [] s)) ∧
    (n = 0 → drop = .next (answered 0x1B tag .badParam [] s)) ∧
    (n ≠ 0 → s.catalog.staged = none → drop = .next (answered 0x1B tag .notNow [] s)) ∧
    (n ≠ 0 → s.catalog.staged.isSome = true → s.catalog.publish.isSome = true →
      drop = .next (answered 0x1B tag .busy [] s)) ∧
    (∀ g : Staged, n ≠ 0 → s.catalog.staged = some g → s.catalog.publish = none →
      ((∀ x ∈ g.titles, x.number ≠ n) → drop = .next (answered 0x1B tag .noSuch [] s)) ∧
      ((∃ x ∈ g.titles, x.number = n) →
        ∃ ts, drop = .next (answered 0x1B tag .ok []
            (s.setCatalog { s.catalog with staged := some { g with titles := ts } })) ∧
          (strictlyRising (g.titles.map (·.number)) = true → strictlyRising (ts.map (·.number)) = true) ∧
          ∀ x, x ∈ ts ↔ x ∈ g.titles ∧ x.number ≠ n)) ∧
    (n ≠ 0 → badge ≤ 15 → name.length ≤ 48 →
      (s.catalog.staged = none → put = .next (answered 0x1A tag .notNow [] s)) ∧
      (s.catalog.staged.isSome = true → s.catalog.publish.isSome = true → put = .next (answered 0x1A tag .busy [] s)) ∧
      ∀ g : Staged, s.catalog.staged = some g → s.catalog.publish = none →
        ((∀ x ∈ g.titles, x.number ≠ n) → 2048 ≤ g.titles.length → put = .next (answered 0x1A tag .noSpace [] s)) ∧
        ((∃ x ∈ g.titles, x.number = n) ∨ g.titles.length < 2048 →
          ∃ ts, put = .next (answered 0x1A tag .ok []
              (s.setCatalog { s.catalog with staged := some { g with titles := ts } })) ∧
            (strictlyRising (g.titles.map (·.number)) = true →
              strictlyRising (ts.map (·.number)) = true ∧ ∀ x, x ∈ ts ↔ x = new ∨ x ∈ g.titles ∧ x.number ≠ n)))

/-- TITLE_GET reports the exact or the next title of a generation; SET_GLYPHS sets the staged glyph key (R112). -/
def Obligations.TitleGetAndSetGlyphs : Prop :=
  ∀ (s : State) (tag n : Nat), s.takes tag →
    let report := fun (generation : Nat) (x : TitleRec) =>
      Host.Outcome.next (φ := Fault) (ρ := Refusal) (answered 0x1C tag .ok
        (beBytes 4 generation ++ (beBytes 2 x.number ++ [byteOf x.badge] ++ rgbBytes x.tint ++ beBytes 4 x.stillKey ++
          beBytes 4 x.clipKey ++ [byteOf x.name.length] ++ (x.name ++ List.replicate (48 - x.name.length) 0) ++ [0])) s)
    let exactly := fun (table : List TitleRec) (number : Nat) (o : Host.Outcome State Fault Refusal) =>
      (∀ x ∈ table, x.number = n → o = report number x) ∧
        ((∀ x ∈ table, x.number ≠ n) → o = .next (answered 0x1C tag .noSuch [] s))
    let nextOf := fun (table : List TitleRec) (number : Nat) (o : Host.Outcome State Fault Refusal) =>
      (∀ x ∈ table, n < x.number → (∀ y ∈ table, n < y.number → x.number ≤ y.number) → o = report number x) ∧
        ((∀ x ∈ table, x.number ≤ n) → o = .next (answered 0x1C tag .noSuch [] s))
    (∀ generation mode : Nat, 2 ≤ generation ∨ 2 ≤ mode →
      exec (.titleGet tag generation mode n) s = .next (answered 0x1C tag .badParam [] s)) ∧
    (strictlyRising (s.catalog.titles.map (·.number)) = true →
      exactly s.catalog.titles s.catalog.number (exec (.titleGet tag 0 0 n) s) ∧
        nextOf s.catalog.titles s.catalog.number (exec (.titleGet tag 0 1 n) s)) ∧
    (s.catalog.staged = none →
      (∀ mode : Nat, mode < 2 → exec (.titleGet tag 1 mode n) s = .next (answered 0x1C tag .notNow [] s)) ∧
        ∀ key : Nat, exec (.setGlyphs tag key) s = .next (answered 0x22 tag .notNow [] s)) ∧
    ∀ g : Staged, s.catalog.staged = some g →
      (strictlyRising (g.titles.map (·.number)) = true →
        exactly g.titles 0 (exec (.titleGet tag 1 0 n) s) ∧ nextOf g.titles 0 (exec (.titleGet tag 1 1 n) s)) ∧
      ∀ key : Nat,
        (s.catalog.publish.isSome = true → exec (.setGlyphs tag key) s = .next (answered 0x22 tag .busy [] s)) ∧
          (s.catalog.publish = none → exec (.setGlyphs tag key) s =
            .next (answered 0x22 tag .ok [] (s.setCatalog { s.catalog with staged := some { g with glyphKey := key } })))

/-- ASSET_BEGIN is refused in the order of R114, and otherwise opens an intake on a new FILLING record (R114). -/
def Obligations.AssetsBegin : Prop :=
  ∀ (s : State) (tag key kind length check : Nat), s.takes tag →
    let begin_ := exec (.assetBegin tag key kind length check) s
    let fits := key ≠ 0 ∧ 1 ≤ kind ∧ kind ≤ 3 ∧ 1 ≤ length ∧ length ≤ 67108864
    (¬ fits → begin_ = .next (answered 0x1D tag .badParam [] s)) ∧
    (fits →
      (s.catalog.publish.isSome = true ∨ s.catalog.intake.state = .open ∨ s.catalog.intake.state = .finishing →
        begin_ = .next (answered 0x1D tag .busy [] s)) ∧
      (s.catalog.publish = none → (s.catalog.intake.state = .none ∨ s.catalog.intake.state = .failed) →
        (s.catalog.staged = none → begin_ = .next (answered 0x1D tag .notNow [] s)) ∧
        (s.catalog.staged.isSome = true →
          (s.store.state = .readOnly → begin_ = .next (answered 0x1D tag .storeReadOnly [] s)) ∧
          (s.store.state = .offline ∨ s.store.state = .absent ∨ s.store.state = .mounting →
            begin_ = .next (answered 0x1D tag .storeOffline [] s)) ∧
          (s.store.state = .online →
            (4096 ≤ s.catalog.pool.countP (·.inStaged) ∧ s.catalog.stagedRecord key = none ∨
                6144 ≤ s.catalog.pool.length ∧ (∀ old, s.catalog.stagedRecord key = some old → old.inLive = true) →
              begin_ = .next (answered 0x1D tag .noSpace [] s)) ∧
            ((s.catalog.pool.countP (·.inStaged) < 4096 ∨ (s.catalog.stagedRecord key).isSome = true) →
              (s.catalog.pool.length < 6144 ∨ ∃ old, s.catalog.stagedRecord key = some old ∧ old.inLive = false) →
              (∀ a ∈ s.catalog.pool, a.uid < s.catalog.nextUid) → (s.catalog.pool.map (·.uid)).Nodup →
              (∀ a ∈ s.catalog.pool, ∀ b ∈ s.catalog.pool, a.inStaged = true → b.inStaged = true → a.key = b.key → a = b) →
              ∃ t a, begin_ = .next t ∧ t.link = s.link.push (replyMsg 0x1D tag .ok [] .nothing) ∧
                t.catalog.intake.state = .open ∧ t.catalog.intake.key = key ∧ t.catalog.intake.buffer = [] ∧
                t.catalog.intake.refused = false ∧ t.catalog.intake.crc = 0xFFFFFFFF ∧
                t.catalog.record t.catalog.intake.record = some a ∧ a.key = key ∧ a.kind.code = kind ∧ a.length = length ∧
                a.check = check ∧ a.state = .filling ∧ a.extents = [] ∧ a.accepted = 0 ∧ a.inStaged = true ∧
                a.inLive = false ∧ a.readers = 0 ∧ a.damaged = false ∧
                (∀ b ∈ t.catalog.pool, b.inStaged = true → b.key = key → b = a) ∧
                (∀ b ∈ s.catalog.pool, b.inLive = true → ∃ c ∈ t.catalog.pool, c.uid = b.uid ∧ c.inLive = true) ∧
                t.catalog.titles = s.catalog.titles ∧ t.catalog.staged = s.catalog.staged ∧ t.plans = s.plans ∧
                t.cache = s.cache ∧ t.lanes = s.lanes)))))

/-- ASSET_DATA is refused in the order of R115 and otherwise joins the buffer and asks for a page when one is due; ASSET_ABORT ends an
intake as R120 gives; a page of the intake that passes is entered in the record's extents, asks for the next or is judged, and fails
the intake at a 17th extent (R115, R116, R117, R118, R119, R120, R139, R148). -/
def Obligations.AssetDataIsTakenOrRefused : Prop :=
  (∀ buffer : List Byte, (intakePage buffer).length = 4096 ∧ ∀ n, n < 4096 → (intakePage buffer).getD n 0 = buffer.getD n 0) ∧
  (∀ (s : State) (tag key offset : Nat) (chunk : List Byte), s.takes tag →
    let k := s.catalog.intake
    let data := exec (.assetData tag key offset chunk) s
    let abort := exec (.assetAbort tag key) s
    (chunk = [] → data = .next (answered 0x1E tag .badParam [] s)) ∧
    (k.state = .none → (chunk ≠ [] → chunk.length ≤ 1024 → data = .next (answered 0x1E tag .notNow [] s)) ∧
      abort = .next (answered 0x1F tag .notNow [] s)) ∧
    (k.state ≠ .none → key ≠ k.key →
      (chunk ≠ [] → chunk.length ≤ 1024 → data = .next (answered 0x1E tag .noSuch [] s)) ∧
        abort = .next (answered 0x1F tag .noSuch [] s)) ∧
    (k.state = .finishing → key = k.key →
      (chunk ≠ [] → chunk.length ≤ 1024 → data = .next (answered 0x1E tag .busy [] s)) ∧
        abort = .next (answered 0x1F tag .busy [] s)) ∧
    (k.state = .failed → key = k.key →
      (chunk ≠ [] → chunk.length ≤ 1024 → ∃ t, data = .next (answered 0x1E tag k.failure [] t) ∧
        t = s.setCatalog { s.catalog with intake := t.catalog.intake } ∧ t.catalog.intake.state = .none) ∧
      ∃ t, abort = .next (answered 0x1F tag .ok [] t) ∧ t = s.setCatalog { s.catalog with intake := t.catalog.intake } ∧
        t.catalog.intake.state = .none) ∧
    ∀ a : Asset, k.state = .open → key = k.key → s.catalog.record k.record = some a → a.uid = k.record →
      (∃ t, abort = .next t ∧ t.catalog.intake.state = .none ∧ t.catalog.intake.buffer = [] ∧
        t.link = s.link.push (replyMsg 0x1F tag .ok [] .nothing) ∧ t.catalog.titles = s.catalog.titles ∧
        ∀ b ∈ t.catalog.pool, b.uid = a.uid → b.inStaged = false) ∧
      (chunk ≠ [] → chunk.length ≤ 1024 →
        (offset ≠ a.accepted → data = .next (answered 0x1E tag .outOfOrder [] s)) ∧
        (offset = a.accepted → a.length < offset + chunk.length → data = .next (answered 0x1E tag .badParam [] s)) ∧
        (offset = a.accepted → offset + chunk.length ≤ a.length → 65536 < k.buffer.length + chunk.length →
          data = .next (answered 0x1E tag .intakeFull []
            (s.setCatalog { s.catalog with intake := { k with refused := true } }))) ∧
        (offset = a.accepted → offset + chunk.length ≤ a.length → k.buffer.length + chunk.length ≤ 65536 →
          ∃ t b, data = .next t ∧ t.catalog.intake.buffer = k.buffer ++ chunk ∧
            t.catalog.intake.crc = crc32Run k.crc chunk ∧ t.catalog.record k.record = some b ∧
            b = { a with accepted := offset + chunk.length } ∧
            (let due := k.writer.outstanding = false ∧ (4096 ≤ (k.buffer ++ chunk).length ∨ offset + chunk.length = a.length)
            (due → t.catalog.intake.writer = { outstanding := true } ∧
              s.store.placed .intakePage .write (.pageProgram (intakePage (k.buffer ++ chunk))) t.store) ∧
            (¬ due → t.catalog.intake.writer = k.writer ∧ t.store = s.store)) ∧
            (offset + chunk.length < a.length → t.catalog.intake.state = .open ∧
              t.link = s.link.push (replyMsg 0x1E tag .ok
                (beBytes 4 (offset + chunk.length) ++ beBytes 4 (k.buffer ++ chunk).length) .nothing)) ∧
            (offset + chunk.length = a.length → t.catalog.intake.state = .finishing ∧ t.catalog.intake.tag = tag ∧
              t.link = (holdPlace s).link)))) ∧
  (∀ (head : List Byte) (n : Nat) (d : ClipDesc),
    (headOf .still head n = some d ↔ 8 ≤ head.length ∧ fieldAt head 0 1 = 1 ∧ fieldAt head 1 1 = 0 ∧ fieldAt head 6 2 = 0 ∧
      d = { width := fieldAt head 2 2, height := fieldAt head 4 2 } ∧ 16 ≤ d.width ∧ d.width ≤ 240 ∧ 16 ≤ d.height ∧
      d.height ≤ 360) ∧
    (headOf .clip head n = some d ↔ 12 ≤ head.length ∧ fieldAt head 0 1 = 2 ∧ fieldAt head 1 1 = 0 ∧ fieldAt head 10 2 = 0 ∧
      d = ⟨fieldAt head 2 2, fieldAt head 4 2, fieldAt head 6 2, fieldAt head 8 2⟩ ∧ 16 ≤ d.width ∧ d.width ≤ 960 ∧
      16 ≤ d.height ∧ d.height ≤ 540 ∧ 1500 ≤ d.period ∧ d.period ≤ 9000 ∧ 1 ≤ d.units ∧ d.units ≤ 8192 ∧
      12 + 10 * d.units ≤ n) ∧
    (headOf .glyphs head n = some d ↔ 8 ≤ head.length ∧ fieldAt head 0 1 = 3 ∧ fieldAt head 1 1 = 0 ∧ fieldAt head 2 2 = 256 ∧
      fieldAt head 4 1 = 16 ∧ fieldAt head 5 1 = 24 ∧ fieldAt head 6 2 = 0 ∧ n = 8 + 256 * 384 ∧ d = {})) ∧
  ∀ (s : State) (p : PortOp) (data : List Byte) (a : Asset) (f : PagePos), s.power.resetLow = false → s.store.port = some p →
    p.purpose = .intakePage → p.op = .pageProgram data → p.orphan = false → p.releaseReader = none → p.releaseUnits = [] →
    s.store.heldBack = [] → s.store.mount = .none → s.catalog.record s.catalog.intake.record = some a →
    s.catalog.intake.writer.reloc = none → s.store.fillUnit = some f → f.page < s.store.pagesPerUnit →
    (s.catalog.intake.state = .open ∨ s.catalog.intake.state = .finishing) →
    let k := s.catalog.intake
    let ppu := s.store.pagesPerUnit
    let rest := k.buffer.drop 4096
    let follows := ∃ r, a.extents.getLast? = some r ∧ r.first + r.count = p.page
    let passes := fun t : State => exec (.pageProgramDone .pass) s = .next t ∧ t.store.port = none ∧
      t.store.fillUnit = (if f.page + 1 < ppu then some ⟨f.unit, f.page + 1⟩ else none) ∧ t.catalog.titles = s.catalog.titles ∧
      t.catalog.staged = s.catalog.staged ∧ t.plans = s.plans ∧ t.cache = s.cache ∧ t.lanes = s.lanes
    (a.extents.length < 16 ∨ a.extents.length = 16 ∧ follows →
      ∃ t b, passes t ∧ t.catalog.record k.record = some b ∧ runPages b.extents = runPages a.extents ++ [p.page] ∧
        b.extents.length = (if follows then a.extents.length else a.extents.length + 1) ∧
        (f.page + 1 < ppu → p.page / ppu = f.unit → (s.store.units[f.unit]?).map (·.state) = some .filling →
          t.store.units[f.unit]? = (s.store.units[f.unit]?).map fun e =>
            if f.unit ∈ unitsOfRuns ppu a.extents then e else { e with holders := e.holders + 1 }) ∧
        (k.state = .open ∨ rest ≠ [] → b = { a with extents := b.extents } ∧ t.catalog.intake.state = k.state ∧
          t.catalog.intake.buffer = rest ∧
          (4096 ≤ rest.length ∨ k.state = .finishing → t.catalog.intake.writer = { outstanding := true } ∧
            ∃ more, t.store.arbiter = s.store.arbiter ++ { purpose := .intakePage, cls := .write, passed := 0
                                                           op := .pageProgram (intakePage rest) } :: more) ∧
          (k.refused = true → rest.length ≤ 16384 → t.catalog.intake.refused = false ∧
            t.link = (notice 0xE1 (beBytes 4 k.key ++ beBytes 4 rest.length) s).link) ∧
          (k.refused = false ∨ 16384 < rest.length → t.catalog.intake.refused = k.refused ∧ t.link = s.link)) ∧
        (k.state = .finishing → rest = [] → t.catalog.intake.state = .none ∧ t.catalog.intake.buffer = [] ∧
          (crc32Final k.crc ≠ a.check → b = { a with extents := b.extents, state := .badCheck } ∧
            t.link = s.link.fillPlace (replyMsg 0x1E k.tag .checkMismatch [] .nothing)) ∧
          (crc32Final k.crc = a.check →
            (headOf a.kind k.head a.length = none → b = { a with extents := b.extents, state := .badFormat } ∧
              t.link = s.link.fillPlace (replyMsg 0x1E k.tag .badFormat [] .nothing)) ∧
            ∀ d, headOf a.kind k.head a.length = some d →
              b = { a with extents := b.extents, state := .complete, desc := d } ∧
              t.link = s.link.fillPlace
                (replyMsg 0x1E k.tag .ok (beBytes 4 a.key ++ [byteOf b.extents.length]) .nothing)))) ∧
    (a.extents.length = 16 → ¬ follows →
      ∃ t, passes t ∧ (∀ b ∈ t.catalog.pool, b.uid = a.uid → b.inStaged = false) ∧
        (k.state = .open → t.catalog.intake.state = .failed ∧ t.catalog.intake.key = k.key ∧
          t.catalog.intake.failure = .extentLimit ∧ t.catalog.intake.buffer = [] ∧ t.link = s.link) ∧
        (k.state = .finishing → t.catalog.intake.state = .none ∧
          t.link = s.link.fillPlace (replyMsg 0x1E k.tag .extentLimit [] .nothing)))

/-- PUBLISH is refused in the order of R122, and otherwise forms the image and asks for its first page, whatever the port serves (R122,
R123, R148). That a page is filled up with FFh beyond the image is the model's choice (DESIGN CHOICE, log entry 24). -/
def Obligations.PublishIsCheckedAndBegins : Prop :=
  (∀ (c : Catalog) (g : Staged),
    let passes := fun x : Nat × AssetKind × Nat => x.2.2 = 0 ∨
      ∃ a, c.pool.find? (fun a => a.inStaged && a.key == x.2.2) = some a ∧ a.kind = x.2.1 ∧ a.state = .complete
    let references := (0, .glyphs, g.glyphKey) ::
      g.titles.flatMap fun t => [(t.number, .still, t.stillKey), (t.number, .clip, t.clipKey)]
    (c.badReference g = none ↔ ∀ x ∈ references, passes x) ∧
      ∀ title key : Nat, c.badReference g = some (title, key) ↔
        ∃ pre x post, references = pre ++ x :: post ∧ (∀ y ∈ pre, passes y) ∧ ¬ passes x ∧ x.1 = title ∧ x.2.2 = key) ∧
  ∀ (s : State) (tag : Nat), s.takes tag →
    let c := s.catalog
    (c.staged = none → exec (.publish tag) s = .next (answered 0x21 tag .notNow [] s)) ∧
    ∀ g : Staged, c.staged = some g →
      (c.publish.isSome = true ∨ c.intake.state = .open ∨ c.intake.state = .finishing →
        exec (.publish tag) s = .next (answered 0x21 tag .busy [] s)) ∧
      (c.publish = none → (c.intake.state = .none ∨ c.intake.state = .failed) →
        (s.store.state = .readOnly → exec (.publish tag) s = .next (answered 0x21 tag .storeReadOnly [] s)) ∧
        (s.store.state = .offline ∨ s.store.state = .absent ∨ s.store.state = .mounting →
          exec (.publish tag) s = .next (answered 0x21 tag .storeOffline [] s)) ∧
        (s.store.state = .online →
          (∀ title key, c.badReference g = some (title, key) →
            exec (.publish tag) s = .next (answered 0x21 tag .incomplete (beBytes 2 title ++ beBytes 4 key) s)) ∧
          (c.badReference g = none →
            (64 - c.retiring.length < c.pool.countP (fun a => a.inLive && !a.inStaged && 0 < a.readers) →
              exec (.publish tag) s = .next (answered 0x21 tag .busy [] s)) ∧
            (c.pool.countP (fun a => a.inLive && !a.inStaged && 0 < a.readers) ≤ 64 - c.retiring.length →
              ∃ t p, exec (.publish tag) s = .next t ∧ t.catalog.publish = some p ∧ p.tag = tag ∧
                p.number = (c.number + 1) % 4294967296 ∧ p.image = c.imageBytes g ∧ p.check = crc32 (c.imageBytes g) ∧
                p.pagesDone = 0 ∧ p.units = [] ∧ t.catalog.intake.state = .none ∧
                (let bytes := (c.imageBytes g).take 4096
                s.store.placed .imagePage .write (.pageProgram (bytes ++ List.replicate (4096 - bytes.length) 0xFF#8)) t.store) ∧
                t.catalog.titles = c.titles ∧ t.catalog.staged = c.staged ∧
                t.catalog.pool = c.pool ∧ t.link = (holdPlace s).link ∧ t.plans = s.plans ∧ t.cache = s.cache))))

/-- At the switch, which a publish's verified root record brings at once, the staged generation becomes live in one step and the
publish is answered: memberships move, records without one are removed or join the retiring list, the previous image's units lose a
holder, the Still Cache's slots come into line, and glyph memory is loaded again where the glyph record is another one; before it, every
verified image page asks for the next, the last for the root record, the units that failed leaving the image (R22, R58, R106, R123,
R124, R125, R132, R134, R140). That records that retire together join the retiring list in pool order (log entry 30), and that a load of
the same glyph record goes on (log entry 23), are the model's choices. -/
def Obligations.SwitchMakesTheStageLive : Prop :=
  let switched := fun (s : State) (p : Publish) (g : Staged) (t : State) =>
    t.catalog.number = p.number ∧ t.catalog.glyphKey = g.glyphKey ∧ t.catalog.titles = g.titles ∧
      t.catalog.staged = none ∧ t.catalog.publish = none ∧ t.catalog.liveImage = p.units ∧
      (∀ a ∈ s.catalog.pool, a.inStaged = true → a.state = .complete →
        ∃ b ∈ t.catalog.pool, b.uid = a.uid ∧ b.inLive = true ∧ b.inStaged = false) ∧
      (∀ b ∈ t.catalog.pool, b.inLive = true → ∃ a ∈ s.catalog.pool, a.uid = b.uid ∧ a.inStaged = true ∧ a.state = .complete) ∧
      (∀ a ∈ s.catalog.pool, (a.inStaged = false ∨ a.state ≠ .complete) → a.readers = 0 →
        ∀ b ∈ t.catalog.pool, b.uid ≠ a.uid) ∧
      (let freed := fun k : Nat => k < 96 ∧ (s.cache.slot k).state = .resident ∧ s.cache.pinCount k = 0 ∧
          ∃ i, (s.cache.slot k).ident = some i ∧ t.catalog.inLive i = false
      (∀ k, k < 96 → let x := s.cache.slot k
        (x.state ≠ .resident ∨ x.ident = none → t.cache.slot k = x) ∧
        ∀ i, x.state = .resident → x.ident = some i →
          (t.catalog.inLive i = true → t.cache.slot k = { x with stale := false }) ∧
          (t.catalog.inLive i = false → (s.cache.pinCount k = 0 → t.cache.slot k = {}) ∧
            (0 < s.cache.pinCount k → t.cache.slot k = { x with stale := true }))) ∧
        t.cache.reuse.Sublist s.cache.reuse ∧ (∀ k, k ∈ t.cache.reuse ↔ k ∈ s.cache.reuse ∧ ¬ freed k) ∧
        t.cache.pins = s.cache.pins ∧ t.cache.loads = s.cache.loads) ∧
      (s.catalog.glyphLoad = none → (∀ n ∈ s.catalog.retiring, ∃ a ∈ s.catalog.pool, a.uid = n ∧ 0 < a.readers) →
        t.catalog.retiring = s.catalog.retiring ++ (s.catalog.pool.filter fun a =>
          (a.inStaged = false ∨ a.state ≠ .complete) ∧ 0 < a.readers ∧ a.uid ∉ s.catalog.retiring).map (·.uid)) ∧
      (s.catalog.glyphLoad = none → (∀ q, s.store.port = some q → clientOf q.purpose ≠ .intake ∧ q.releaseUnits = []) →
        ∀ (u : Nat) (e : UnitRec), s.store.units[u]? = some e →
          let n := s.catalog.liveImage.count u + s.catalog.pool.countP fun a =>
            (a.inStaged = false ∨ a.state ≠ .complete) ∧ a.readers = 0 ∧ u ∈ unitsOfRuns s.store.pagesPerUnit a.extents
          ∃ e', t.store.units[u]? = some e' ∧ e'.holders = e.holders - n ∧
            (e.state = .sealed → 0 < n → e.holders ≤ n → e'.state = .freeDirty ∨ e'.state = .erasing) ∧
            (e.state ≠ .sealed ∨ n = 0 ∨ n < e.holders → e'.state = e.state ∨ e.state = .freeDirty ∧ e'.state = .erasing)) ∧
      (g.glyphKey = 0 → t.catalog.glyphs = none ∧ t.catalog.glyphLoad = none) ∧
      (∀ a : Asset, g.glyphKey ≠ 0 →
        s.catalog.pool.find? (fun a => a.inStaged && a.state == .complete && a.key == g.glyphKey) = some a →
        let same := s.catalog.glyphKey ≠ 0 ∧
          (s.catalog.pool.find? fun b => b.inLive && b.key == s.catalog.glyphKey).map (·.uid) = some a.uid
        let begins := t.catalog.glyphs = none ∧ ∃ rest, t.catalog.glyphLoad = some ⟨a.uid, rest, []⟩ ∧
          ∀ (r : Run) (more : List Run), readRuns (takePages (pagesFor a.length) a.extents) = r :: more → rest = more ∧
            ∃ w ∈ t.store.arbiter ++ t.store.heldBack, w.purpose = .glyph ∧ w.cls = .prefetch ∧ w.op = .pageRead r
        (s.catalog.glyphLoad = none →
          (¬ same ∨ s.catalog.glyphs = none → begins ∧ (t.catalog.record a.uid).map (·.readers) = some (a.readers + 1)) ∧
          (same → s.catalog.glyphs ≠ none → t.catalog.glyphs = s.catalog.glyphs ∧ t.catalog.glyphLoad = none)) ∧
        ∀ x : GlyphLoad, s.catalog.glyphLoad = some x →
          (x.record = a.uid → t.catalog.glyphs = s.catalog.glyphs ∧ t.catalog.glyphLoad = some x) ∧
          (x.record ≠ a.uid → s.catalog.glyphs = none → begins)) ∧
      t.cache.failed = [] ∧ (∀ e ∈ t.cache.queue, e ∈ s.cache.queue ∧ t.catalog.inLive e.ident = true) ∧
      (∀ i : Fin 2, (t.plan i).reResolve = true) ∧ t.lanes = s.lanes ∧ t.screens = s.screens ∧
      t.link = s.link.fillPlace (replyMsg 0x21 p.tag .ok
        (beBytes 4 p.number ++ beBytes 2 g.titles.length ++ beBytes 2 (t.catalog.pool.countP (·.inLive))) .nothing)
  (∀ (s : State) (p : Publish) (g : Staged), s.catalog.publish = some p → s.catalog.staged = some g →
    (s.catalog.pool.map (·.uid)).Nodup → switched s p g (publishSwitch s)) ∧
  ∀ (s : State) (o : PortOp) (data : List Byte) (p : Publish), s.power.resetLow = false → s.store.port = some o →
    o.op = .pageProgram data → o.orphan = false → o.releaseReader = none → s.store.mount = .none → s.catalog.publish = some p →
    (∀ (g : Staged) (w : RootWrite) (pos : PagePos), o.purpose = .rootPage → s.catalog.staged = some g →
      (s.catalog.pool.map (·.uid)).Nodup → s.store.rootWrite = some w → w.job.client = .publish → s.store.rootPos = some pos →
      ∃ t, exec (.pageProgramDone .pass) s = .next t ∧ switched s p g t ∧ t.store.highestSeq = w.record.sequence ∧
        t.store.imagePart = w.record.image ∧ t.store.rootWrite = none ∧ t.store.rootPos = some ⟨pos.unit, pos.page + 1⟩ ∧
        t.store.newestRoot = some o.page) ∧
    (o.purpose = .imagePage → (∀ r, p.writer.reloc = some r → r.src.length ≤ r.moved.length) → s.store.heldBack = [] →
      o.releaseUnits = [] →
      let units := p.units.filter fun u => (s.store.units[u]?).map (·.state) ≠ some .bad
      let done := { p with units := units, nextPage := p.nextPage + 1, pagesDone := p.pagesDone + 1 }
      ∃ t, exec (.pageProgramDone .pass) s = .next t ∧ t.store.port = none ∧ t.link = s.link ∧ t.catalog.titles = s.catalog.titles ∧
        t.catalog.pool = s.catalog.pool ∧ t.catalog.staged = s.catalog.staged ∧ t.plans = s.plans ∧ t.cache = s.cache ∧
        (p.units.Nodup → ∀ (u : Nat) (e : UnitRec), u ∈ p.units → s.store.units[u]? = some e → e.state = .bad →
          t.store.units[u]? = some { e with holders := e.holders - 1 }) ∧
        (p.pagesDone + 1 ≠ pagesFor p.image.length →
          t.catalog.publish = some { done with writer := { outstanding := true }, atRoot := false } ∧
          ∃ more, t.store.arbiter = s.store.arbiter ++
            { purpose := .imagePage, cls := .write, op := .pageProgram done.page, passed := 0 } :: more) ∧
        (p.pagesDone + 1 = pagesFor p.image.length →
          t.catalog.publish = some { done with writer := {}, atRoot := true } ∧
          t.store.rootQueue = s.store.rootQueue ++
            [{ client := .publish, image := some ⟨units, p.image.length, p.check⟩ }]))

/-- A root record reads back from the page it is programmed in (R133, R202). -/
def Obligations.RootRecordsReadBack : Prop :=
  ∀ (r : RootRecord) (o : PageOutcome), o ≠ .uncorrectable → 0 < r.sequence → r.sequence < 4294967296 →
    r.image.units.length ≤ 8 → (∀ u ∈ r.image.units, u < 65536) → r.image.length < 4294967296 →
    r.image.check < 4294967296 → r.settings.length = 66 → (∀ v ∈ r.settings, v < 4294967296) →
    r.badUnits.length ≤ 256 → (∀ u ∈ r.badUnits, u < 65536) →
    rootRecordOf { outcome := o, data := r.page } = some r

/-- The catalog image of a generation loads back as that generation, each record with the kind data that its kind uses (R123,
R126, R202); that unused kind data is read as 0 whatever stands there is the model's choice (log entry 27). -/
def Obligations.PublishedImagesLoadBack : Prop :=
  (∀ c : Catalog, c.imageAssets.Perm (c.pool.filter fun a => a.inStaged && a.state == .complete) ∧
    c.imageAssets.Pairwise fun a b => a.key ≤ b.key) ∧
  ∀ (c e : Catalog) (g : Staged) (units : List Nat), g.glyphKey < 4294967296 → g.titles.length ≤ 2048 →
    strictlyRising (g.titles.map (·.number)) = true → strictlyRising (c.imageAssets.map (·.key)) = true →
    c.imageAssets.length ≤ 4096 →
    (∀ x ∈ g.titles, x.number < 65536 ∧ x.badge < 256 ∧ x.tint.r < 256 ∧ x.tint.g < 256 ∧ x.tint.b < 256 ∧
      x.stillKey < 4294967296 ∧ x.clipKey < 4294967296 ∧ x.name.length ≤ 48) →
    (∀ a ∈ c.imageAssets, a.key < 4294967296 ∧ a.length < 4294967296 ∧ a.check < 4294967296 ∧ a.extents.length ≤ 16 ∧
      (∀ r ∈ a.extents, r.first < 4294967296 ∧ r.count < 65536) ∧ a.desc.width < 65536 ∧ a.desc.height < 65536 ∧
      a.desc.period < 65536 ∧ a.desc.units < 65536) →
    let image := c.imageBytes g
    ∃ d, buildCatalog { units := units, length := image.length, check := crc32 image } image e = some d ∧
      d.number = c.nextNumber ∧ d.glyphKey = g.glyphKey ∧ d.titles = g.titles ∧ d.liveImage = units ∧ d.state = .valid ∧
      d.pool.map (fun a => (a.key, a.kind, a.length, a.check, a.extents, a.desc)) =
        c.imageAssets.map (fun a => (a.key, a.kind, a.length, a.check, a.extents, a.kind.usedData a.desc)) ∧
      ∀ a ∈ d.pool, a.state = .complete ∧ a.inLive = true ∧ a.inStaged = false ∧ a.readers = 0 ∧ a.damaged = false

/-- CACHE_INFO reports nine counts; CACHE_FLUSH frees exactly the RESIDENT, unpinned slots that are not stale (R59, R60). -/
def Obligations.CacheInfoAndFlush : Prop :=
  ∀ (s : State) (tag : Nat), s.takes tag → s.cache.slots.length = 96 →
    let c := s.cache
    let frees := fun k : Nat => (c.slot k).state = .resident ∧ (∀ p ∈ c.pins, p.slot ≠ k) ∧ (c.slot k).stale = false
    exec (.cacheInfo tag) s = .next (answered 0x28 tag .ok
      [byteOf (c.slots.countP (·.state == .free)), byteOf (c.slots.countP (·.state == .loading)),
        byteOf (c.slots.countP (·.state == .resident)),
        byteOf ((List.range 96).countP fun k => c.pins.any (·.slot == k)), byteOf (c.slots.countP (·.stale)),
        byteOf c.reuse.length, byteOf (c.queue.countP (·.cls == .visible)), byteOf (c.queue.countP (·.cls == .prefetch)),
        byteOf c.failed.length] s) ∧
    ∃ d : StillCache, ∃ n : Nat, exec (.cacheFlush tag) s = .next (answered 0x29 tag .ok [byteOf n] (s.setCache d)) ∧
      (∀ k, k < 96 → (frees k → d.slot k = {} ∧ k ∉ d.reuse) ∧ (¬ frees k → d.slot k = c.slot k ∧ (k ∈ d.reuse ↔ k ∈ c.reuse))) ∧
      (∃ ks : List Nat, ks.Nodup ∧ ks.length = n ∧ ∀ k, k ∈ ks ↔ k < 96 ∧ frees k) ∧ d.failed = [] ∧ d.pins = c.pins ∧
      d.queue = c.queue ∧ d.loads = c.loads ∧ d.waitList = c.waitList ∧ d.decoding = c.decoding

/-- Offers join the fetch queue, promote, displace or are dropped as R48 and R49 give, and withdrawals remove; a still is fetched into
the lowest FREE slot or the evicted head of the reuse list, heads that may not be loaded being removed; it is read, decoded, and
becomes RESIDENT, stale or FREE as its identity and pins are, or its failure is listed, at the tail of the failed list, from which the
oldest of 16 is pushed out, a bad header or size among the decode failures (R47 to R57, R61). That a read is as large as the rules
allow is the model's choice (log entry 19), and so are that the decoder's picture is judged by its header and size (log entry 34) and
that a head which may not be loaded stays while no load could be started (log entry 49). -/
def Obligations.StillLoadsBeginAndEnd : Prop :=
  (∀ (data : List Byte) (d : ClipDesc), stillHeaderOk data d = true ↔ 8 ≤ data.length ∧ fieldAt data 0 1 = 1 ∧
    fieldAt data 1 1 = 0 ∧ fieldAt data 2 2 = d.width ∧ fieldAt data 4 2 = d.height ∧ fieldAt data 6 2 = 0 ∧
    16 ≤ d.width ∧ d.width ≤ 240 ∧ 16 ≤ d.height ∧ d.height ≤ 360) ∧
  (∀ (c : StillCache) (barred : Bool) (i : Ident) (vs ps : List FetchEntry), c.queue = vs ++ ps →
    (∀ e ∈ vs, e.cls = .visible) → (∀ e ∈ ps, e.cls = .prefetch) →
    let joined := fun q : List FetchEntry => { c with queue := vs ++ ⟨i, .visible⟩ :: q }
    (∀ wanted : List Ident, c.withdrawUnwanted wanted = { c with queue := c.queue.filter fun e => e.ident ∈ wanted }) ∧
    (barred = true ∨ (c.slotOf i).isSome = true → c.offerVisible barred i = c ∧ c.offerPrefetch barred i = c) ∧
    (barred = false → c.slotOf i = none →
      ((∃ e ∈ vs, e.ident = i) → c.offerVisible barred i = c ∧ c.offerPrefetch barred i = c) ∧
      ((∀ e ∈ vs, e.ident ≠ i) → (∃ e ∈ ps, e.ident = i) →
        c.offerVisible barred i = joined (ps.filter (·.ident != i)) ∧ c.offerPrefetch barred i = c) ∧
      ((∀ e ∈ c.queue, e.ident ≠ i) →
        (c.queue.length < 32 → c.offerVisible barred i = joined ps ∧
          c.offerPrefetch barred i = { c with queue := c.queue ++ [⟨i, .prefetch⟩] }) ∧
        (32 ≤ c.queue.length → c.offerVisible barred i = (if ps = [] then c else joined ps.dropLast) ∧
          c.offerPrefetch barred i = c)))) ∧
  ∀ s : State, s.power.resetLow = false →
    let lists := fun (i : Ident) (t : State) => i ∈ t.cache.failed ∧
      (i ∈ s.cache.failed → t.cache.failed = s.cache.failed) ∧
      (i ∉ s.cache.failed → (s.cache.failed.length < 16 → t.cache.failed = s.cache.failed ++ [i]) ∧
        ∀ (oldest : Ident) (rest : List Ident), s.cache.failed = oldest :: rest → rest.length = 15 →
          t.cache.failed = rest ++ [i])
    (2 ≤ s.cache.loads.length ∨ s.store.state = .absent ∨ s.store.state = .mounting ∨ s.store.state = .offline ∨
        s.cache.clearWaiting = true → exec .fetchTake s = .next s) ∧
    (∀ gone : List FetchEntry, s.cache.loads.length < 2 → (s.store.state = .online ∨ s.store.state = .readOnly) →
      s.cache.clearWaiting = false →
      (∀ x ∈ gone, x.ident ∈ s.cache.failed ∨ s.catalog.isDamaged x.ident = true ∨ s.catalog.liveStill x.ident = none) →
      (s.cache.queue = gone → exec .fetchTake s = .next (s.setCache { s.cache with queue := [] })) ∧
      ∀ (e : FetchEntry) (rest : List FetchEntry) (a : Asset), s.cache.queue = gone ++ e :: rest →
      e.ident ∉ s.cache.failed → s.catalog.isDamaged e.ident = false → s.catalog.liveStill e.ident = some a →
      ((∀ j, j < s.cache.slots.length → (s.cache.slot j).state ≠ .free) → s.cache.reuse = [] →
        exec .fetchTake s = .next (s.setCache { s.cache with queue := e :: rest })) ∧
      ∀ (k : Nat) (reuse : List Nat), k < s.cache.slots.length →
      ((s.cache.slot k).state = .free ∧ (∀ j, j < k → (s.cache.slot j).state ≠ .free) ∧ s.cache.reuse = reuse ∨
        (∀ j, j < s.cache.slots.length → (s.cache.slot j).state ≠ .free) ∧ s.cache.reuse = k :: reuse) →
      ∃ t, exec .fetchTake s = .next t ∧ t.cache.queue = rest ∧ t.cache.reuse = reuse ∧
        t.catalog.pool = (s.catalog.pool.map fun b => if b.uid = a.uid then { b with readers := b.readers + 1 } else b) ∧
        (∀ (r : Run) (more : List Run), readRuns (takePages (pagesFor a.length) a.extents) = r :: more →
          t.cache.loads = s.cache.loads ++ [{ slot := k, record := a.uid, length := a.length, desc := a.desc, rest := more, data := [] }] ∧
          s.store.placed (.still k) (if e.cls = .visible then .stillVisible else .prefetch) (.pageRead r) t.store) ∧
        t.cache.slot k = { state := .loading, ident := some e.ident, picture := none, stale := false, cls := some e.cls } ∧
        (∀ j, j ≠ k → t.cache.slot j = s.cache.slot j) ∧ t.cache.loads.length = s.cache.loads.length + 1 ∧
        t.cache.pins = s.cache.pins ∧ t.plans = s.plans ∧ t.screens = s.screens ∧ t.link = s.link) ∧
    (∀ (p : PortOp) (run : Run) (pages : List PageRead) (k : Nat) (l : Load), s.store.port = some p → p.purpose = .still k →
      p.op = .pageRead run → p.releaseReader = none → pages.length = run.count →
      s.cache.loads.find? (·.slot == k) = some l → l.slot = k → l.rest = [] → pages.all readable = true →
      s.store.mount = .none →
      ∃ t, exec (.stillReadDone pages) s = .next t ∧ t.store.port = none ∧ t.cache.waitList = s.cache.waitList ++ [k] ∧
        t.cache.slots = s.cache.slots ∧
        (t.cache.loads.find? (·.slot == k)).map (·.data) = some ((l.data ++ pages.flatMap pageBytes).take l.length)) ∧
    (∀ (p : PortOp) (run r : Run) (pages : List PageRead) (k : Nat) (l : Load) (more : List Run) (cls : FetchClass) (i : Ident),
      s.store.port = some p → p.purpose = .still k → p.op = .pageRead run → p.releaseReader = none → pages.length = run.count →
      s.cache.loads.find? (·.slot == k) = some l → l.slot = k → l.rest = r :: more → pages.all readable = true →
      s.store.mount = .none → s.store.heldBack = [] → (s.cache.slot k).cls = some cls → (s.cache.slot k).ident = some i →
      k < s.cache.slots.length →
      ((s.store.state = .online ∨ s.store.state = .readOnly) →
        ∃ t rest, exec (.stillReadDone pages) s = .next t ∧ t.store.port = none ∧ t.cache.slots = s.cache.slots ∧
          t.cache.waitList = s.cache.waitList ∧ t.link = s.link ∧ t.cache.loads.find? (·.slot == k) =
            some { l with data := (l.data ++ pages.flatMap pageBytes).take l.length, rest := more } ∧
          t.store.arbiter = s.store.arbiter ++ { purpose := .still k, op := .pageRead r, passed := 0
                                                 cls := if cls = .visible then .stillVisible else .prefetch } :: rest) ∧
      (s.store.state ≠ .online → s.store.state ≠ .readOnly →
        ∃ t, exec (.stillReadDone pages) s = .next t ∧ t.store.port = none ∧ t.cache.slot k = {} ∧
          t.cache.failed = s.cache.failed ∧ (∀ p ∈ t.cache.pins, p.slot ≠ k) ∧
          t.cache.loads = s.cache.loads.filter (·.slot != k) ∧ t.store.arbiter = s.store.arbiter ∧ t.link = s.link ∧
          ∀ a : Asset, s.catalog.record l.record = some a → t.catalog.record l.record = a.afterRelease)) ∧
    (∀ (p : PortOp) (run : Run) (pages : List PageRead) (k : Nat) (l : Load) (i : Ident), s.store.port = some p →
      p.purpose = .still k → p.op = .pageRead run → p.releaseReader = none → pages.length = run.count →
      s.cache.loads.find? (·.slot == k) = some l → (s.cache.slot k).ident = some i → k < s.cache.slots.length →
      pages.all readable = false → s.store.mount = .none →
      ∃ t, exec (.stillReadDone pages) s = .next t ∧ t.store.port = none ∧ t.cache.slot k = {} ∧ lists i t ∧
        (∀ p ∈ t.cache.pins, p.slot ≠ k) ∧ t.cache.loads = s.cache.loads.filter (·.slot != k) ∧
        ∀ a : Asset, s.catalog.record l.record = some a → damageTold a run pages s t ∧
          t.catalog.record l.record = { a with damaged := true }.afterRelease) ∧
    (∀ (k : Nat) (rest : List Nat), s.cache.decoding = none → s.cache.waitList = k :: rest →
      exec .stillDecodeStart s = .next (s.setCache { s.cache with decoding := some k, waitList := rest })) ∧
    (∀ (k : Nat) (l : Load) (i : Ident), s.cache.decoding = some k → s.cache.loads.find? (·.slot == k) = some l → l.slot = k →
      k < s.cache.slots.length → (s.cache.slot k).ident = some i →
      (∀ p : Picture, stillHeaderOk l.data l.desc = true → p.width = l.desc.width → p.height = l.desc.height →
        s.catalog.inLive i = true →
        ∃ t, exec (.stillDecodeDone (some p)) s = .next t ∧ t.cache.decoding = none ∧
          t.cache.slot k = { state := .resident, ident := some i, picture := some p, stale := false, cls := none } ∧
          t.cache.loads = s.cache.loads.filter (·.slot != k) ∧ t.cache.pins = s.cache.pins ∧
          t.cache.reuse = (if s.cache.pinCount k = 0 then s.cache.reuse ++ [k] else s.cache.reuse)) ∧
      (∀ p : Picture, stillHeaderOk l.data l.desc = true → p.width = l.desc.width → p.height = l.desc.height →
        s.catalog.inLive i = false →
        ∃ t, exec (.stillDecodeDone (some p)) s = .next t ∧ t.cache.decoding = none ∧
          t.cache.slot k = (if s.cache.pinCount k = 0 then {} else
            { state := .resident, ident := some i, picture := some p, stale := true, cls := none }) ∧
          t.cache.loads = s.cache.loads.filter (·.slot != k) ∧ t.cache.pins = s.cache.pins ∧
          t.cache.reuse = s.cache.reuse) ∧
      ∀ result : Option Picture, (∀ p, result = some p →
          stillHeaderOk l.data l.desc = false ∨ p.width ≠ l.desc.width ∨ p.height ≠ l.desc.height) →
        ∃ t, exec (.stillDecodeDone result) s = .next t ∧ t.cache.decoding = none ∧ t.cache.slot k = {} ∧
          lists i t ∧ (∀ p ∈ t.cache.pins, p.slot ≠ k) ∧ t.cache.loads = s.cache.loads.filter (·.slot != k)) ∧
    (s.cache.clearWaiting = true → s.cache.loads = [] →
      ∃ t, exec .cacheClear s = .next t ∧ t.cache = {} ∧ (∀ k, (t.cache.slot k).state = .free) ∧ t.plans = s.plans ∧
        t.catalog = s.catalog ∧ t.power.selfTest = s.power.selfTest.map fun u => { u with step := .memory })

/-- Every edit request is refused BAD_PARAM for a screen that is none, and SEALED on a sealed pending plan (R3). -/
def Obligations.PlanEditsAreCheckedInCommon : Prop :=
  ∀ (s : State) (tag n : Nat) (c : Instr) (kind : Nat), s.takes tag →
    ((∃ colour, c = .planBackdrop tag n colour ∧ kind = 0x30) ∨
      (∃ presence rect cols rows gap border focus,
        c = .planWall tag n presence rect cols rows gap border focus ∧ kind = 0x31) ∨
      (∃ start count titles, c = .planTitles tag n start count titles ∧ kind = 0x32) ∨
      (∃ index rect normal lit text al scale glyphs,
        c = .planItem tag n index rect normal lit text al scale glyphs ∧ kind = 0x33) ∨
      (∃ index, c = .planItemClear tag n index ∧ kind = 0x34) ∨
      (∃ window lane rect, c = .planWindow tag n window lane rect ∧ kind = 0x35) ∨ (c = .planRevert tag n ∧ kind = 0x36)) →
    (2 ≤ n → exec c s = .next (answered kind tag .badParam [] s)) ∧
      ∀ i : Fin 2, n = i.val → (s.plan i).sealMark.isSome = true → exec c s = .next (answered kind tag .sealed [] s)

/-- PLAN_BACKDROP, PLAN_WALL and PLAN_TITLES change the unsealed pending plan as R4 and R5 give, or are refused (R3, R4, R5). That
PLAN_TITLES refuses a plan without a wall with NO_SUCH whatever its range and count, but after a title number 0, is the model's choice
(DESIGN CHOICE, log entry 17). -/
def Obligations.BackdropWallAndTitlesAreEdited : Prop :=
  ∀ (s : State) (tag : Nat) (i : Fin 2), s.takes tag → (s.plan i).sealMark = none →
    let old := (s.plan i).pending
    let put := fun (kind : Nat) (p : Plan) =>
      Host.Outcome.next (φ := Fault) (ρ := Refusal) (answered kind tag .ok [] (s.setPlan i { s.plan i with pending := p }))
    let bad := fun kind : Nat => Host.Outcome.next (φ := Fault) (ρ := Refusal) (answered kind tag .badParam [] s)
    (∀ colour, exec (.planBackdrop tag i colour) s = put 0x30 { old with backdrop := colour }) ∧
    (∀ (presence : Nat) (rect : Rect) (cols rows gap border : Nat) (focus : Rgb),
      let req := exec (.planWall tag i presence rect cols rows gap border focus) s
      (presence = 0 → req = put 0x31 { old with wall := none }) ∧
        (2 ≤ presence → req = bad 0x31) ∧
        (presence = 1 →
          (1 ≤ cols ∧ cols ≤ 8 ∧ 1 ≤ rows ∧ rows ≤ 6 ∧ gap ≤ 32 ∧ 2 ≤ border ∧ border ≤ 8 ∧ 1 ≤ rect.w ∧ 1 ≤ rect.h ∧
              16 ≤ (rect.w - (cols - 1) * gap) / cols ∧ 16 ≤ (rect.h - (rows - 1) * gap) / rows →
            req = put 0x31 { old with wall := some ⟨rect, cols, rows, gap, border, focus,
              match old.wall with | some w => w.titles | none => []⟩ }) ∧
          (¬ (1 ≤ cols ∧ cols ≤ 8 ∧ 1 ≤ rows ∧ rows ≤ 6 ∧ gap ≤ 32 ∧ 2 ≤ border ∧ border ≤ 8 ∧ 1 ≤ rect.w ∧ 1 ≤ rect.h ∧
              16 ≤ (rect.w - (cols - 1) * gap) / cols ∧ 16 ≤ (rect.h - (rows - 1) * gap) / rows) → req = bad 0x31))) ∧
    ∀ (start count : Nat) (new : List Nat),
      let req := exec (.planTitles tag i start count new) s
      (0 ∉ new → old.wall = none → req = .next (answered 0x32 tag .noSuch [] s)) ∧
        ∀ w : Wall, old.wall = some w →
          (start ≤ w.titles.length ∧ start + count ≤ w.titles.length ∧ 0 ∉ new ∧
              w.titles.length - count + new.length ≤ 512 →
            ∃ ts, req = put 0x32 { old with wall := some { w with titles := ts } } ∧ ts.take start = w.titles.take start ∧
              (ts.drop start).take new.length = new ∧
              (ts.drop start).drop new.length = w.titles.drop (start + count)) ∧
          (w.titles.length < start ∨ w.titles.length < start + count ∨ 0 ∈ new ∨
              512 < w.titles.length - count + new.length → req = bad 0x32)

/-- PLAN_ITEM, PLAN_ITEM_CLEAR, PLAN_WINDOW and PLAN_REVERT change the unsealed pending plan as R6 to R8 give, or are
refused (R6, R7, R8). -/
def Obligations.ItemsWindowsAndRevertEdit : Prop :=
  ∀ (s : State) (tag : Nat) (i : Fin 2), s.takes tag → (s.plan i).sealMark = none →
    let old := (s.plan i).pending
    let put := fun (kind : Nat) (p : Plan) =>
      Host.Outcome.next (φ := Fault) (ρ := Refusal) (answered kind tag .ok [] (s.setPlan i { s.plan i with pending := p }))
    let bad := fun kind : Nat => Host.Outcome.next (φ := Fault) (ρ := Refusal) (answered kind tag .badParam [] s)
    (∀ (index : Nat) (rect : Rect) (normal lit : Fill) (text : Rgb) (al scale : Nat) (glyphs : List Byte),
      let req := exec (.planItem tag i index rect normal lit text al scale glyphs) s
      (index < 48 ∧ 1 ≤ rect.w ∧ 1 ≤ rect.h ∧ al < 3 ∧ (scale = 1 ∨ scale = 2) ∧ glyphs.length ≤ 48 →
        req = put 0x33 { old with items := old.items.set index (some
          { rect := rect, normal := normal, lit := lit, text := text, glyphs := glyphs, scale := scale
            alignment := if al = 0 then .left else if al = 1 then .center else .right }) }) ∧
      (48 ≤ index ∨ rect.w = 0 ∨ rect.h = 0 ∨ 3 ≤ al ∨ (scale ≠ 1 ∧ scale ≠ 2) ∨ 48 < glyphs.length → req = bad 0x33)) ∧
    (∀ index : Nat,
      (index < 48 → exec (.planItemClear tag i index) s = put 0x34 { old with items := old.items.set index none }) ∧
        (48 ≤ index → exec (.planItemClear tag i index) s = bad 0x34)) ∧
    (∀ (window lane : Nat) (rect : Rect),
      let req := exec (.planWindow tag i window lane rect) s
      (∀ w : Fin 3, window = w.val →
        (lane = 0xFF → req = put 0x35 { old with windows := old.windows.set w none }) ∧
        (∀ l : Fin 3, lane = l.val → 1 ≤ rect.w → 1 ≤ rect.h →
          req = put 0x35 { old with windows := old.windows.set w (some ⟨l, rect⟩) })) ∧
      (3 ≤ window ∨ (3 ≤ lane ∧ lane ≠ 0xFF) ∨ (lane ≠ 0xFF ∧ (rect.w = 0 ∨ rect.h = 0)) → req = bad 0x35)) ∧
    exec (.planRevert tag i) s = put 0x36 (s.plan i).live

/-- PRESENT is refused in the order of R9, and otherwise seals the pending plan with its transition (R9). -/
def Obligations.PresentIsCheckedAndSeals : Prop :=
  ∀ (s : State) (tag n kind length : Nat), s.takes tag →
    let req := exec (.present tag n kind length) s
    let cells := fun w : Option Wall => match w with | some w => w.columns * (w.rows + 1) | none => 0
    (2 ≤ n ∨ 2 ≤ kind → req = .next (answered 0x37 tag .badParam [] s)) ∧
    ∀ i : Fin 2, n = i.val → kind < 2 →
      let p := s.plan i
      let o := s.plan (1 - i)
      let sum := cells p.pending.wall + max (cells o.live.wall) (if o.sealMark.isSome then cells o.pending.wall else 0)
      (p.sealMark.isSome = true → req = .next (answered 0x37 tag .pending [] s)) ∧
      (p.sealMark = none → s.running i = false → req = .next (answered 0x37 tag .notNow [] s)) ∧
      (p.sealMark = none → s.running i = true →
        (80 < sum → req = .next (answered 0x37 tag .badParam [] s)) ∧
        (sum ≤ 80 →
          (kind = 0 → req = .next ((holdPlace s).setPlan i { p with sealMark := some ⟨.cut, length, tag⟩ })) ∧
          (kind = 1 → req = .next ((holdPlace s).setPlan i { p with sealMark := some ⟨.fade,
            if length ≤ 2 then 2 else if 64 ≤ length then 64 else length + length % 2, tag⟩ }))))

/-- SCROLL sets a clamped target and speed on the live wall, whose scroll maximum comes from the quantities of R2; FOCUS sets the screen's
one focus; the advance that a pass-starting VBLANK makes after the transition step stops exactly on the target (R2, R13, R14, R15). -/
def Obligations.ScrollAndFocusAct : Prop :=
  (∀ w : Wall, 1 ≤ w.columns → 1 ≤ w.rows → (w.columns - 1) * w.gap ≤ w.rect.w → (w.rows - 1) * w.gap ≤ w.rect.h →
    let n := w.titles.length
    (w.cellW : Int) = ((w.rect.w : Int) - ((w.columns : Int) - 1) * w.gap).fdiv w.columns ∧
    (w.cellH : Int) = ((w.rect.h : Int) - ((w.rows : Int) - 1) * w.gap).fdiv w.rows ∧
    w.pitch = w.cellH + w.gap ∧
    (w.viewW : Int) = (w.columns : Int) * w.cellW + ((w.columns : Int) - 1) * w.gap ∧ w.viewW ≤ w.rect.w ∧
    (w.viewH : Int) = (w.rows : Int) * w.cellH + ((w.rows : Int) - 1) * w.gap ∧ w.viewH ≤ w.rect.h ∧
    n ≤ w.rowsTotal * w.columns ∧ (0 < n → (w.rowsTotal - 1) * w.columns < n) ∧ (n = 0 → w.rowsTotal = 0) ∧
    (n = 0 → w.contentH = 0) ∧ (0 < n → (w.contentH : Int) = (w.rowsTotal : Int) * w.pitch - w.gap) ∧
    (w.scrollMax : Int) = max 0 ((w.contentH : Int) - w.viewH)) ∧
  (∀ (s : State) (tag n speed target kind index : Nat), s.takes tag →
    (2 ≤ n → exec (.scroll tag n speed target) s = .next (answered 0x38 tag .badParam [] s) ∧
      exec (.focus tag n kind index) s = .next (answered 0x39 tag .badParam [] s)) ∧
    ∀ i : Fin 2, n = i.val →
      ((s.plan i).live.wall = none → exec (.scroll tag n speed target) s = .next (answered 0x38 tag .noSuch [] s)) ∧
      (∀ w : Wall, (s.plan i).live.wall = some w → exec (.scroll tag n speed target) s =
        .next (answered 0x38 tag .ok (beBytes 4 (min target w.scrollMax) ++ beBytes 4 w.scrollMax)
          (s.setPlan i { s.plan i with scroll :=
            { (s.plan i).scroll with target := min target w.scrollMax, speed := max 1 (min speed 64) } }))) ∧
      (∀ f : Focus, (kind = 0 ∧ f = .none ∨ kind = 1 ∧ index < 512 ∧ f = .wall index ∨ kind = 2 ∧ index < 48 ∧ f = .item index) →
        exec (.focus tag n kind index) s = .next (answered 0x39 tag .ok [] (s.setPlan i { s.plan i with focus := f }))) ∧
      (3 ≤ kind ∨ kind = 1 ∧ 512 ≤ index ∨ kind = 2 ∧ 48 ≤ index →
        exec (.focus tag n kind index) s = .next (answered 0x39 tag .badParam [] s))) ∧
  (∀ (s : State) (i : Fin 2) (lanesFirst : Bool), s.power.resetLow = false → s.running i = true →
    (s.screen i).frameTimer = true → (s.screen i).back ≠ .composing →
    ∃ t, exec (.vblank i lanesFirst) s = .next t ∧
      (t.plan i).scroll = ((scrollAdvance i (transitionStep i s)).plan i).scroll ∧ (t.plan i).focus = (s.plan i).focus) ∧
  ∀ (s : State) (i : Fin 2),
    let r := (s.plan i).scroll
    ((s.plan i).live.wall = none → scrollAdvance i s = s) ∧
      ∀ w : Wall, (s.plan i).live.wall = some w →
        ∃ r' : ScrollRec, scrollAdvance i s = s.setPlan i { s.plan i with scroll := r' } ∧ r'.target = r.target ∧
          r'.speed = r.speed ∧
          (r.position < r.target → r'.position = min r.target (r.position + r.speed) ∧ r'.down = true) ∧
          (r.target < r.position → r'.position = max r.target (r.position - r.speed) ∧ r'.down = false) ∧
          (r.position = r.target → r' = r) ∧
          (r.position ≤ w.scrollMax → r.target ≤ w.scrollMax → r'.position ≤ w.scrollMax)

/-- The transition step, which every VBLANK that begins a pass makes first, runs a FADE to black and back around the take, and makes a
CUT at once; a take keeps the cell records whose title stays (R10, R11, R12). -/
def Obligations.FadesStepAndTake : Prop :=
  (∀ (s : State) (i : Fin 2) (lanesFirst : Bool), s.power.resetLow = false → s.running i = true →
    (s.screen i).frameTimer = true → (s.screen i).back ≠ .composing →
    let u := transitionStep i s
    ∃ t, exec (.vblank i lanesFirst) s = .next t ∧ (t.plan i).transition = (u.plan i).transition ∧
      (t.plan i).live = (u.plan i).live ∧ (t.plan i).pending = (u.plan i).pending ∧ (t.plan i).sealMark = (u.plan i).sealMark ∧
      (∀ m : Seal, (s.plan i).sealMark = some m → (u.plan i).sealMark = none →
        replyMsg 0x37 m.tag .ok [] .nothing ∈ t.link.queued) ∧
      ∀ j : Fin 2, j ≠ i → t.plan j = s.plan j) ∧
  ∀ (s : State) (i : Fin 2),
    let p := s.plan i
    let at_ := fun x : Transition => s.setPlan i { p with transition := x }
    (∀ n k : Nat, p.transition.fading = true → p.transition.length = 2 * n → 1 ≤ n → p.transition.step + 1 = k →
      let x : Transition := { fading := true, length := 2 * n, step := k, level := 0 }
      (k < n → transitionStep i s = at_ { x with level := 255 * k / n }) ∧
        (k = n → transitionStep i s = take i (at_ { x with level := 255 })) ∧
        (n < k → k < 2 * n → transitionStep i s = at_ { x with level := 255 - 255 * (k - n) / n }) ∧
        (k = 2 * n → transitionStep i s = at_ { x with level := 0, fading := false })) ∧
    (p.transition.fading = false →
      (p.sealMark = none → transitionStep i s = at_ { p.transition with level := 0 }) ∧
      ∀ m : Seal, p.sealMark = some m →
        (m.kind = .cut → transitionStep i s = take i (at_ { p.transition with level := 0 })) ∧
        (∀ n : Nat, m.kind = .fade → m.length = 2 * n → 1 ≤ n →
          let x : Transition := { fading := true, length := 2 * n, step := 1, level := 255 / n }
          (2 ≤ n → transitionStep i s = at_ x) ∧ (n = 1 → transitionStep i s = take i (at_ x)))) ∧
    ∀ m : Seal, p.sealMark = some m →
      ∃ scroll cells, take i s = (s.setPlan i { p with
          live := p.pending, sealMark := none, scroll := scroll, cells := cells }).setLink
            (s.link.fillPlace (replyMsg 0x37 m.tag .ok [] .nothing)) ∧ scroll.speed = p.scroll.speed ∧
        (p.live.wall.isSome ≠ p.pending.wall.isSome → scroll.position = 0 ∧ scroll.target = 0 ∧ scroll.down = true ∧
          cells = []) ∧
        (p.live.wall.isSome = p.pending.wall.isSome → scroll.position = min p.scroll.position (scrollMaxOf p.pending.wall) ∧
          scroll.target = min p.scroll.target (scrollMaxOf p.pending.wall) ∧ scroll.down = p.scroll.down) ∧
        (p.live.wall = none → p.pending.wall = none → cells = p.cells) ∧
        ∀ a b : Wall, p.live.wall = some a → p.pending.wall = some b →
          (a.rect = b.rect ∧ a.columns = b.columns ∧ a.rows = b.rows ∧ a.gap = b.gap →
            cells.Sublist p.cells ∧
              ∀ c, c ∈ cells ↔ c ∈ p.cells ∧ c.index < b.titles.length ∧ a.titles[c.index]? = b.titles[c.index]?) ∧
          (a.rect ≠ b.rect ∨ a.columns ≠ b.columns ∨ a.rows ≠ b.rows ∨ a.gap ≠ b.gap → cells = [])

/-- A finished pass draws the wall's cells with the focus border, the lane windows and the menu items in layer order over the backdrop,
each as its state gives, and each pixel follows the scaling, the clip, the blend, the fade plane and the colour matrix of
Composition (R27, R28, R29, R30, R31, R32, R33, R34, R35, R36, R37, R38, R39, R40, R41). Which of the views of the lanes and of glyph
memory during the pass a mark, a window or a text shows is an operand of the command, windows never going back in table order nor texts
in item order (log entry 7). -/
def Obligations.PixelsAreScaledBlendedAndCorrected : Prop :=
  let paint := fun (ops : List DrawOp) (x y : Int) (d : Rgb) => ops.foldl (fun d op => op.draw x y d) d
  let covers := fun (r : Rect) (x y : Int) => r.x ≤ x ∧ x < r.x + r.w ∧ r.y ≤ y ∧ y < r.y + r.h
  let scaled := fun (p : Picture) (r : Rect) (x y : Int) =>
    pixelAt p (sampleAt p.width r.w (x - r.x).toNat) (sampleAt p.height r.h (y - r.y).toNat)
  (∀ (a b : Rect) (x y : Int), covers (rectMeet a b) x y ↔ covers a x y ∧ covers b x y) ∧
  (∀ (left top : Int) (scale : Nat) (clip : Rect) (colour : Rgb) (coverage : List Byte) (x y : Int) (d : Rgb),
    let result := DrawOp.draw x y d (.glyph left top scale clip colour coverage)
    let inside := covers ⟨left, top, 16 * scale, 24 * scale⟩ x y ∧ covers clip x y
    (¬ inside → result = d) ∧ (inside → result = blendRgb colour
      (17 * (coverage.getD ((y - top).toNat / scale * 16 + (x - left).toNat / scale) 0).toNat) d)) ∧
  (∀ (c : StillCache) (rect clip : Rect) (glyphs : Option (List Byte)) (cell : CellShot) (x y : Int) (d : Rgb),
    let result := paint (cellOps c rect clip glyphs cell) x y d
    (¬ covers clip x y → result = d) ∧
    (covers rect x y → covers clip x y →
      (cell.appearance = .empty → result = d) ∧
      (cell.appearance = .waiting → result = cell.tint) ∧
      (∀ (k n : Nat) (p : Picture), cell.slot = some n → (c.slot n).picture = some p →
        (cell.appearance = .fading k → result = blendRgb (scaled p rect x y) (32 * k) cell.tint) ∧
          (cell.appearance = .shown → result = scaled p rect x y)) ∧
      (cell.appearance = .broken → (glyphs = none → result = cell.tint) ∧
        ∀ set, glyphs = some set → result = DrawOp.draw x y cell.tint
          (.glyph (rect.x + ((rect.w : Int) - 16).fdiv 2) (rect.y + ((rect.h : Int) - 24).fdiv 2) 1 clip ⟨255, 255, 255⟩
            ((set.drop 384).take 384))))) ∧
  (∀ (w : Wall) (focus : Focus) (index : Nat) (rect clip : Rect) (x y : Int) (d : Rgb),
    let result := paint (borderOps w focus index rect clip) x y d
    let edge := focus = .wall index ∧ index < w.titles.length ∧ covers rect x y ∧ covers clip x y ∧
      (x - rect.x < w.border ∨ rect.x + rect.w - 1 - x < w.border ∨ y - rect.y < w.border ∨ rect.y + rect.h - 1 - y < w.border)
    (edge → result = w.focusColour) ∧ (¬ edge → result = d)) ∧
  (∀ (c : StillCache) (rect clip : Rect) (poster : PosterShot) (v : LaneView) (x y : Int) (d : Rgb),
    let result := paint (windowOps c rect clip poster v) x y d
    let showsPoster := v.state = .held ∨ v.state = .ended ∧ v.endAction = .poster
    (¬ (covers rect x y ∧ covers clip x y) ∨ v.state = .idle → result = d) ∧
    (covers rect x y → covers clip x y →
      (v.state = .priming → result = Rgb.black) ∧
      (v.state = .playing ∨ v.state = .starved ∨ v.state = .ended ∧ v.endAction ≠ .poster →
        (v.onShow = none → result = Rgb.black) ∧ ∀ p, v.onShow = some p → result = scaled p rect x y) ∧
      (showsPoster → (poster = .black → result = Rgb.black) ∧ (∀ t, poster = .tint t → result = t) ∧
        ∀ n p, poster = .slot n → (c.slot n).picture = some p → result = scaled p rect x y))) ∧
  (∀ (c : StillCache) (x : PassContext) (screen : Rect) (m : DrawMoments),
    let plan := x.shot.plan
    (drawPass c x screen m).backdrop = plan.backdrop ∧ (drawPass c x screen m).fade = x.shot.fade ∧
    (drawPass c x screen m).matrix = x.shot.matrix ∧
    let glyphs := fun n : Nat => (x.views[n]?).bind (·.glyphs)
    let last := x.views.length - 1
    ∃ (wall lanes items : List DrawOp) (markAt windowAt textAt : Nat → Nat),
      (drawPass c x screen m).ops = wall ++ lanes ++ items ∧
      (∀ n k, n ≤ k → windowAt n ≤ windowAt k ∧ textAt n ≤ textAt k) ∧
      (x.views ≠ [] → ∀ n, markAt n < x.views.length ∧ windowAt n < x.views.length ∧ textAt n < x.views.length) ∧
      (∀ n k, m.marks[n]? = some k → markAt n = min k last) ∧
      (m.windows.Pairwise (· ≤ ·) → ∀ n k, m.windows[n]? = some k → windowAt n = min k last) ∧
      (m.items.Pairwise (· ≤ ·) → ∀ n k, m.items[n]? = some k → textAt n = min k last) ∧
      (plan.wall = none → wall = []) ∧
      (∀ w, plan.wall = some w → wall = x.shot.cells.zipIdx.flatMap fun p =>
        let rect : Rect := ⟨w.rect.x + ((p.1.index % w.columns) * (w.cellW + w.gap) : Nat),
          w.rect.y + ((p.1.index / w.columns) * w.pitch : Nat) - (x.shot.position : Int), w.cellW, w.cellH⟩
        let clip := rectMeet (rectMeet screen ⟨w.rect.x, w.rect.y, w.viewW, w.viewH⟩) rect
        cellOps c rect clip (glyphs (markAt p.2)) p.1 ++ borderOps w x.shot.focus p.1.index rect clip) ∧
      lanes = [(0 : Fin 3), 1, 2].flatMap (fun v => match plan.windows.get v, x.views[windowAt v.val]? with
        | some w, some u => windowOps c w.rect (rectMeet screen w.rect) (x.shot.posters.get v) (u.lanes.get w.lane)
        | _, _ => []) ∧
      items = plan.items.zipIdx.flatMap fun p => match p.1 with
        | none => []
        | some it =>
          let fill := if x.shot.focus = .item p.2 then it.lit else it.normal
          .fill it.rect (rectMeet screen it.rect) fill.colour fill.alpha :: textOps it (rectMeet screen it.rect) (glyphs (textAt p.2))) ∧
  (∀ (rect clip : Rect) (colour : Rgb) (alpha : Nat) (x y : Int) (d : Rgb),
    let result := DrawOp.draw x y d (.fill rect clip colour alpha)
    (covers rect x y ∧ covers clip x y → result = blendRgb colour alpha d) ∧
      (¬ (covers rect x y ∧ covers clip x y) → result = d)) ∧
  (∀ (it : Item) (clip : Rect) (set : List Byte), textOps it clip none = [] ∧
    textOps it clip (some set) = (it.glyphs.zipIdx.filter (·.1 ≠ 0)).map fun p =>
      let line : Int := (16 * it.scale * it.glyphs.length : Nat)
      let left := match it.alignment with
        | .left => it.rect.x
        | .center => it.rect.x + ((it.rect.w : Int) - line).fdiv 2
        | .right => it.rect.x + it.rect.w - line
      .glyph (left + (16 * it.scale * p.2 : Nat)) (it.rect.y + ((it.rect.h : Int) - (24 * it.scale : Nat)).fdiv 2) it.scale
        clip it.text ((set.drop (384 * p.1.toNat)).take 384)) ∧
  (∀ ws wd d : Nat, d < wd → sampleAt ws wd d = ((2 * d + 1) * ws) / (2 * wd) ∧ (0 < ws → sampleAt ws wd d < ws) ∧
    sampleAt wd wd d = d) ∧
  (∀ (rect clip : Rect) (p : Picture) (alpha : Nat) (x y : Int) (d : Rgb),
    (rectHas rect x y = true ∧ rectHas clip x y = true →
      DrawOp.draw x y d (.picture rect clip p alpha) =
        blendRgb (pixelAt p (sampleAt p.width rect.w (x - rect.x).toNat) (sampleAt p.height rect.h (y - rect.y).toNat)) alpha d) ∧
    (rectHas rect x y = false ∨ rectHas clip x y = false → DrawOp.draw x y d (.picture rect clip p alpha) = d)) ∧
  (∀ sc a d : Nat, a ≤ 255 → sc ≤ 255 → d ≤ 255 → blend sc a d = (sc * a + d * (255 - a) + 127) / 255 ∧
    blend sc a d ≤ 255 ∧ blend sc 255 d = sc ∧ blend sc 0 d = d) ∧
  (∀ f c : Nat, f ≤ 255 → c ≤ 255 → fadeChannel f c = (c * (255 - f) + 127) / 255 ∧ fadeChannel f c = blend 0 f c ∧
    fadeChannel 0 c = c ∧ fadeChannel 255 c = 0) ∧
  (∀ (mr mg mb o : Int) (c : Rgb),
    let v := (mr * c.r + mg * c.g + mb * c.b + 512).fdiv 1024 + o
    (v < 0 → matrixChannel mr mg mb o c = 0) ∧ (255 < v → matrixChannel mr mg mb o c = 255) ∧
      (0 ≤ v → v ≤ 255 → (matrixChannel mr mg mb o c : Int) = v)) ∧
  (∀ (c d : Rgb) (a : Nat), blendRgb c a d = ⟨blend c.r a d.r, blend c.g a d.g, blend c.b a d.b⟩) ∧
  (∀ (f : Nat) (c : Rgb), fadeRgb f c = ⟨fadeChannel f c.r, fadeChannel f c.g, fadeChannel f c.b⟩) ∧
  (∀ (p : Picture) (x y : Nat) (c : Rgb), x < p.width → p.pixels[y * p.width + x]? = some c → pixelAt p x y = c) ∧
  (∀ (rr rg rb gr gg gb br bg bb ro go bo : Int) (c : Rgb),
    Matrix.apply { coeffs := [rr, rg, rb, gr, gg, gb, br, bg, bb], offsets := [ro, go, bo] } c =
      ⟨matrixChannel rr rg rb ro c, matrixChannel gr gg gb go c, matrixChannel br bg bb bo c⟩) ∧
  (∀ c : Rgb, c.r ≤ 255 → c.g ≤ 255 → c.b ≤ 255 → ({} : Matrix).apply c = c) ∧
  ∀ (g : Drawing) (x y : Nat), g.pixel x y =
    g.matrix.apply (fadeRgb g.fade (g.ops.foldl (fun d op => op.draw (x : Int) (y : Int) d) g.backdrop))

/-- A VBLANK begins a pass, swaps a READY buffer in and begins a pass, or counts a missed frame; a pass begins with the transition
step, the scroll advance, the resolution step and the appearance step, and with the snapshot of R25 and the first view of the lanes
and of glyph memory, and each command that changes what they show adds one view; a completed pass leaves the drawing of `drawPass`,
which PixelsAreScaledBlendedAndCorrected describes, in the back buffer (R10, R16 to R22, R25, R45, R96 to R100). The model's own: the
order of the lanes at one VBLANK (log entry 16), the operand that orders the lanes' work and Scanout's (log entry 6), the form of the
views (log entry 7), that a pass's stills are taken from their slots at its end (log entry 8), that a title whose still key has no live
record has no still, EMPTY in a cell and no poster (log entry 18), and that all offers of a pass start are handled before any head is
taken (log entry 48). -/
def Obligations.VblanksBeginSwapOrMiss : Prop :=
  let drawn := fun a : Appearance => a ≠ .empty ∧ a ≠ .broken
  let view := fun r : Lane => (⟨r.state, r.endAction, r.onShow.map (·.picture)⟩ : LaneView)
  let shown := fun u : State => (⟨⟨view (u.lane 0), view (u.lane 1), view (u.lane 2)⟩, u.catalog.glyphs⟩ : PassView)
  (∀ (s : State) (i : Fin 2), s.power.resetLow = false → (s.screen i).state = .running → (s.screen i).frameTimer = true →
    let pass := fun u : State => openPass i (appearanceStep i (resolutionStep i (scrollAdvance i (transitionStep i
      (u.setScreen i { u.screen i with
        back := .composing, passCount := ((u.screen i).passCount + 1) % 4294967296 })))))
    let scanout := fun u : State => match (u.screen i).back with
      | .free => pass u
      | .ready => pass (u.setScreen i { u.screen i with front1 := !(u.screen i).front1, back := .free })
      | .composing => u.setScreen i { u.screen i with missed := min 65535 ((u.screen i).missed + 1) }
    let lanes := fun u : State => [(0 : Fin 3), 1, 2].foldl (fun v l =>
      if (v.lane l).clockScreen = i then laneVblank (90000 / (s.screen i).active.rate) l v else v) u
    exec (.vblank i true) s = .next ((eraserStep (scanout (lanes s))).seenSince s) ∧
      exec (.vblank i false) s = .next ((eraserStep (lanes (scanout s))).seenSince s)) ∧
  (∀ s t : State, ∃ comp, t.seenSince s = { t with comp := comp } ∧ ∀ i : Fin 2,
    (comp.get i).matrix = (t.compScreen i).matrix ∧ ((t.compScreen i).context = none → (comp.get i).context = none) ∧
      ∀ x, (t.compScreen i).context = some x → (comp.get i).context = some { x with
        views := if shown t = shown s ∨ x.views.getLast? = some (shown t) then x.views else x.views ++ [shown t] }) ∧
  (∀ (s : State) (i : Fin 2),
    let p := s.plan i
    let t := resolutionStep i s
    let q := t.plan i
    let o := s.plan (1 - i)
    let stillOf := fun title : Option Nat => (title.bind fun n => s.catalog.titles.find? (·.number == n)).bind
      fun x : TitleRec => if x.stillKey = 0 then none else
        (s.catalog.pool.find? fun a => a.inLive && a.key == x.stillKey).map fun a => ((⟨x.stillKey, a.check⟩ : Ident), x.tint)
    let titleAt := fun n : Nat => p.live.wall.bind fun w => w.titles[n]?
    let barred := fun x : Ident => x ∈ s.cache.failed ∨
      ∃ a, s.catalog.pool.find? (fun a => a.inLive && a.key == x.key) = some a ∧ a.damaged = true
    let freed := fun k : Nat => 0 < s.cache.pinCount k ∧ t.cache.pinCount k = 0 ∧ (s.cache.slot k).state = .resident
    let shows := fun (place : Place) (x : Ident) =>
      (∃ c ∈ q.cells, place = .cell i c.index ∧ c.ident = some x ∧ drawn c.appearance) ∨
        ∃ v r, place = .poster i v ∧ q.posters.get v = some r ∧ r.ident = some x ∧ r.usable = true
    (∃ plan cache, t = { s with plans := s.plans.set i plan, cache := cache } ∧ plan.live = p.live ∧ plan.pending = p.pending ∧
      plan.sealMark = p.sealMark ∧ plan.transition = p.transition ∧ plan.scroll = p.scroll ∧ plan.focus = p.focus ∧
      plan.reResolve = false) ∧
    (q.cells.map (·.index) = match p.live.wall with
      | none => []
      | some w =>
        let first := p.scroll.position / w.pitch
        let last := min (w.rowsTotal - 1) ((p.scroll.position + w.viewH - 1) / w.pitch)
        if w.titles = [] then [] else List.range' (first * w.columns) ((last + 1 - first) * w.columns)) ∧
    (∀ c ∈ q.cells,
      let old := p.cells.find? (·.index == c.index)
      (old = none ∨ p.reResolve = true → c.title = titleAt c.index ∧ c.ident = (stillOf c.title).map (·.1) ∧
        (∀ x, stillOf c.title = some x → c.tint = x.2)) ∧
      (∀ d, old = some d → p.reResolve = false → c.title = d.title ∧ c.ident = d.ident ∧ c.tint = d.tint) ∧
      (c.ident = none → c.appearance = .empty) ∧
      (∀ x, c.ident = some x → barred x → c.appearance = .broken) ∧
      (∀ x, c.ident = some x → ¬ barred x →
        ((∀ d, old = some d → d.ident ≠ some x ∨ ¬ drawn d.appearance) → c.appearance = .waiting) ∧
        (∀ d, old = some d → d.ident = some x → drawn d.appearance → c.appearance = d.appearance)) ∧
      (c.pinned = true ↔ ∃ k, ⟨.cell i c.index, k⟩ ∈ t.cache.pins)) ∧
    (∀ v : Fin 3, match p.live.windows.get v with
      | none => q.posters.get v = none
      | some w =>
        let lane := s.lane w.lane
        let needs := lane.state = .held ∨ lane.state = .ended ∧ lane.endAction = .poster
        ∃ r, q.posters.get v = some r ∧
          (∀ x, needs → stillOf (some lane.title) = some x →
            r.ident = some x.1 ∧ r.tint = some x.2 ∧ (r.usable = true ↔ ¬ barred x.1)) ∧
          (¬ needs ∨ stillOf (some lane.title) = none → r.ident = none ∧ r.tint = none ∧ r.usable = false)) ∧
    ((s.cache.pins.map (·.place)).Nodup → ∀ (place : Place) (k : Nat), ⟨place, k⟩ ∈ t.cache.pins ↔
      place.screen ≠ i ∧ ⟨place, k⟩ ∈ s.cache.pins ∨ ∃ x, shows place x ∧ s.cache.slotOf x = some k) ∧
    (∀ k, k < 96 →
      (freed k → (s.cache.slot k).stale = true → t.cache.slot k = {}) ∧
        (¬ freed k ∨ (s.cache.slot k).stale = false → t.cache.slot k = s.cache.slot k)) ∧
    t.cache.reuse =
      s.cache.reuse.filter (fun k => ¬ (k < 96 ∧ s.cache.pinCount k = 0 ∧ 0 < t.cache.pinCount k)) ++
        (List.range 96).filter (fun k => freed k ∧ (s.cache.slot k).stale = false) ∧
    q.wantedVisible.Nodup ∧ (∀ x, x ∈ q.wantedVisible ↔ ∃ place, shows place x) ∧
    q.wantedPrefetch.Nodup ∧
    (∀ x, x ∈ q.wantedPrefetch ↔ ¬ barred x ∧ ∃ (w : Wall) (row n : Nat), p.live.wall = some w ∧ w.titles ≠ [] ∧
      row < w.rowsTotal ∧ row * w.columns ≤ n ∧ n < (row + 1) * w.columns ∧ (stillOf (titleAt n)).map (·.1) = some x ∧
      let first := p.scroll.position / w.pitch
      let last := min (w.rowsTotal - 1) ((p.scroll.position + w.viewH - 1) / w.pitch)
      if p.scroll.down then row = last + 1 ∨ row = last + 2 else row + 1 = first ∨ row + 2 = first) ∧
    ∀ vs ps : List FetchEntry, s.cache.queue = vs ++ ps → (∀ e ∈ vs, e.cls = .visible) → (∀ e ∈ ps, e.cls = .prefetch) →
      (∃ vs' ps', t.cache.queue = vs' ++ ps' ∧ (∀ e ∈ vs', e.cls = .visible) ∧ ∀ e ∈ ps', e.cls = .prefetch) ∧
      (∀ e ∈ t.cache.queue, e.ident ∈ q.wantedVisible ∨ e.ident ∈ q.wantedPrefetch ∨ e.ident ∈ o.wantedVisible ∨
        e.ident ∈ o.wantedPrefetch) ∧
      (∀ x ∈ q.wantedVisible, (t.cache.slotOf x).isSome = true ∨ ⟨x, .visible⟩ ∈ t.cache.queue ∨ 32 ≤ t.cache.queue.length) ∧
      ∀ x ∈ q.wantedPrefetch, x ∉ q.wantedVisible → x ∉ o.wantedVisible →
        (t.cache.slotOf x).isSome = true ∨ (∃ e ∈ t.cache.queue, e.ident = x) ∨ 32 ≤ t.cache.queue.length) ∧
  (∀ (s : State) (i : Fin 2), ∃ cells, appearanceStep i s = s.setPlan i { s.plan i with cells := cells } ∧
    cells.length = (s.plan i).cells.length ∧
    ∀ (n : Nat) (c : Cell), (s.plan i).cells[n]? = some c → ∃ a, cells[n]? = some { c with appearance := a } ∧
      let resident := ∃ x k, c.ident = some x ∧ s.cache.slotOf x = some k ∧ (s.cache.slot k).state = .resident
      (¬ drawn c.appearance → a = c.appearance) ∧
      (c.appearance = .waiting → (resident → a = .fading 1) ∧ (¬ resident → a = .waiting)) ∧
      (∀ k, c.appearance = .fading k → resident → (k < 7 → a = .fading (k + 1)) ∧ (7 ≤ k → a = .shown)) ∧
      (c.appearance = .shown → resident → a = .shown)) ∧
  (∀ (s : State) (i : Fin 2),
    let p := s.plan i
    ∃ x, openPass i s = s.setComp i { s.compScreen i with context := some x } ∧
      x.shot.plan = p.live ∧ x.shot.position = p.scroll.position ∧ x.shot.focus = p.focus ∧
      x.shot.fade = p.transition.level ∧ x.shot.matrix = (s.compScreen i).matrix ∧
      x.shot.cells.length = p.cells.length ∧
      (∀ (n : Nat) (c : Cell), p.cells[n]? = some c → ∃ k, x.shot.cells[n]? = some ⟨c.index, c.appearance, k, c.tint⟩ ∧
        (drawn c.appearance → c.appearance ≠ .waiting → k = c.ident.bind s.cache.slotOf) ∧
        (¬ drawn c.appearance ∨ c.appearance = .waiting → k = none)) ∧
      (∀ v : Fin 3, match p.posters.get v with
        | none => x.shot.posters.get v = .black
        | some q =>
          let held := fun k : Nat => q.usable = true ∧ q.ident.bind s.cache.slotOf = some k ∧ (s.cache.slot k).state = .resident
          (∀ k, held k → x.shot.posters.get v = .slot k) ∧
            ((∀ k, ¬ held k) → x.shot.posters.get v = match q.tint with | some tint => .tint tint | none => .black)) ∧
      x.views = [shown s]) ∧
  ∀ (s : State) (i : Fin 2), s.power.resetLow = false → (s.screen i).state = .running →
    let c := s.screen i
    (c.frameTimer = true → ∀ lanesFirst : Bool, ∃ t, exec (.vblank i lanesFirst) s = .next t ∧
      t.screen (1 - i) = s.screen (1 - i) ∧
      (c.back = .free → t.screen i = { c with back := .composing, passCount := (c.passCount + 1) % 4294967296 } ∧
        (t.compScreen i).context.isSome = true) ∧
      (c.back = .ready →
        t.screen i = { c with front1 := !c.front1, back := .composing, passCount := (c.passCount + 1) % 4294967296 } ∧
        (t.compScreen i).context.isSome = true) ∧
      (c.back = .composing → t.screen i = { c with missed := min 65535 (c.missed + 1) } ∧ t.plans = s.plans ∧
        t.light = s.light ∧ t.power = s.power)) ∧
    ∀ (x : PassContext) (m : DrawMoments), c.back = .composing → (s.compScreen i).context = some x →
      exec (.passComplete i m) s = .next ((s.setScreen i { c with
          back := .ready
          buffers := c.buffers.set (if c.front1 then 0 else 1)
            (.drawn (drawPass s.cache x ⟨0, 0, c.active.width, c.active.height⟩ m)) }).setComp i
        { s.compScreen i with context := none })

/-- The panel sequences turn signal and power on and off in their steps; a sequence that ends RUNNING or OFF as wanted reports the
target, and the report that ends a change of power state sends the deferred SET_POWER reply; SCREEN_STATUS reports the screen
(R92 to R94, R101, R165, R167). -/
def Obligations.PanelSequencesRun : Prop :=
  let reported := fun (s t : State) (i : Fin 2) =>
    (s.power.changing = false → t.power = s.power ∧ t.link = s.link) ∧
      (s.power.changing = true → s.power.reached.get (1 - i) = false →
        t.power = { s.power with reached := s.power.reached.set i true } ∧ t.link = s.link) ∧
      (s.power.changing = true → s.power.reached.get (1 - i) = true →
        t.power = { s.power with reached := s.power.reached.set i true, changing := false, setPowerTag := none } ∧
        t.link = match s.power.setPowerTag with
          | some tag => s.link.fillPlace (replyMsg 0x08 tag .ok [byteOf s.power.state.code] .nothing)
          | none => s.link)
  (∀ (s : State) (i : Fin 2), s.power.resetLow = false →
    let c := s.screen i
    (c.state = .waking → c.sequence = some .wake20 → exec (.panelSignalOn i) s =
      .next (s.setScreen i { c with videoSignal := true, sequence := some .wake100 })) ∧
    (c.state = .waking → c.sequence = some .wake100 →
      (c.wantedOn = true → ∃ t, exec (.powerUpEnd i) s = .next t ∧
        t.screen i = { c with state := .running, sequence := none, frameTimer := true } ∧
        t.screen (1 - i) = s.screen (1 - i) ∧ t.light = s.light ∧ t.plans = s.plans ∧ reported s t i) ∧
      (c.wantedOn = false → exec (.powerUpEnd i) s =
        .next (s.setScreen i { c with state := .sleeping, sequence := some .sleep50, frameTimer := false, back := .free }))) ∧
    (c.state = .sleeping → c.sequence = some .sleep50 → exec (.panelSignalOff i) s =
      .next (s.setScreen i { c with videoSignal := false, sequence := some .sleep20 })) ∧
    (c.state = .sleeping → c.sequence = some .sleep20 →
      (c.wantedOn = true → exec (.powerDownEnd i) s = .next (s.setScreen i { c with
        state := .waking, sequence := some .wake20, buffers := ⟨.black, .black⟩, back := .free, powerEnable := true })) ∧
      (c.wantedOn = false → ∃ t, exec (.powerDownEnd i) s = .next t ∧
        t.screen i = { c with state := .off, sequence := none, powerEnable := false } ∧
        t.screen (1 - i) = s.screen (1 - i) ∧ t.light = s.light ∧ t.plans = s.plans ∧ reported s t i))) ∧
  ∀ (s : State) (tag n : Nat), s.takes tag →
    (2 ≤ n → exec (.screenStatus tag n) s = .next (answered 0x48 tag .badParam [] s)) ∧
    ∀ i : Fin 2, n = i.val →
      let c := s.screen i
      exec (.screenStatus tag n) s = .next (answered 0x48 tag .ok
        ([byteOf c.state.code, flagByte c.wantedOn] ++ beBytes 2 c.active.width ++ beBytes 2 c.active.height ++
          [byteOf c.active.rate, byteOf c.back.code] ++ beBytes 2 c.missed ++ beBytes 4 c.passCount) s)

/-- LANE_PLAY is refused in the order of R65, and otherwise the lane is reinitialised and primes with the record and the pending reply
of R66, its first header read placed with the arbiter in class LANE (R65, R66, R67). That the header read is as long as the
record's unit count says (log entry 32), in reads as large as the rules allow (log entry 19), is the model's reading. -/
def Obligations.LanePlayIsCheckedAndPrimes : Prop :=
  ∀ (s : State) (tag lane clock action loops title stall : Nat), s.takes tag →
    let play := exec (.lanePlay tag lane clock action loops title stall) s
    let refuse := fun st : Status => Host.Outcome.next (φ := Fault) (ρ := Refusal) (answered 0x40 tag st [] s)
    (3 ≤ lane ∨ 2 ≤ clock ∨ 4 ≤ action → play = refuse .badParam) ∧
    ∀ (l : Fin 3) (i : Fin 2) (e : EndAction), lane = l.val → clock = i.val → action = e.code →
      ((s.lane l).state = .priming ∨ (s.lane l).state = .playing ∨ (s.lane l).state = .starved → play = refuse .busy) ∧
      ((s.lane l).state = .idle ∨ (s.lane l).state = .held ∨ (s.lane l).state = .ended →
        ((∀ x ∈ s.catalog.titles, x.number = title → x.clipKey = 0) → play = refuse .noSuch) ∧
        ∀ (x : TitleRec) (a : Asset), s.catalog.titles.find? (·.number == title) = some x → x.clipKey ≠ 0 →
          s.catalog.pool.find? (fun a => a.inLive && a.key == x.clipKey) = some a →
          (a.damaged = true → play = refuse .damaged) ∧
          (a.damaged = false →
            (s.running i = false → play = refuse .notNow) ∧
            (s.running i = true →
              (s.store.state = .offline ∨ s.store.state = .absent ∨ s.store.state = .mounting →
                play = refuse .storeOffline) ∧
              (s.store.state = .online ∨ s.store.state = .readOnly →
                ∃ t r, play = .next t ∧ t.lane l = r ∧ r.state = .priming ∧ r.title = title ∧ r.clip = some a.uid ∧
                  r.clockScreen = i ∧ r.endAction = e ∧ r.loops = loops ∧ r.stallLimit = max 500 (min 10000 stall) ∧
                  r.stallTimer = some r.stallLimit ∧ r.clock = 0 ∧ r.readPos = ⟨0, 0⟩ ∧ r.decodePos = ⟨0, 0⟩ ∧
                  r.readingStopped = false ∧ r.skipping = false ∧ r.ready = false ∧ r.finalPass = none ∧ r.demand = true ∧
                  r.ring = [] ∧ r.fill = 0 ∧ r.queue = [] ∧ r.onShow = none ∧ r.skipped = 0 ∧ r.heldCause = none ∧
                  r.endedReason = none ∧ r.pendingTag = some tag ∧
                  (∀ m : Fin 3, m ≠ l → t.lane m = s.lane m) ∧
                  (∀ b ∈ t.catalog.pool, b.uid = a.uid →
                    ∃ c ∈ s.catalog.pool, c.uid = a.uid ∧ b = { c with readers := c.readers + 1 }) ∧
                  (∀ (run : Run) (more : List Run),
                    readRuns (takePages (pagesFor (12 + 10 * a.desc.units)) a.extents) = run :: more →
                    r.header = some { rest := more, data := [] } ∧ s.store.placed (.laneHeader l) .lane (.pageRead run) t.store ∧
                      t.store = { s.store with arbiter := t.store.arbiter, heldBack := t.store.heldBack }) ∧
                  t.link = (holdPlace s).link ∧ t.plans = s.plans ∧ t.cache = s.cache ∧ t.screens = s.screens))))

/-- LANE_STOP sends a lane to IDLE by its state, the clip's reader released at once or, where an operation of the lane is in progress,
at the end of that operation, whose data no lane takes; LANE_STATUS reports the lane record (R82, R83, R84, R106). -/
def Obligations.LaneStopAndStatus : Prop :=
  (∀ (s : State) (l : Fin 3) (p : PortOp) (run : Run) (pages : List PageRead) (uid : Nat) (a : Asset),
    s.power.resetLow = false → s.store.port = some p → p.op = .pageRead run → p.orphan = true → p.releaseReader = some uid →
    pages.length = run.count → pages.all readable = true → s.store.mount = .none → s.catalog.record uid = some a →
    ∀ c : Instr, (c = .laneReadDone l pages ∧ p.purpose = .laneUnits l ∨ c = .laneHeaderReadDone l pages ∧ p.purpose = .laneHeader l) →
      ∃ t, exec c s = .next t ∧ t.store.port = none ∧ t.lanes = s.lanes ∧ t.link = s.link ∧
        t.catalog.record uid = a.afterRelease ∧
        ∀ w ∈ s.store.heldBack, clientOf w.purpose = .lane l → w ∈ t.store.arbiter) ∧
  ∀ (s : State) (tag lane : Nat), s.takes tag →
    (3 ≤ lane → exec (.laneStop tag lane) s = .next (answered 0x41 tag .badParam [] s) ∧
      exec (.laneStatus tag lane) s = .next (answered 0x42 tag .badParam [] s)) ∧
    ∀ l : Fin 3, lane = l.val →
      let r := s.lane l
      exec (.laneStatus tag lane) s = .next (answered 0x42 tag .ok
        ([byteOf r.state.code] ++ beBytes 2 r.title ++ [byteOf r.clockScreen.val, byteOf r.endAction.code, byteOf r.loops] ++
          beBytes 6 r.clock ++ beBytes 4 r.fill ++ [byteOf r.queue.length] ++
          (match r.onShow with | some p => beBytes 6 p.time | none => List.replicate 6 0xFF) ++
          beBytes 2 r.skipped ++ [byteOf (heldCode r.heldCause), byteOf (endedCode r.endedReason)]) s) ∧
      (r.state = .idle → exec (.laneStop tag lane) s = .next (eraserStep (answered 0x41 tag .ok [] s))) ∧
      (r.state = .held ∨ r.state = .ended → exec (.laneStop tag lane) s =
        .next ((eraserStep (answered 0x41 tag .ok [] (s.setLane l { r with state := .idle, title := 0, onShow := none }))).seenSince s)) ∧
      (r.state = .priming ∨ r.state = .playing ∨ r.state = .starved →
        ∃ t, exec (.laneStop tag lane) s = .next t ∧ (t.lane l).state = .idle ∧ (t.lane l).title = 0 ∧
          (t.lane l).clip = none ∧ (t.lane l).ring = [] ∧ (t.lane l).fill = 0 ∧ (t.lane l).queue = [] ∧
          (t.lane l).onShow = none ∧ (t.lane l).stallTimer = none ∧ (t.lane l).heldCause = r.heldCause ∧
          (t.lane l).endedReason = r.endedReason ∧ (t.lane l).pendingTag = none ∧
          (∀ m : Fin 3, m ≠ l → t.lane m = s.lane m) ∧ t.lanes.decoding ≠ some l ∧
          readerReleased l s t ∧
          t.link = (match r.pendingTag with
            | some old => (s.link.push (replyMsg 0x40 old .stopped [] .nothing)).fillPlace (replyMsg 0x41 tag .ok [] .nothing)
            | none => s.link.push (replyMsg 0x41 tag .ok [] .nothing)))

/-- A priming lane reads and checks its header; a lane that may read claims ring space for whole units and asks for their first pages,
and at the end of a pass loops or stops; an operation of the request asks for the next pages or puts the units in the ring, with
the corrupt flags its pages give, and the lane then deals with its decode position as ClipUnitsAreDecodedInTurn says (R67, R69,
R70, R71, R72, R201). That a read is as large as the rules allow is the model's choice (log entry 19). -/
def Obligations.LaneReadsFillTheRing : Prop :=
  let pagesOf := fun rs : List Run => rs.flatMap fun r => List.range' r.first r.count
  (∀ (rs : List Run) (n : Nat), pagesOf (readRuns rs) = pagesOf rs ∧ pagesOf (takePages n rs) = (pagesOf rs).take n ∧
    pagesOf (dropPages n rs) = (pagesOf rs).drop n ∧ pagesFor n = (n + 4095) / 4096 ∧
    ∀ r ∈ readRuns rs, r.count ≤ 16 ∧ ∃ q ∈ rs, q.first ≤ r.first ∧ r.first + r.count ≤ q.first + q.count) ∧
  (∀ (data : List Byte) (d : ClipDesc), clipHeaderOk data d = true ↔
    12 ≤ data.length ∧ fieldAt data 0 1 = 2 ∧ fieldAt data 1 1 = 0 ∧ fieldAt data 10 2 = 0 ∧ fieldAt data 2 2 = d.width ∧
    d.width ≤ 960 ∧ fieldAt data 4 2 = d.height ∧ d.height ≤ 540 ∧ 1500 ≤ fieldAt data 6 2 ∧ fieldAt data 6 2 ≤ 9000 ∧
    1 ≤ d.units ∧ d.units ≤ 8192 ∧ fieldAt data 8 2 = d.units) ∧
  (∀ (data : List Byte) (i : Nat), unitEntryAt data i =
    { offset := fieldAt data (12 + 10 * i) 4, length := fieldAt data (16 + 10 * i) 4
      isKey := decide (fieldAt data (20 + 10 * i) 1 = 0), cue := fieldAt data (21 + 10 * i) 1, corrupt := false }) ∧
  (∀ (data : List Byte) (n length : Nat), 0 < n →
    let e := unitEntryAt data
    (clipIndexOk data n length ((List.range n).map e) = true ↔
      12 + 10 * n ≤ data.length ∧ (∀ i, i < n → fieldAt data (20 + 10 * i) 1 ≤ 1) ∧
      (∀ i, i < n → 1 ≤ (e i).length ∧ (e i).length ≤ 262144) ∧
      (∀ i, i + 1 < n → (e i).offset + (e i).length ≤ (e (i + 1)).offset) ∧
      12 + 10 * n + (e (n - 1)).offset + (e (n - 1)).length ≤ length ∧ fieldAt data 20 1 = 0)) ∧
  (∀ es : List UnitEntry, es ≠ [] →
    let us := requestUnits es
    let total := (us.map (·.length)).sum
    us <+: es ∧ us ≠ [] ∧ (us.length = 1 ∨ total ≤ 65536) ∧
      ∀ e, es[us.length]? = some e → 65536 < total + e.length) ∧
  ∀ (s : State) (l : Fin 3), s.power.resetLow = false →
    let r := s.lane l
    (∀ (p : PortOp) (run : Run) (pages : List PageRead) (h : HeaderRead) (uid : Nat), s.store.port = some p →
      p.purpose = .laneHeader l → p.op = .pageRead run → p.orphan = false → p.releaseReader = none →
      pages.length = run.count → pages.all readable = true → s.store.mount = .none → r.header = some h → r.clip = some uid →
      let data := h.data ++ pages.flatMap pageBytes
      (∀ (n : Run) (more : List Run), h.rest = n :: more → s.store.heldBack = [] →
        ∃ t rest, exec (.laneHeaderReadDone l pages) s = .next t ∧
          (t.lane l).header = some { rest := more, data := data } ∧
          t.store.arbiter = s.store.arbiter ++ { purpose := .laneHeader l, cls := .lane, op := .pageRead n, passed := 0 } :: rest) ∧
      (∀ a : Asset, h.rest = [] → s.catalog.record uid = some a → clipHeaderOk data a.desc = true →
        clipIndexOk data a.desc.units a.length ((List.range a.desc.units).map (unitEntryAt data)) = true →
        ∃ t, exec (.laneHeaderReadDone l pages) s = .next t ∧ (t.lane l).header = none ∧
          (t.lane l).index = (List.range a.desc.units).map (unitEntryAt data) ∧ (t.lane l).state = r.state ∧
          (t.lane l).desc = ⟨a.desc.width, a.desc.height, fieldAt data 6 2, a.desc.units⟩)) ∧
    (∀ (p : PortOp) (run : Run) (pages : List PageRead) (h : HeaderRead) (uid : Nat) (a : Asset), s.store.port = some p →
      p.purpose = .laneHeader l → p.op = .pageRead run → p.orphan = false → p.releaseReader = none →
      pages.length = run.count → s.store.mount = .none → r.header = some h → r.clip = some uid → s.catalog.record uid = some a →
      let data := h.data ++ pages.flatMap pageBytes
      (pages.all readable = false ∨ h.rest = [] ∧ (clipHeaderOk data a.desc = false ∨
          clipIndexOk data a.desc.units a.length ((List.range a.desc.units).map (unitEntryAt data)) = false)) →
      ∃ t, exec (.laneHeaderReadDone l pages) s = .next t ∧ (t.lane l).state = .held ∧ (t.lane l).heldCause = some .damaged ∧
        (t.lane l).index = [] ∧ (t.lane l).clip = none ∧ (t.lane l).stallTimer = none ∧
        (s.link.helloSent = true → s.link.occupancy < 39 →
          ({ kind := 0xE4, tag := 0, payload := [byteOf l.val, 3] } : LinkMsg) ∈ t.link.queued) ∧
        ∀ tag, r.pendingTag = some tag → (t.lane l).pendingTag = none ∧ replyMsg 0x40 tag .damaged [] .nothing ∈ t.link.queued) ∧
    (r.mayRead = true ↔ (r.state = .priming ∨ r.state = .playing ∨ r.state = .starved) ∧ r.header = none ∧ r.index ≠ [] ∧
      r.demand = true ∧ r.readingStopped = false ∧ r.request = none) ∧
    (r.mayRead = false → exec (.laneReadIssue l) s = .next s) ∧
    (∀ (a : Asset) (uid : Nat), r.mayRead = true → r.clip = some uid → s.catalog.record uid = some a →
      r.readPos.unit < r.index.length →
      let us := requestUnits (r.index.drop r.readPos.unit)
      let total := (us.map (·.length)).sum
      (524287 < r.fill + total → exec (.laneReadIssue l) s = .next s) ∧
      (r.fill + total ≤ 524287 → r.desc.units = r.index.length →
        ∃ t, exec (.laneReadIssue l) s = .next t ∧ (t.lane l).fill = r.fill + total ∧ (t.lane l).request.isSome = true ∧
          (t.lane l).ring.length = r.ring.length + us.length ∧ (t.lane l).queue = r.queue ∧ (t.lane l).state = r.state ∧
          (t.lane l).demand = decide (r.fill + total < 458752) ∧
          (∀ (first last : UnitEntry) (run : Run) (more : List Run), us.head? = some first → us.getLast? = some last →
            let start := 12 + 10 * r.desc.units + first.offset
            let stop := 12 + 10 * r.desc.units + last.offset + last.length
            readRuns (takePages (pagesFor stop - start / 4096) (dropPages (start / 4096) a.extents)) = run :: more →
            (t.lane l).request = some { start := start, stop := stop, nextPage := start / 4096, rest := more, data := [] } ∧
              s.store.placed (.laneUnits l) .lane (.pageRead run) t.store) ∧
          (r.readPos.unit + us.length < r.desc.units →
            (t.lane l).readPos = ⟨r.readPos.unit + us.length, r.readPos.pass⟩ ∧ (t.lane l).readingStopped = false) ∧
          (r.readPos.unit + us.length = r.desc.units →
            (r.endAction = .loop → 1 ≤ r.loops → a.inLive = true → r.readPos.pass + 1 < 2 ^ 40 →
              (t.lane l).readPos = ⟨0, r.readPos.pass + 1⟩ ∧ (t.lane l).readingStopped = false ∧
                (t.lane l).loops = (if r.loops = 255 then 255 else r.loops - 1)) ∧
            (r.endAction ≠ .loop ∨ r.loops = 0 ∨ a.inLive = false →
              (t.lane l).readingStopped = true ∧ (t.lane l).finalPass = some r.readPos.pass ∧ (t.lane l).loops = r.loops ∧
                (t.lane l).endReason = some (if r.endAction = .loop ∧ 1 ≤ r.loops then .retired else .clipEnd))) ∧
          t.link = s.link ∧ t.catalog = s.catalog ∧ ∀ m : Fin 3, m ≠ l → t.lane m = s.lane m)) ∧
    ∀ (p : PortOp) (run : Run) (pages : List PageRead) (q : LaneRequest) (uid : Nat), s.store.port = some p →
      p.purpose = .laneUnits l → p.op = .pageRead run → p.orphan = false → p.releaseReader = none →
      pages.length = run.count → s.store.mount = .none → r.request = some q → r.clip = some uid →
      let base := 12 + 10 * r.desc.units
      let data := q.data ++ pages.flatMap pageBytes
      (pages.all readable = true → q.rest = [] →
        (r.state = .playing ∨ r.state = .starved ∨ r.state = .priming ∧ (r.decodePos.pass = 0 ∨ r.ready = true ∨ r.queue ≠ [])) →
        r.skipping = false → (∀ e ∈ r.index, e.corrupt = false) →
        ∃ t, exec (.laneReadDone l pages) s = .next t ∧ t.store.port = none ∧ (t.lane l).request = none ∧
          (∀ u ∈ (t.lane l).ring, u.arrived = true) ∧ (t.lane l).ring.length = r.ring.length ∧
          (∀ (n : Nat) (u : RingUnit) (e : UnitEntry), r.ring[n]? = some u → r.index[u.unit]? = some e →
            (t.lane l).ring[n]? = some (if u.arrived then u else
              { u with arrived := true, bytes := (data.drop (base + e.offset - 4096 * (q.start / 4096))).take u.length })) ∧
          (t.lane l).fill = r.fill ∧ (t.lane l).queue = r.queue ∧ (t.lane l).index = r.index ∧ (t.lane l).state = r.state) ∧
      (pages.all readable = true → q.rest = [] → s.store.heldBack = [] → p.releaseUnits = [] →
        ∃ ring, exec (.laneReadDone l pages) s = .next ((eraserStep (laneAdvance l
            ((s.setStore { s.store with port := none }).setLane l { r with request := none, ring := ring }))).seenSince s) ∧
          ring.map (fun u => (u.unit, u.pass, u.length)) = r.ring.map (fun u => (u.unit, u.pass, u.length)) ∧
          ∀ u ∈ ring, u.arrived = true) ∧
      (∀ (n : Run) (more : List Run), q.rest = n :: more → pages.all readable = true → s.store.heldBack = [] →
        r.state = .playing → r.skipping = false → (∀ e ∈ r.index, e.corrupt = false) →
        ∃ t rest, exec (.laneReadDone l pages) s = .next t ∧ (t.lane l).ring = r.ring ∧ (t.lane l).state = .playing ∧
          (t.lane l).request = some { q with nextPage := q.nextPage + run.count, rest := more, data := data } ∧
          t.store.arbiter = s.store.arbiter ++
            { purpose := .laneUnits l, cls := .lane, op := .pageRead n, passed := 0 } :: rest) ∧
      (r.state = .playing → ∃ t, exec (.laneReadDone l pages) s = .next t ∧ (t.lane l).state = .playing ∧
        (t.lane l).index.length = r.index.length ∧
        (∀ (n : Nat) (e : UnitEntry), r.index[n]? = some e → ∃ b, (t.lane l).index[n]? = some { e with corrupt := b } ∧
          (b = true ↔ e.corrupt = true ∨ q.start ≤ base + e.offset ∧ base + e.offset + e.length ≤ q.stop ∧
            ∃ m pg, pages[m]? = some pg ∧ readable pg = false ∧ base + e.offset < 4096 * (q.nextPage + m + 1) ∧
              4096 * (q.nextPage + m) < base + e.offset + e.length)) ∧
        ∀ (a : Asset) (pre post : List PageRead) (pg : PageRead), s.catalog.record uid = some a → pages = pre ++ pg :: post →
          pre.all readable = true → readable pg = false → (t.catalog.record uid).map (·.damaged) = some true ∧
            (a.damaged = true → t.link = s.link) ∧
            (a.damaged = false → t.link = (notice 0xE5 (beBytes 4 a.key ++ beBytes 4 a.check ++ [byteOf a.kind.code] ++
              beBytes 4 (run.first + pre.length)) s).link))

/-- The idle clip decoder takes the first eligible lane in turn; a decoded unit leaves the ring and its picture joins the queue, the
second of a lane in PRIMING or STARVED making it ready; a corrupt or failed unit starts the skipping to the next clean KEY, and a
pass without a picture ends priming DAMAGED; the stall timer of a lane in PRIMING or STARVED holds it when it expires (R68, R69,
R73, R74, R75, R76, R79, R80, R82). -/
def Obligations.ClipUnitsAreDecodedInTurn : Prop :=
  let next := fun r : Lane => if r.decodePos.unit + 1 < r.desc.units then (⟨r.decodePos.unit + 1, r.decodePos.pass⟩ : UnitPos)
    else ⟨0, r.decodePos.pass + 1⟩
  let taken := fun (r : Lane) (u : RingUnit) => { r with
    ring := r.ring.drop 1, fill := r.fill - u.length, decodePos := next r
    demand := if r.fill - u.length < 131072 then true else if 458752 ≤ r.fill - u.length then false else r.demand }
  let skipped := fun (r : Lane) (u : RingUnit) => { taken r u with skipping := true, skipped := min 65535 (r.skipped + 1) }
  let idle := fun s : State => { s with lanes := { s.lanes with decoding := none } }
  (∀ (r : Lane) (u : RingUnit), r.headUnit = some u ↔
    r.ring.head? = some u ∧ u.arrived = true ∧ u.unit = r.decodePos.unit ∧ u.pass = r.decodePos.pass) ∧
  (∀ (s : State) (l : Fin 3), s.lanes.decoding ≠ some l → (s.lane l).decodePos.pass + 1 < 2 ^ 40 →
    let r := s.lane l
    let fails := r.state = .priming ∧ r.ready = false ∧ r.queue = [] ∧ 0 < r.decodePos.pass
    let done := r.state = .priming ∧ (2 ≤ r.queue.length ∨ r.pastEnd = true ∧ 1 ≤ r.queue.length) ∨
      r.state = .starved ∧ (2 ≤ r.queue.length ∨ r.pastEnd = true)
    let tested := fun r : Lane => { r with
      ready := decide (r.ready = true ∨ done), stallTimer := if r.ready = false ∧ done then none else r.stallTimer }
    (fails →
      let t := laneAdvance l s
      (t.lane l).state = .held ∧ (t.lane l).heldCause = some .damaged ∧ (t.lane l).pendingTag = none ∧ (t.lane l).ring = [] ∧
        (t.lane l).stallTimer = none ∧ (t.lane l).clip = none ∧ readerReleased l s t ∧
        (∀ tag, r.pendingTag = some tag → replyMsg 0x40 tag .damaged [] .nothing ∈ t.link.queued) ∧
        (s.link.helloSent = true → s.link.occupancy < 40 →
          ({ kind := 0xE4, tag := 0, payload := [byteOf l.val, 3] } : LinkMsg) ∈ t.link.queued) ∧
        ∀ m : Fin 3, m ≠ l → t.lane m = s.lane m) ∧
    (¬ fails → ∀ (u : RingUnit) (e : UnitEntry), r.headUnit = some u → r.index[u.unit]? = some e →
      (e.corrupt = true ∨ r.skipping = true ∧ e.isKey = false → laneAdvance l s = laneAdvance l (s.setLane l (skipped r u))) ∧
      (r.skipping = true → e.corrupt = false → e.isKey = true →
        laneAdvance l s = s.setLane l (tested { r with skipping := false })) ∧
      (r.skipping = false → e.corrupt = false → laneAdvance l s = s.setLane l (tested r))) ∧
    (¬ fails → r.headUnit = none → laneAdvance l s = s.setLane l (tested r))) ∧
  ∀ s : State, s.power.resetLow = false →
    (∀ l : Fin 3, s.lanes.decoding = none →
      ((turnOrder s.lanes.lastServed).find? fun m => (s.lane m).eligible) = some l →
      exec .clipDecodeStart s = .next { s with lanes := { s.lanes with decoding := some l, lastServed := l } }) ∧
    (∀ m : Fin 3, turnOrder m = [m + 1, m + 2, m]) ∧
    (∀ l : Fin 3, (s.lane l).eligible = true ↔
      ((s.lane l).state = .priming ∨ (s.lane l).state = .playing ∨ (s.lane l).state = .starved) ∧
        (s.lane l).skipping = false ∧ (s.lane l).queue.length < 4 ∧
        ∃ u e, (s.lane l).ring.head? = some u ∧ u.arrived = true ∧ u.unit = (s.lane l).decodePos.unit ∧
          u.pass = (s.lane l).decodePos.pass ∧ (s.lane l).index[u.unit]? = some e ∧ e.corrupt = false) ∧
    (∀ (l : Fin 3) (u : RingUnit) (p : Picture) (e : UnitEntry), s.lanes.decoding = some l → (s.lane l).headUnit = some u →
      (s.lane l).active = true → p.width = (s.lane l).desc.width → p.height = (s.lane l).desc.height →
      (s.lane l).index[u.unit]? = some e → u.pass * (s.lane l).desc.units * (s.lane l).desc.period +
        u.unit * (s.lane l).desc.period < 2 ^ 48 →
      ∃ t, exec (.clipDecodeDone (some p)) s = .next t ∧ t.lanes.decoding = none ∧
        (t.lane l).queue = (s.lane l).queue ++ [{ unit := u.unit, pass := u.pass, cue := e.cue, picture := p
                                                  time := u.pass * (s.lane l).desc.units * (s.lane l).desc.period +
                                                    u.unit * (s.lane l).desc.period }] ∧
        (t.lane l).onShow = (s.lane l).onShow ∧ (t.lane l).clock = (s.lane l).clock ∧ t.link = s.link ∧
        (t.lane l).state = (s.lane l).state ∧
        ((s.lane l).state = .playing → (t.lane l).ready = (s.lane l).ready ∧ (t.lane l).stallTimer = (s.lane l).stallTimer) ∧
        ((s.lane l).state ≠ .playing →
          ((t.lane l).ready = true ↔
            (s.lane l).ready = true ∨ 2 ≤ (t.lane l).queue.length ∨ (t.lane l).pastEnd = true) ∧
          ((s.lane l).ready = false → (t.lane l).ready = true → (t.lane l).stallTimer = none)) ∧
        ∀ m : Fin 3, m ≠ l → t.lane m = s.lane m) ∧
    (∀ (l : Fin 3) (u : RingUnit), s.lanes.decoding = some l → (s.lane l).headUnit = some u →
      (s.lane l).decodePos.pass + 1 < 2 ^ 40 →
      let r := s.lane l
      (∀ (p : Picture) (e : UnitEntry), p.width = r.desc.width → p.height = r.desc.height → r.index[u.unit]? = some e →
        u.pass * r.desc.units * r.desc.period + u.unit * r.desc.period < 2 ^ 48 →
        exec (.clipDecodeDone (some p)) s = .next ((eraserStep (laneAdvance l ((idle s).setLane l { taken r u with
          queue := r.queue ++ [{ unit := u.unit, pass := u.pass, cue := e.cue, picture := p
                                 time := u.pass * r.desc.units * r.desc.period + u.unit * r.desc.period }] }))).seenSince s)) ∧
      ∀ result : Option Picture, (∀ p, result = some p → p.width ≠ r.desc.width ∨ p.height ≠ r.desc.height) →
        exec (.clipDecodeDone result) s = .next ((eraserStep (laneAdvance l ((idle s).setLane l (skipped r u)))).seenSince s)) ∧
    (∀ (l : Fin 3) (u : RingUnit), s.lanes.decoding = some l → (s.lane l).headUnit = some u →
      (s.lane l).state = .playing → (s.lane l).skipped < 65535 →
      ∃ t, exec (.clipDecodeDone none) s = .next t ∧ t.lanes.decoding = none ∧ (t.lane l).queue = (s.lane l).queue ∧
        (s.lane l).skipped + 1 ≤ (t.lane l).skipped ∧ t.link = s.link) ∧
    ∀ l : Fin 3, (s.lane l).stallTimer.isSome = true →
      ((s.lane l).state = .priming ∨ (s.lane l).state = .starved) →
      ∃ t, exec (.stallTimerExpiry l) s = .next t ∧ (t.lane l).state = .held ∧ (t.lane l).heldCause = some .stall ∧
        (t.lane l).title = (s.lane l).title ∧ (t.lane l).ring = [] ∧ (t.lane l).queue = [] ∧ (t.lane l).onShow = none ∧
        (t.lane l).pendingTag = none ∧ (t.lane l).stallTimer = none ∧ (t.lane l).clip = none ∧ t.lanes.decoding ≠ some l ∧
        (∀ tag, (s.lane l).pendingTag = some tag → replyMsg 0x40 tag .stalled [] .nothing ∈ t.link.queued) ∧
        (s.link.helloSent = true → s.link.occupancy < 40 →
          ({ kind := 0xE4, tag := 0, payload := [byteOf l.val, 1] } : LinkMsg) ∈ t.link.queued) ∧
        readerReleased l s t ∧ ∀ m : Fin 3, m ≠ l → t.lane m = s.lane m

/-- At a VBLANK of its clock screen a PLAYING lane advances its clock by the frame period and shows the latest due picture, starves or
ends, its clip's reader then released; a ready lane in PRIMING or STARVED enters PLAYING; display times and the end time are those
of R76 (R68, R76, R77, R78, R79, R81, R82). -/
def Obligations.PlayingLanesShowTheDuePicture : Prop :=
  (∀ (s : State) (i : Fin 2) (lanesFirst : Bool), s.power.resetLow = false → s.running i = true →
    (s.screen i).frameTimer = true → ∃ t, exec (.vblank i lanesFirst) s = .next t ∧ ∀ l : Fin 3,
      ((s.lane l).clockScreen = i → t.lane l = (laneVblank (90000 / (s.screen i).active.rate) l s).lane l) ∧
        ((s.lane l).clockScreen ≠ i → t.lane l = s.lane l)) ∧
  (∀ (d : ClipDesc) (q : UnitPos), q.pass * d.units * d.period + q.unit * d.period < 2 ^ 48 →
    displayTime d q = q.pass * d.units * d.period + q.unit * d.period) ∧
  (∀ r : Lane, (r.pastEnd = true ↔ ∃ k, r.finalPass = some k ∧ r.readingStopped = true ∧ k < r.decodePos.pass) ∧
    ∀ k, r.finalPass = some k → (k + 1) * r.desc.units * r.desc.period < 2 ^ 48 →
      r.endTime = (k + 1) * r.desc.units * r.desc.period) ∧
  ∀ (s : State) (l : Fin 3) (f : Nat),
    let r := s.lane l
    let t := laneVblank f l s
    let due := r.queue.takeWhile fun p => p.time ≤ r.clock + f
    let left := r.queue.drop due.length
    let shown := (due.getLast?).or r.onShow
    let cue := fun (passed : Byte) (u : State) (p : LanePicture) => if p.cue = 0 then u else
      notice 0xE2 ([byteOf l.val, byteOf p.cue, passed] ++ beBytes 5 p.pass ++ beBytes 6 p.time) u
    let cues := (due.getLast?.toList).foldl (cue 0) (due.dropLast.foldl (cue 1) s)
    (r.state = .playing → r.clock + f < 2 ^ 48 →
      let starves := r.queue = [] ∧ r.pastEnd = false ∧ displayTime r.desc r.decodePos ≤ r.clock + f
      let ends := left = [] ∧ r.pastEnd = true ∧ r.endTime ≤ r.clock + f
      due ++ left = r.queue ∧
      (starves → t = s.setLane l { r with state := .starved, stallTimer := some r.stallLimit }) ∧
      (¬ starves → ¬ ends →
        t = (s.setLane l { r with clock := r.clock + f, onShow := shown, queue := left }).setLink cues.link) ∧
      (¬ starves → ends → (t.lane l).endedReason = r.endReason ∧ (t.lane l).ring = [] ∧ (t.lane l).queue = [] ∧
        (t.lane l).clip = none ∧ readerReleased l s t ∧ (t.lane l).clock = r.clock + f ∧ (t.lane l).fill = 0 ∧ (t.lane l).index = [] ∧
        (r.endAction = .freeze ∨ r.endAction = .loop → (t.lane l).state = .ended ∧ (t.lane l).onShow = shown ∧
          (t.lane l).endAction = .freeze ∧ (t.lane l).title = r.title) ∧
        (r.endAction = .poster → (t.lane l).state = .ended ∧ (t.lane l).onShow = none ∧ (t.lane l).endAction = .poster ∧
          (t.lane l).title = r.title) ∧
        (r.endAction = .clear → (t.lane l).state = .idle ∧ (t.lane l).onShow = none ∧ (t.lane l).title = 0) ∧
        t.link = (notice 0xE3 [byteOf l.val, match r.endReason with
          | some .clipEnd => 1
          | some .retired => 2
          | some .power => 3
          | none => 0] cues).link)) ∧
    (r.state = .priming →
      (r.ready = false → t = s) ∧
      ∀ (p : LanePicture) (rest : List LanePicture), r.ready = true → r.queue = p :: rest →
        t.lane l = { r with state := .playing, clock := p.time, onShow := some p, queue := rest, ready := false
                            pendingTag := none } ∧
        t.link = (match r.pendingTag with
          | some tag => (cue 0 s p).link.fillPlace (replyMsg 0x40 tag .ok
              (beBytes 2 r.desc.width ++ beBytes 2 r.desc.height ++ beBytes 2 r.desc.period ++ beBytes 2 r.desc.units) .nothing)
          | none => (cue 0 s p).link)) ∧
    (r.state = .starved →
      (r.ready = false → t = s) ∧
      (r.ready = true → t = laneVblank f l (s.setLane l { r with state := .playing, ready := false }))) ∧
    (r.state = .idle ∨ r.state = .held ∨ r.state = .ended → t = s) ∧
    t.screens = s.screens ∧ t.plans = s.plans ∧ t.cache = s.cache ∧ ∀ m : Fin 3, m ≠ l → t.lane m = s.lane m

/-- LIGHT_MODE sets the mode and recomputes the target; LIGHT_STATUS reports the controller, the parts of screen 0 before those of
screen 1, which is the model's choice (log entry 44) (R158, R162, R163, R195). -/
def Obligations.LightModeAndStatus : Prop :=
  ∀ (s : State) (tag n mode level : Nat), s.takes tag →
    let temp := fun x : Sensor => [byteOf x.state.code, byteOf x.misses,
      match x.latest with | some t => byteOf (t % 256).toNat | none => 0x7F]
    let part := fun x : LightScreen => [flagByte x.manual] ++ beBytes 2 x.manualLevel ++
      [flagByte (!curveValid x.curve), byteOf x.curve.length] ++ beBytes 2 (s.light.modeValue x) ++ beBytes 2 x.cap ++
      beBytes 2 x.target ++ beBytes 2 x.output
    let percents := fun x : LightScreen => beBytes 2 (x.cap * 10000 / 65535) ++ beBytes 2 (x.target * 10000 / 65535) ++
      beBytes 2 (x.output * 10000 / 65535)
    (2 ≤ n ∨ 2 ≤ mode → exec (.lightMode tag n mode level) s = .next (answered 0x50 tag .badParam [] s)) ∧
    (∀ i : Fin 2, n = i.val → mode < 2 →
      let x := s.lightOf i
      let y : LightScreen := if mode = 1 then { x with manual := true, manualLevel := level } else { x with manual := false }
      let target := min (s.light.modeValue y) x.cap
      exec (.lightMode tag n mode level) s =
        .next (answered 0x50 tag .ok (beBytes 2 target ++ beBytes 2 x.cap) (s.setLight i { y with target := target }))) ∧
    exec (.lightStatus tag) s = .next (answered 0x51 tag .ok
      ((match s.light.filteredLux with | some x => beBytes 4 x | none => List.replicate 4 0xFF) ++
        [byteOf s.light.window.length, byteOf s.light.ambient.state.code, byteOf s.light.ambient.misses] ++
        temp s.light.temps.s0 ++ temp s.light.temps.s1 ++ part (s.lightOf 0) ++ part (s.lightOf 1) ++
        percents (s.lightOf 0) ++ percents (s.lightOf 1)) s)

/-- The sample timer begins three sensor reads; when the third ends, answered or missed, the sensor records, the SENSOR_STATE notices, the
caps, the targets and the outputs follow (R151, R152, R153, R154, R157, R158, R159). That SENSOR_STATE gives a negative ambient reading as
0 lux is the model's choice (log entry 38). -/
def Obligations.SamplesAreReadAndProcessed : Prop :=
  ∀ s : State, s.power.resetLow = false →
    (s.light.sampleTimer = true → s.light.port = .idle →
      exec .sampleTimer s = .next (s.setLightAll { s.light with port := .sample [] })) ∧
    (∀ (done : List (Option Int)) (v : Int), s.light.port = .sample done → done.length < 2 →
      exec (.sensorReadDone (some v)) s = .next (s.setLightAll { s.light with port := .sample (done ++ [some v]) }) ∧
        exec .sensorReadTimeout s = .next (s.setLightAll { s.light with port := .sample (done ++ [none]) })) ∧
    ∀ (a b c : Option Int), s.light.port = .sample [a, b] →
      let note := fun (sensor : Byte) (x y : Sensor) (reading : Int) (u : State) =>
        if x.state ≠ .fault ∧ y.state = .fault then notice 0xE7 [sensor, 2, 0xFF, 0xFF, 0xFF, 0xFF] u
        else if x.state = .fault ∧ y.state = .valid then notice 0xE7 ([sensor, 1] ++ beBytes 4 (twosOf 4 reading)) u
        else u
      let lux := max 0 (min 120000 (a.getD 0))
      let degrees := fun r : Option Int => max (-40) (min 125 (r.getD 0))
      ∃ t, exec (.sensorReadDone c) s = .next t ∧ (c = none → exec .sensorReadTimeout s = .next t) ∧ t.light.port = .idle ∧
        (∀ i : Fin 2,
          let x := s.light.temps.get i
          let y := t.light.temps.get i
          let r := if i = 0 then b else c
          (r.isSome = true → y = { state := .valid, misses := 0, latest := some (degrees r) }) ∧
          (r = none → (x.state = .fault → y = x) ∧
            (x.state ≠ .fault → x.misses < 7 → y = { x with misses := x.misses + 1 }) ∧
            (x.state ≠ .fault → x.misses = 7 → y = { x with state := .fault, misses := 8 }))) ∧
        (a = none → s.light.ambient.state = .fault → t.light.ambient = s.light.ambient ∧ t.light.window = s.light.window) ∧
        t.link = (note 2 s.light.temps.s1 t.light.temps.s1 (degrees c) (note 1 s.light.temps.s0 t.light.temps.s0 (degrees b)
          (note 0 s.light.ambient t.light.ambient lux s))).link ∧
        (∀ v : Int, a = some v → 0 ≤ v → t.light.ambient.state = .valid ∧ t.light.ambient.misses = 0 ∧
          t.light.window = (if s.light.window.length < 8 then s.light.window else s.light.window.drop 1) ++
            [(min v 120000).toNat]) ∧
        (a = none → (s.light.ambient.state ≠ .fault → s.light.ambient.misses < 7 → t.light.window = s.light.window ∧
            t.light.ambient.state = s.light.ambient.state ∧ t.light.ambient.misses = s.light.ambient.misses + 1) ∧
          (s.light.ambient.state ≠ .fault → s.light.ambient.misses = 7 → t.light.window = [] ∧
            t.light.ambient.state = .fault ∧ t.light.ambient.misses = 8)) ∧
        (∀ i : Fin 2, (t.lightOf i).cap = t.light.capOf (t.light.temps.get i) ∧
          (t.lightOf i).target = min (t.light.modeValue (t.lightOf i)) (t.lightOf i).cap ∧
          (t.lightOf i).output = (if s.running i then
            nextOutput (s.lightOf i).output (t.lightOf i).target (t.lightOf i).cap s.light.slew else 0) ∧
          (t.lightOf i).curve = (s.lightOf i).curve ∧ (t.lightOf i).manual = (s.lightOf i).manual) ∧
        t.screens = s.screens ∧ t.plans = s.plans ∧ t.catalog = s.catalog ∧ t.store = s.store ∧ t.lanes = s.lanes

/-- The thermal cap, the curve level, the mode value and the output follow the tables of R156 to R159, and a curve is VALID with two
breakpoints or more of strictly ascending lux (R155, R156, R157, R158, R159). -/
def Obligations.CapsTargetsAndOutputsFollowTheirTables : Prop :=
  (∀ c : List (Nat × Nat), (curveValid c = true ↔ 2 ≤ c.length ∧ (c.map (·.1)).Pairwise (· < ·)) ∧
    (ascending (c.map (·.1)) = true ↔ (c.map (·.1)).Pairwise (· < ·))) ∧
  (∀ (l : Light) (x : Sensor),
    (∀ t : Int, x.state = .valid → x.latest = some t →
      (t < l.derateStart → l.capOf x = 65535) ∧
        (l.derateStart ≤ t → (l.capOf x : Int) = max 6554 (65535 - (t - l.derateStart + 1) * l.derateStep))) ∧
      (x.state = .unknown ∨ x.state = .fault → l.capOf x = 32767)) ∧
  (∀ (pre post : List (Nat × Nat)) (a b : Nat × Nat) (x : Nat), ascending ((pre ++ a :: b :: post).map (·.1)) = true →
    a.1 ≤ x → x < b.1 →
    (curveLevel (pre ++ a :: b :: post) x : Int) =
      (a.2 : Int) + Int.tdiv (((b.2 : Int) - a.2) * ((x : Int) - a.1)) ((b.1 : Int) - a.1)) ∧
  (∀ (c : List (Nat × Nat)) (first last : Nat × Nat) (x : Nat), ascending (c.map (·.1)) = true → c.head? = some first →
    c.getLast? = some last → (x ≤ first.1 → curveLevel c x = first.2) ∧ (last.1 ≤ x → curveLevel c x = last.2)) ∧
  (∀ (l : Light) (x : LightScreen),
    (x.manual = true → l.modeValue x = x.manualLevel) ∧
      (x.manual = false → (curveValid x.curve = false ∨ l.window = []) → l.modeValue x = l.fallback) ∧
      (x.manual = false → curveValid x.curve = true → l.window ≠ [] →
        l.modeValue x = curveLevel x.curve (l.window.sum / l.window.length))) ∧
  ∀ o g c r : Nat, g ≤ c →
    (g < o → nextOutput o g c r = min c (max g (o - r))) ∧ (o < g → nextOutput o g c r = min g (o + r)) ∧
      (g = o → nextOutput o g c r = o) ∧ nextOutput o g c r ≤ c
end

