-- ==== Sys2Proof/Laws/Bytes.lean ====
section
/-!
SUPPORT. Laws of the big-endian fields (R195): lengths, and that a field reads back what was written at its place.
-/

namespace Sys2Proof.Machine

@[simp] theorem beBytes_length (w n : Nat) : (beBytes w n).length = w := by
  induction w generalizing n with
  | zero => rfl
  | succ w ih => simp [beBytes, ih]

@[simp] theorem rgbBytes_length (c : Rgb) : (rgbBytes c).length = 3 := rfl

@[simp] theorem fillBytes_length (f : Fill) : (fillBytes f).length = 4 := rfl

@[simp] theorem rectBytes_length (r : Rect) : (rectBytes r).length = 8 := by simp [rectBytes]

theorem byteOf_toNat {n : Nat} (h : n < 256) : (byteOf n).toNat = n := by
  simp only [byteOf, BitVec.toNat_ofNat]; omega

theorem beNat_snoc (l : List Byte) (b : Byte) : beNat (l ++ [b]) = beNat l * 256 + b.toNat := by
  simp [beNat]

theorem beNat_lt (l : List Byte) : beNat l < 256 ^ l.length := by
  induction l using List.reverseRecOn with
  | nil => simp [beNat]
  | append_singleton l b ih =>
    have hb : b.toNat < 256 := b.isLt
    rw [beNat_snoc, List.length_append, List.length_singleton, Nat.pow_succ]
    omega

theorem beNat_append (a b : List Byte) : beNat (a ++ b) = beNat a * 256 ^ b.length + beNat b := by
  induction b using List.reverseRecOn with
  | nil => simp [beNat]
  | append_singleton b x ih =>
    rw [← List.append_assoc, beNat_snoc, beNat_snoc, ih, List.length_append, List.length_singleton, Nat.pow_succ]
    ring

theorem beNat_beBytes {w n : Nat} (h : n < 256 ^ w) : beNat (beBytes w n) = n := by
  induction w generalizing n with
  | zero => simp only [Nat.pow_zero, Nat.lt_one_iff] at h; simp [beBytes, beNat, h]
  | succ w ih =>
    have hq : n / 256 < 256 ^ w := by
      rw [Nat.pow_succ] at h
      exact Nat.div_lt_of_lt_mul (by rw [Nat.mul_comm]; exact h)
    rw [beBytes, beNat_snoc, ih hq]
    simp only [byteOf, BitVec.toNat_ofNat]
    omega

/-- A field that begins after a prefix is a field of the rest. -/
theorem fieldAt_append_right (a b : List Byte) (o w : Nat) (h : a.length ≤ o) :
    fieldAt (a ++ b) o w = fieldAt b (o - a.length) w := by
  simp [fieldAt, List.drop_append, List.drop_eq_nil_of_le h]

/-- A field that ends within a prefix is a field of the prefix. -/
theorem fieldAt_append_left (a b : List Byte) (o w : Nat) (h : o + w ≤ a.length) :
    fieldAt (a ++ b) o w = fieldAt a o w := by
  have h1 : o ≤ a.length := by omega
  have h2 : w ≤ (a.drop o).length := by simp; omega
  rw [fieldAt, fieldAt, List.drop_append_of_le_length h1, List.take_append_of_le_length h2]

/-- A written field reads back. -/
theorem fieldAt_beBytes {w n : Nat} (h : n < 256 ^ w) : fieldAt (beBytes w n) 0 w = n := by
  have hl : (beBytes w n).take w = beBytes w n := List.take_of_length_le (by simp)
  rw [fieldAt, List.drop_zero, hl, beNat_beBytes h]

/-- A signed value reads back from its two's complement number (R195). -/
theorem signedOf_twosOf {w : Nat} {i : Int} (lo : -((256 ^ w : Nat) : Int) ≤ 2 * i)
    (hi : 2 * i < ((256 ^ w : Nat) : Int)) : signedOf w (twosOf w i) = i := by
  have hpos : 0 < 256 ^ w := Nat.pow_pos (by norm_num)
  generalize hm : 256 ^ w = m at *
  simp only [signedOf, twosOf, hm]
  rcases lt_or_ge i 0 with h | h
  · have hmod : i % (m : Int) = i + m := by
      rw [← Int.add_emod_right, Int.emod_eq_of_lt (by omega) (by omega)]
    rw [hmod]
    split <;> omega
  · have hmod : i % (m : Int) = i := Int.emod_eq_of_lt h (by omega)
    rw [hmod]
    split <;> omega

/-- A two's complement number fits its width. -/
theorem twosOf_lt (w : Nat) (i : Int) : twosOf w i < 256 ^ w := by
  have hpos : 0 < 256 ^ w := Nat.pow_pos (by norm_num)
  have h1 := Int.emod_nonneg i (b := ((256 ^ w : Nat) : Int)) (by omega)
  have h2 := Int.emod_lt_of_pos i (b := ((256 ^ w : Nat) : Int)) (by omega)
  simp only [twosOf]; omega

/-- A page's bytes are 4,096 (R129). -/
theorem pageBytes_length (p : PageRead) : (pageBytes p).length = 4096 := by
  simp [pageBytes]; omega

end Sys2Proof.Machine
end

