-- ==== Sys2Proof/Laws/State.lean ====
section
/-!
SUPPORT. One lemma per field per update of State, true by unfolding and tagged for simp, so that no later proof unfolds an
update; and reading back what was written, for the pairs and triples of screens and lanes.
-/

namespace Sys2Proof.Machine

variable (s : State)

/-! ### Pairs and triples -/

@[simp] theorem Two.get_set_same {α : Type} (t : Two α) (i : Fin 2) (v : α) : (t.set i v).get i = v := by
  match i with
  | 0 => rfl
  | 1 => rfl

theorem Two.get_set_other {α : Type} (t : Two α) {i j : Fin 2} (v : α) (h : j ≠ i) : (t.set i v).get j = t.get j := by
  match i, j, h with
  | 0, 1, _ => rfl
  | 1, 0, _ => rfl
  | 0, 0, h => exact absurd rfl h
  | 1, 1, h => exact absurd rfl h

theorem Two.get_set {α : Type} (t : Two α) (i j : Fin 2) (v : α) : (t.set i v).get j = if j = i then v else t.get j := by
  by_cases h : j = i
  · subst h; simp
  · simp [Two.get_set_other _ _ h, h]

@[simp] theorem Two.set_get {α : Type} (t : Two α) (i : Fin 2) : t.set i (t.get i) = t := by
  match i with
  | 0 => rfl
  | 1 => rfl

@[simp] theorem Two.set_set {α : Type} (t : Two α) (i : Fin 2) (v w : α) : (t.set i v).set i w = t.set i w := by
  match i with
  | 0 => rfl
  | 1 => rfl

@[simp] theorem Three.get_set_same {α : Type} (t : Three α) (i : Fin 3) (v : α) : (t.set i v).get i = v := by
  match i with
  | 0 => rfl
  | 1 => rfl
  | 2 => rfl

theorem Three.get_set {α : Type} (t : Three α) (i j : Fin 3) (v : α) :
    (t.set i v).get j = if j = i then v else t.get j := by
  match i, j with
  | 0, 0 => rfl
  | 0, 1 => rfl
  | 0, 2 => rfl
  | 1, 0 => rfl
  | 1, 1 => rfl
  | 1, 2 => rfl
  | 2, 0 => rfl
  | 2, 1 => rfl
  | 2, 2 => rfl

/-! ### setLink -/

@[simp] theorem State.setLink_link (l : Link) : (s.setLink l).link = l := rfl
@[simp] theorem State.setLink_plans (l : Link) : (s.setLink l).plans = s.plans := rfl
@[simp] theorem State.setLink_comp (l : Link) : (s.setLink l).comp = s.comp := rfl
@[simp] theorem State.setLink_cache (l : Link) : (s.setLink l).cache = s.cache := rfl
@[simp] theorem State.setLink_lanes (l : Link) : (s.setLink l).lanes = s.lanes := rfl
@[simp] theorem State.setLink_screens (l : Link) : (s.setLink l).screens = s.screens := rfl
@[simp] theorem State.setLink_catalog (l : Link) : (s.setLink l).catalog = s.catalog := rfl
@[simp] theorem State.setLink_store (l : Link) : (s.setLink l).store = s.store := rfl
@[simp] theorem State.setLink_light (l : Link) : (s.setLink l).light = s.light := rfl
@[simp] theorem State.setLink_power (l : Link) : (s.setLink l).power = s.power := rfl
@[simp] theorem State.setLink_pending (l : Link) : (s.setLink l).pending = s.pending := rfl

/-! ### setPlan -/

@[simp] theorem State.setPlan_link (i : Fin 2) (p : PlanScreen) : (s.setPlan i p).link = s.link := rfl
@[simp] theorem State.setPlan_plans (i : Fin 2) (p : PlanScreen) : (s.setPlan i p).plans = s.plans.set i p := rfl
@[simp] theorem State.setPlan_comp (i : Fin 2) (p : PlanScreen) : (s.setPlan i p).comp = s.comp := rfl
@[simp] theorem State.setPlan_cache (i : Fin 2) (p : PlanScreen) : (s.setPlan i p).cache = s.cache := rfl
@[simp] theorem State.setPlan_lanes (i : Fin 2) (p : PlanScreen) : (s.setPlan i p).lanes = s.lanes := rfl
@[simp] theorem State.setPlan_screens (i : Fin 2) (p : PlanScreen) : (s.setPlan i p).screens = s.screens := rfl
@[simp] theorem State.setPlan_catalog (i : Fin 2) (p : PlanScreen) : (s.setPlan i p).catalog = s.catalog := rfl
@[simp] theorem State.setPlan_store (i : Fin 2) (p : PlanScreen) : (s.setPlan i p).store = s.store := rfl
@[simp] theorem State.setPlan_light (i : Fin 2) (p : PlanScreen) : (s.setPlan i p).light = s.light := rfl
@[simp] theorem State.setPlan_power (i : Fin 2) (p : PlanScreen) : (s.setPlan i p).power = s.power := rfl
@[simp] theorem State.setPlan_pending (i : Fin 2) (p : PlanScreen) : (s.setPlan i p).pending = s.pending := rfl

/-! ### setComp -/

@[simp] theorem State.setComp_link (i : Fin 2) (c : CompScreen) : (s.setComp i c).link = s.link := rfl
@[simp] theorem State.setComp_plans (i : Fin 2) (c : CompScreen) : (s.setComp i c).plans = s.plans := rfl
@[simp] theorem State.setComp_comp (i : Fin 2) (c : CompScreen) : (s.setComp i c).comp = s.comp.set i c := rfl
@[simp] theorem State.setComp_cache (i : Fin 2) (c : CompScreen) : (s.setComp i c).cache = s.cache := rfl
@[simp] theorem State.setComp_lanes (i : Fin 2) (c : CompScreen) : (s.setComp i c).lanes = s.lanes := rfl
@[simp] theorem State.setComp_screens (i : Fin 2) (c : CompScreen) : (s.setComp i c).screens = s.screens := rfl
@[simp] theorem State.setComp_catalog (i : Fin 2) (c : CompScreen) : (s.setComp i c).catalog = s.catalog := rfl
@[simp] theorem State.setComp_store (i : Fin 2) (c : CompScreen) : (s.setComp i c).store = s.store := rfl
@[simp] theorem State.setComp_light (i : Fin 2) (c : CompScreen) : (s.setComp i c).light = s.light := rfl
@[simp] theorem State.setComp_power (i : Fin 2) (c : CompScreen) : (s.setComp i c).power = s.power := rfl
@[simp] theorem State.setComp_pending (i : Fin 2) (c : CompScreen) : (s.setComp i c).pending = s.pending := rfl

/-! ### setScreen -/

@[simp] theorem State.setScreen_link (i : Fin 2) (c : Screen) : (s.setScreen i c).link = s.link := rfl
@[simp] theorem State.setScreen_plans (i : Fin 2) (c : Screen) : (s.setScreen i c).plans = s.plans := rfl
@[simp] theorem State.setScreen_comp (i : Fin 2) (c : Screen) : (s.setScreen i c).comp = s.comp := rfl
@[simp] theorem State.setScreen_cache (i : Fin 2) (c : Screen) : (s.setScreen i c).cache = s.cache := rfl
@[simp] theorem State.setScreen_lanes (i : Fin 2) (c : Screen) : (s.setScreen i c).lanes = s.lanes := rfl
@[simp] theorem State.setScreen_screens (i : Fin 2) (c : Screen) : (s.setScreen i c).screens = s.screens.set i c := rfl
@[simp] theorem State.setScreen_catalog (i : Fin 2) (c : Screen) : (s.setScreen i c).catalog = s.catalog := rfl
@[simp] theorem State.setScreen_store (i : Fin 2) (c : Screen) : (s.setScreen i c).store = s.store := rfl
@[simp] theorem State.setScreen_light (i : Fin 2) (c : Screen) : (s.setScreen i c).light = s.light := rfl
@[simp] theorem State.setScreen_power (i : Fin 2) (c : Screen) : (s.setScreen i c).power = s.power := rfl
@[simp] theorem State.setScreen_pending (i : Fin 2) (c : Screen) : (s.setScreen i c).pending = s.pending := rfl

/-! ### setLight -/

@[simp] theorem State.setLight_link (i : Fin 2) (l : LightScreen) : (s.setLight i l).link = s.link := rfl
@[simp] theorem State.setLight_plans (i : Fin 2) (l : LightScreen) : (s.setLight i l).plans = s.plans := rfl
@[simp] theorem State.setLight_comp (i : Fin 2) (l : LightScreen) : (s.setLight i l).comp = s.comp := rfl
@[simp] theorem State.setLight_cache (i : Fin 2) (l : LightScreen) : (s.setLight i l).cache = s.cache := rfl
@[simp] theorem State.setLight_lanes (i : Fin 2) (l : LightScreen) : (s.setLight i l).lanes = s.lanes := rfl
@[simp] theorem State.setLight_screens (i : Fin 2) (l : LightScreen) : (s.setLight i l).screens = s.screens := rfl
@[simp] theorem State.setLight_catalog (i : Fin 2) (l : LightScreen) : (s.setLight i l).catalog = s.catalog := rfl
@[simp] theorem State.setLight_store (i : Fin 2) (l : LightScreen) : (s.setLight i l).store = s.store := rfl
@[simp] theorem State.setLight_light (i : Fin 2) (l : LightScreen) : (s.setLight i l).light = { s.light with screen := s.light.screen.set i l } := rfl
@[simp] theorem State.setLight_power (i : Fin 2) (l : LightScreen) : (s.setLight i l).power = s.power := rfl
@[simp] theorem State.setLight_pending (i : Fin 2) (l : LightScreen) : (s.setLight i l).pending = s.pending := rfl

/-! ### setLightAll -/

@[simp] theorem State.setLightAll_link (l : Light) : (s.setLightAll l).link = s.link := rfl
@[simp] theorem State.setLightAll_plans (l : Light) : (s.setLightAll l).plans = s.plans := rfl
@[simp] theorem State.setLightAll_comp (l : Light) : (s.setLightAll l).comp = s.comp := rfl
@[simp] theorem State.setLightAll_cache (l : Light) : (s.setLightAll l).cache = s.cache := rfl
@[simp] theorem State.setLightAll_lanes (l : Light) : (s.setLightAll l).lanes = s.lanes := rfl
@[simp] theorem State.setLightAll_screens (l : Light) : (s.setLightAll l).screens = s.screens := rfl
@[simp] theorem State.setLightAll_catalog (l : Light) : (s.setLightAll l).catalog = s.catalog := rfl
@[simp] theorem State.setLightAll_store (l : Light) : (s.setLightAll l).store = s.store := rfl
@[simp] theorem State.setLightAll_light (l : Light) : (s.setLightAll l).light = l := rfl
@[simp] theorem State.setLightAll_power (l : Light) : (s.setLightAll l).power = s.power := rfl
@[simp] theorem State.setLightAll_pending (l : Light) : (s.setLightAll l).pending = s.pending := rfl

/-! ### setCache -/

@[simp] theorem State.setCache_link (c : StillCache) : (s.setCache c).link = s.link := rfl
@[simp] theorem State.setCache_plans (c : StillCache) : (s.setCache c).plans = s.plans := rfl
@[simp] theorem State.setCache_comp (c : StillCache) : (s.setCache c).comp = s.comp := rfl
@[simp] theorem State.setCache_cache (c : StillCache) : (s.setCache c).cache = c := rfl
@[simp] theorem State.setCache_lanes (c : StillCache) : (s.setCache c).lanes = s.lanes := rfl
@[simp] theorem State.setCache_screens (c : StillCache) : (s.setCache c).screens = s.screens := rfl
@[simp] theorem State.setCache_catalog (c : StillCache) : (s.setCache c).catalog = s.catalog := rfl
@[simp] theorem State.setCache_store (c : StillCache) : (s.setCache c).store = s.store := rfl
@[simp] theorem State.setCache_light (c : StillCache) : (s.setCache c).light = s.light := rfl
@[simp] theorem State.setCache_power (c : StillCache) : (s.setCache c).power = s.power := rfl
@[simp] theorem State.setCache_pending (c : StillCache) : (s.setCache c).pending = s.pending := rfl

/-! ### setStore -/

@[simp] theorem State.setStore_link (st : Store) : (s.setStore st).link = s.link := rfl
@[simp] theorem State.setStore_plans (st : Store) : (s.setStore st).plans = s.plans := rfl
@[simp] theorem State.setStore_comp (st : Store) : (s.setStore st).comp = s.comp := rfl
@[simp] theorem State.setStore_cache (st : Store) : (s.setStore st).cache = s.cache := rfl
@[simp] theorem State.setStore_lanes (st : Store) : (s.setStore st).lanes = s.lanes := rfl
@[simp] theorem State.setStore_screens (st : Store) : (s.setStore st).screens = s.screens := rfl
@[simp] theorem State.setStore_catalog (st : Store) : (s.setStore st).catalog = s.catalog := rfl
@[simp] theorem State.setStore_store (st : Store) : (s.setStore st).store = st := rfl
@[simp] theorem State.setStore_light (st : Store) : (s.setStore st).light = s.light := rfl
@[simp] theorem State.setStore_power (st : Store) : (s.setStore st).power = s.power := rfl
@[simp] theorem State.setStore_pending (st : Store) : (s.setStore st).pending = s.pending := rfl

/-! ### setCatalog -/

@[simp] theorem State.setCatalog_link (c : Catalog) : (s.setCatalog c).link = s.link := rfl
@[simp] theorem State.setCatalog_plans (c : Catalog) : (s.setCatalog c).plans = s.plans := rfl
@[simp] theorem State.setCatalog_comp (c : Catalog) : (s.setCatalog c).comp = s.comp := rfl
@[simp] theorem State.setCatalog_cache (c : Catalog) : (s.setCatalog c).cache = s.cache := rfl
@[simp] theorem State.setCatalog_lanes (c : Catalog) : (s.setCatalog c).lanes = s.lanes := rfl
@[simp] theorem State.setCatalog_screens (c : Catalog) : (s.setCatalog c).screens = s.screens := rfl
@[simp] theorem State.setCatalog_catalog (c : Catalog) : (s.setCatalog c).catalog = c := rfl
@[simp] theorem State.setCatalog_store (c : Catalog) : (s.setCatalog c).store = s.store := rfl
@[simp] theorem State.setCatalog_light (c : Catalog) : (s.setCatalog c).light = s.light := rfl
@[simp] theorem State.setCatalog_power (c : Catalog) : (s.setCatalog c).power = s.power := rfl
@[simp] theorem State.setCatalog_pending (c : Catalog) : (s.setCatalog c).pending = s.pending := rfl

/-! ### setPower -/

@[simp] theorem State.setPower_link (p : Power) : (s.setPower p).link = s.link := rfl
@[simp] theorem State.setPower_plans (p : Power) : (s.setPower p).plans = s.plans := rfl
@[simp] theorem State.setPower_comp (p : Power) : (s.setPower p).comp = s.comp := rfl
@[simp] theorem State.setPower_cache (p : Power) : (s.setPower p).cache = s.cache := rfl
@[simp] theorem State.setPower_lanes (p : Power) : (s.setPower p).lanes = s.lanes := rfl
@[simp] theorem State.setPower_screens (p : Power) : (s.setPower p).screens = s.screens := rfl
@[simp] theorem State.setPower_catalog (p : Power) : (s.setPower p).catalog = s.catalog := rfl
@[simp] theorem State.setPower_store (p : Power) : (s.setPower p).store = s.store := rfl
@[simp] theorem State.setPower_light (p : Power) : (s.setPower p).light = s.light := rfl
@[simp] theorem State.setPower_power (p : Power) : (s.setPower p).power = p := rfl
@[simp] theorem State.setPower_pending (p : Power) : (s.setPower p).pending = s.pending := rfl

/-! ### setLane -/

@[simp] theorem State.setLane_link (l : Fin 3) (r : Lane) : (s.setLane l r).link = s.link := rfl
@[simp] theorem State.setLane_plans (l : Fin 3) (r : Lane) : (s.setLane l r).plans = s.plans := rfl
@[simp] theorem State.setLane_comp (l : Fin 3) (r : Lane) : (s.setLane l r).comp = s.comp := rfl
@[simp] theorem State.setLane_cache (l : Fin 3) (r : Lane) : (s.setLane l r).cache = s.cache := rfl
@[simp] theorem State.setLane_lanes (l : Fin 3) (r : Lane) : (s.setLane l r).lanes = { s.lanes with lane := s.lanes.lane.set l r } := rfl
@[simp] theorem State.setLane_screens (l : Fin 3) (r : Lane) : (s.setLane l r).screens = s.screens := rfl
@[simp] theorem State.setLane_catalog (l : Fin 3) (r : Lane) : (s.setLane l r).catalog = s.catalog := rfl
@[simp] theorem State.setLane_store (l : Fin 3) (r : Lane) : (s.setLane l r).store = s.store := rfl
@[simp] theorem State.setLane_light (l : Fin 3) (r : Lane) : (s.setLane l r).light = s.light := rfl
@[simp] theorem State.setLane_power (l : Fin 3) (r : Lane) : (s.setLane l r).power = s.power := rfl
@[simp] theorem State.setLane_pending (l : Fin 3) (r : Lane) : (s.setLane l r).pending = s.pending := rfl

/-! ### setGlyphMemory -/

@[simp] theorem State.setGlyphMemory_link (g : Option (List Byte)) : (s.setGlyphMemory g).link = s.link := rfl
@[simp] theorem State.setGlyphMemory_plans (g : Option (List Byte)) : (s.setGlyphMemory g).plans = s.plans := rfl
@[simp] theorem State.setGlyphMemory_comp (g : Option (List Byte)) : (s.setGlyphMemory g).comp = s.comp := rfl
@[simp] theorem State.setGlyphMemory_cache (g : Option (List Byte)) : (s.setGlyphMemory g).cache = s.cache := rfl
@[simp] theorem State.setGlyphMemory_lanes (g : Option (List Byte)) : (s.setGlyphMemory g).lanes = s.lanes := rfl
@[simp] theorem State.setGlyphMemory_screens (g : Option (List Byte)) : (s.setGlyphMemory g).screens = s.screens := rfl
@[simp] theorem State.setGlyphMemory_catalog (g : Option (List Byte)) : (s.setGlyphMemory g).catalog = { s.catalog with glyphs := g } := rfl
@[simp] theorem State.setGlyphMemory_store (g : Option (List Byte)) : (s.setGlyphMemory g).store = s.store := rfl
@[simp] theorem State.setGlyphMemory_light (g : Option (List Byte)) : (s.setGlyphMemory g).light = s.light := rfl
@[simp] theorem State.setGlyphMemory_power (g : Option (List Byte)) : (s.setGlyphMemory g).power = s.power := rfl
@[simp] theorem State.setGlyphMemory_pending (g : Option (List Byte)) : (s.setGlyphMemory g).pending = s.pending := rfl

/-! ### setIntake -/

@[simp] theorem State.setIntake_link (k : Intake) : (s.setIntake k).link = s.link := rfl
@[simp] theorem State.setIntake_plans (k : Intake) : (s.setIntake k).plans = s.plans := rfl
@[simp] theorem State.setIntake_comp (k : Intake) : (s.setIntake k).comp = s.comp := rfl
@[simp] theorem State.setIntake_cache (k : Intake) : (s.setIntake k).cache = s.cache := rfl
@[simp] theorem State.setIntake_lanes (k : Intake) : (s.setIntake k).lanes = s.lanes := rfl
@[simp] theorem State.setIntake_screens (k : Intake) : (s.setIntake k).screens = s.screens := rfl
@[simp] theorem State.setIntake_catalog (k : Intake) : (s.setIntake k).catalog = { s.catalog with intake := k } := rfl
@[simp] theorem State.setIntake_store (k : Intake) : (s.setIntake k).store = s.store := rfl
@[simp] theorem State.setIntake_light (k : Intake) : (s.setIntake k).light = s.light := rfl
@[simp] theorem State.setIntake_power (k : Intake) : (s.setIntake k).power = s.power := rfl
@[simp] theorem State.setIntake_pending (k : Intake) : (s.setIntake k).pending = s.pending := rfl

/-! ### setPublish -/

@[simp] theorem State.setPublish_link (p : Publish) : (s.setPublish p).link = s.link := rfl
@[simp] theorem State.setPublish_plans (p : Publish) : (s.setPublish p).plans = s.plans := rfl
@[simp] theorem State.setPublish_comp (p : Publish) : (s.setPublish p).comp = s.comp := rfl
@[simp] theorem State.setPublish_cache (p : Publish) : (s.setPublish p).cache = s.cache := rfl
@[simp] theorem State.setPublish_lanes (p : Publish) : (s.setPublish p).lanes = s.lanes := rfl
@[simp] theorem State.setPublish_screens (p : Publish) : (s.setPublish p).screens = s.screens := rfl
@[simp] theorem State.setPublish_catalog (p : Publish) : (s.setPublish p).catalog = { s.catalog with publish := some p } := rfl
@[simp] theorem State.setPublish_store (p : Publish) : (s.setPublish p).store = s.store := rfl
@[simp] theorem State.setPublish_light (p : Publish) : (s.setPublish p).light = s.light := rfl
@[simp] theorem State.setPublish_power (p : Publish) : (s.setPublish p).power = s.power := rfl
@[simp] theorem State.setPublish_pending (p : Publish) : (s.setPublish p).pending = s.pending := rfl

/-! ### setTest -/

@[simp] theorem State.setTest_link (t : SelfTest) : (s.setTest t).link = s.link := rfl
@[simp] theorem State.setTest_plans (t : SelfTest) : (s.setTest t).plans = s.plans := rfl
@[simp] theorem State.setTest_comp (t : SelfTest) : (s.setTest t).comp = s.comp := rfl
@[simp] theorem State.setTest_cache (t : SelfTest) : (s.setTest t).cache = s.cache := rfl
@[simp] theorem State.setTest_lanes (t : SelfTest) : (s.setTest t).lanes = s.lanes := rfl
@[simp] theorem State.setTest_screens (t : SelfTest) : (s.setTest t).screens = s.screens := rfl
@[simp] theorem State.setTest_catalog (t : SelfTest) : (s.setTest t).catalog = s.catalog := rfl
@[simp] theorem State.setTest_store (t : SelfTest) : (s.setTest t).store = s.store := rfl
@[simp] theorem State.setTest_light (t : SelfTest) : (s.setTest t).light = s.light := rfl
@[simp] theorem State.setTest_power (t : SelfTest) : (s.setTest t).power = { s.power with selfTest := some t } := rfl
@[simp] theorem State.setTest_pending (t : SelfTest) : (s.setTest t).pending = s.pending := rfl

/-! ### seenSince: what the passes in progress see of a command -/

@[simp] theorem State.seenSince_self : s.seenSince s = s := if_pos rfl
/-- A command that changes neither what a lane shows nor glyph memory adds nothing to a pass. -/
theorem State.seenSince_of_shows {t : State} (h : t.shows = s.shows) : t.seenSince s = t := if_pos h

@[simp] theorem State.seenSince_link (b : State) : (s.seenSince b).link = s.link := by unfold State.seenSince; split <;> rfl
@[simp] theorem State.seenSince_plans (b : State) : (s.seenSince b).plans = s.plans := by unfold State.seenSince; split <;> rfl
@[simp] theorem State.seenSince_cache (b : State) : (s.seenSince b).cache = s.cache := by unfold State.seenSince; split <;> rfl
@[simp] theorem State.seenSince_lanes (b : State) : (s.seenSince b).lanes = s.lanes := by unfold State.seenSince; split <;> rfl
@[simp] theorem State.seenSince_screens (b : State) : (s.seenSince b).screens = s.screens := by unfold State.seenSince; split <;> rfl
@[simp] theorem State.seenSince_catalog (b : State) : (s.seenSince b).catalog = s.catalog := by unfold State.seenSince; split <;> rfl
@[simp] theorem State.seenSince_store (b : State) : (s.seenSince b).store = s.store := by unfold State.seenSince; split <;> rfl
@[simp] theorem State.seenSince_light (b : State) : (s.seenSince b).light = s.light := by unfold State.seenSince; split <;> rfl
@[simp] theorem State.seenSince_power (b : State) : (s.seenSince b).power = s.power := by unfold State.seenSince; split <;> rfl
@[simp] theorem State.seenSince_pending (b : State) : (s.seenSince b).pending = s.pending := by unfold State.seenSince; split <;> rfl
@[simp] theorem State.plan_seenSince (b : State) (j : Fin 2) : (s.seenSince b).plan j = s.plan j := by unfold State.seenSince; split <;> rfl
@[simp] theorem State.screen_seenSince (b : State) (j : Fin 2) : (s.seenSince b).screen j = s.screen j := by unfold State.seenSince; split <;> rfl
@[simp] theorem State.running_seenSince (b : State) (j : Fin 2) : (s.seenSince b).running j = s.running j := by unfold State.seenSince; split <;> rfl
@[simp] theorem State.lightOf_seenSince (b : State) (j : Fin 2) : (s.seenSince b).lightOf j = s.lightOf j := by unfold State.seenSince; split <;> rfl
@[simp] theorem State.lane_seenSince (b : State) (j : Fin 3) : (s.seenSince b).lane j = s.lane j := by unfold State.seenSince; split <;> rfl

@[simp] theorem State.shows_setLink (l : Link) : (s.setLink l).shows = s.shows := rfl
@[simp] theorem State.shows_setPlan (i : Fin 2) (p : PlanScreen) : (s.setPlan i p).shows = s.shows := rfl
@[simp] theorem State.shows_setComp (i : Fin 2) (c : CompScreen) : (s.setComp i c).shows = s.shows := rfl
@[simp] theorem State.shows_setScreen (i : Fin 2) (c : Screen) : (s.setScreen i c).shows = s.shows := rfl
@[simp] theorem State.shows_setLight (i : Fin 2) (l : LightScreen) : (s.setLight i l).shows = s.shows := rfl
@[simp] theorem State.shows_setLightAll (l : Light) : (s.setLightAll l).shows = s.shows := rfl
@[simp] theorem State.shows_setCache (c : StillCache) : (s.setCache c).shows = s.shows := rfl
@[simp] theorem State.shows_setStore (st : Store) : (s.setStore st).shows = s.shows := rfl
@[simp] theorem State.shows_setPower (p : Power) : (s.setPower p).shows = s.shows := rfl
@[simp] theorem State.shows_setIntake (k : Intake) : (s.setIntake k).shows = s.shows := rfl
@[simp] theorem State.shows_setPublish (p : Publish) : (s.setPublish p).shows = s.shows := rfl
@[simp] theorem State.shows_setTest (t : SelfTest) : (s.setTest t).shows = s.shows := rfl

@[simp] theorem State.shows_setGlyphMemory (g : Option (List Byte)) : (s.setGlyphMemory g).shows = { s.shows with glyphs := g } := rfl
@[simp] theorem State.shows_setLane (l : Fin 3) (r : Lane) :
    (s.setLane l r).shows = { s.shows with lanes := s.shows.lanes.set l r.view } := by
  match l with
  | 0 => rfl
  | 1 => rfl
  | 2 => rfl

/-! ### What one screen or lane reads after an update -/

@[simp] theorem State.plan_setPlan (i : Fin 2) (p : PlanScreen) : (s.setPlan i p).plan i = p := Two.get_set_same _ _ _
@[simp] theorem State.screen_setScreen (i : Fin 2) (c : Screen) : (s.setScreen i c).screen i = c := Two.get_set_same _ _ _
@[simp] theorem State.compScreen_setComp (i : Fin 2) (c : CompScreen) : (s.setComp i c).compScreen i = c :=
  Two.get_set_same _ _ _
@[simp] theorem State.lightOf_setLight (i : Fin 2) (l : LightScreen) : (s.setLight i l).lightOf i = l :=
  Two.get_set_same _ _ _
@[simp] theorem State.lane_setLane (l : Fin 3) (r : Lane) : (s.setLane l r).lane l = r := Three.get_set_same _ _ _

@[simp] theorem State.plan_setLink (l : Link) (j : Fin 2) : (s.setLink l).plan j = s.plan j := rfl
@[simp] theorem State.plan_setComp (i : Fin 2) (c : CompScreen) (j : Fin 2) : (s.setComp i c).plan j = s.plan j := rfl
@[simp] theorem State.plan_setScreen (i : Fin 2) (c : Screen) (j : Fin 2) : (s.setScreen i c).plan j = s.plan j := rfl
@[simp] theorem State.plan_setLight (i : Fin 2) (l : LightScreen) (j : Fin 2) : (s.setLight i l).plan j = s.plan j := rfl
@[simp] theorem State.plan_setLightAll (l : Light) (j : Fin 2) : (s.setLightAll l).plan j = s.plan j := rfl
@[simp] theorem State.plan_setCache (c : StillCache) (j : Fin 2) : (s.setCache c).plan j = s.plan j := rfl
@[simp] theorem State.plan_setStore (st : Store) (j : Fin 2) : (s.setStore st).plan j = s.plan j := rfl
@[simp] theorem State.plan_setCatalog (c : Catalog) (j : Fin 2) : (s.setCatalog c).plan j = s.plan j := rfl
@[simp] theorem State.plan_setPower (p : Power) (j : Fin 2) : (s.setPower p).plan j = s.plan j := rfl
@[simp] theorem State.plan_setLane (l : Fin 3) (r : Lane) (j : Fin 2) : (s.setLane l r).plan j = s.plan j := rfl
@[simp] theorem State.plan_setGlyphMemory (g : Option (List Byte)) (j : Fin 2) : (s.setGlyphMemory g).plan j = s.plan j := rfl
@[simp] theorem State.plan_setIntake (k : Intake) (j : Fin 2) : (s.setIntake k).plan j = s.plan j := rfl
@[simp] theorem State.plan_setPublish (p : Publish) (j : Fin 2) : (s.setPublish p).plan j = s.plan j := rfl
@[simp] theorem State.plan_setTest (t : SelfTest) (j : Fin 2) : (s.setTest t).plan j = s.plan j := rfl

@[simp] theorem State.screen_setLink (l : Link) (j : Fin 2) : (s.setLink l).screen j = s.screen j := rfl
@[simp] theorem State.screen_setPlan (i : Fin 2) (p : PlanScreen) (j : Fin 2) : (s.setPlan i p).screen j = s.screen j := rfl
@[simp] theorem State.screen_setComp (i : Fin 2) (c : CompScreen) (j : Fin 2) : (s.setComp i c).screen j = s.screen j := rfl
@[simp] theorem State.screen_setLight (i : Fin 2) (l : LightScreen) (j : Fin 2) : (s.setLight i l).screen j = s.screen j := rfl
@[simp] theorem State.screen_setLightAll (l : Light) (j : Fin 2) : (s.setLightAll l).screen j = s.screen j := rfl
@[simp] theorem State.screen_setCache (c : StillCache) (j : Fin 2) : (s.setCache c).screen j = s.screen j := rfl
@[simp] theorem State.screen_setStore (st : Store) (j : Fin 2) : (s.setStore st).screen j = s.screen j := rfl
@[simp] theorem State.screen_setCatalog (c : Catalog) (j : Fin 2) : (s.setCatalog c).screen j = s.screen j := rfl
@[simp] theorem State.screen_setPower (p : Power) (j : Fin 2) : (s.setPower p).screen j = s.screen j := rfl
@[simp] theorem State.screen_setLane (l : Fin 3) (r : Lane) (j : Fin 2) : (s.setLane l r).screen j = s.screen j := rfl
@[simp] theorem State.screen_setGlyphMemory (g : Option (List Byte)) (j : Fin 2) : (s.setGlyphMemory g).screen j = s.screen j := rfl
@[simp] theorem State.screen_setIntake (k : Intake) (j : Fin 2) : (s.setIntake k).screen j = s.screen j := rfl
@[simp] theorem State.screen_setPublish (p : Publish) (j : Fin 2) : (s.setPublish p).screen j = s.screen j := rfl
@[simp] theorem State.screen_setTest (t : SelfTest) (j : Fin 2) : (s.setTest t).screen j = s.screen j := rfl

@[simp] theorem State.compScreen_setLink (l : Link) (j : Fin 2) : (s.setLink l).compScreen j = s.compScreen j := rfl
@[simp] theorem State.compScreen_setPlan (i : Fin 2) (p : PlanScreen) (j : Fin 2) : (s.setPlan i p).compScreen j = s.compScreen j := rfl
@[simp] theorem State.compScreen_setScreen (i : Fin 2) (c : Screen) (j : Fin 2) : (s.setScreen i c).compScreen j = s.compScreen j := rfl
@[simp] theorem State.compScreen_setLight (i : Fin 2) (l : LightScreen) (j : Fin 2) : (s.setLight i l).compScreen j = s.compScreen j := rfl
@[simp] theorem State.compScreen_setLightAll (l : Light) (j : Fin 2) : (s.setLightAll l).compScreen j = s.compScreen j := rfl
@[simp] theorem State.compScreen_setCache (c : StillCache) (j : Fin 2) : (s.setCache c).compScreen j = s.compScreen j := rfl
@[simp] theorem State.compScreen_setStore (st : Store) (j : Fin 2) : (s.setStore st).compScreen j = s.compScreen j := rfl
@[simp] theorem State.compScreen_setCatalog (c : Catalog) (j : Fin 2) : (s.setCatalog c).compScreen j = s.compScreen j := rfl
@[simp] theorem State.compScreen_setPower (p : Power) (j : Fin 2) : (s.setPower p).compScreen j = s.compScreen j := rfl
@[simp] theorem State.compScreen_setIntake (k : Intake) (j : Fin 2) : (s.setIntake k).compScreen j = s.compScreen j := rfl
@[simp] theorem State.compScreen_setPublish (p : Publish) (j : Fin 2) : (s.setPublish p).compScreen j = s.compScreen j := rfl
@[simp] theorem State.compScreen_setTest (t : SelfTest) (j : Fin 2) : (s.setTest t).compScreen j = s.compScreen j := rfl

@[simp] theorem State.running_setLink (l : Link) (j : Fin 2) : (s.setLink l).running j = s.running j := rfl
@[simp] theorem State.running_setPlan (i : Fin 2) (p : PlanScreen) (j : Fin 2) : (s.setPlan i p).running j = s.running j := rfl
@[simp] theorem State.running_setComp (i : Fin 2) (c : CompScreen) (j : Fin 2) : (s.setComp i c).running j = s.running j := rfl
@[simp] theorem State.running_setLight (i : Fin 2) (l : LightScreen) (j : Fin 2) : (s.setLight i l).running j = s.running j := rfl
@[simp] theorem State.running_setLightAll (l : Light) (j : Fin 2) : (s.setLightAll l).running j = s.running j := rfl
@[simp] theorem State.running_setCache (c : StillCache) (j : Fin 2) : (s.setCache c).running j = s.running j := rfl
@[simp] theorem State.running_setStore (st : Store) (j : Fin 2) : (s.setStore st).running j = s.running j := rfl
@[simp] theorem State.running_setCatalog (c : Catalog) (j : Fin 2) : (s.setCatalog c).running j = s.running j := rfl
@[simp] theorem State.running_setPower (p : Power) (j : Fin 2) : (s.setPower p).running j = s.running j := rfl
@[simp] theorem State.running_setLane (l : Fin 3) (r : Lane) (j : Fin 2) : (s.setLane l r).running j = s.running j := rfl
@[simp] theorem State.running_setGlyphMemory (g : Option (List Byte)) (j : Fin 2) : (s.setGlyphMemory g).running j = s.running j := rfl
@[simp] theorem State.running_setIntake (k : Intake) (j : Fin 2) : (s.setIntake k).running j = s.running j := rfl
@[simp] theorem State.running_setPublish (p : Publish) (j : Fin 2) : (s.setPublish p).running j = s.running j := rfl
@[simp] theorem State.running_setTest (t : SelfTest) (j : Fin 2) : (s.setTest t).running j = s.running j := rfl

@[simp] theorem State.lightOf_setLink (l : Link) (j : Fin 2) : (s.setLink l).lightOf j = s.lightOf j := rfl
@[simp] theorem State.lightOf_setPlan (i : Fin 2) (p : PlanScreen) (j : Fin 2) : (s.setPlan i p).lightOf j = s.lightOf j := rfl
@[simp] theorem State.lightOf_setComp (i : Fin 2) (c : CompScreen) (j : Fin 2) : (s.setComp i c).lightOf j = s.lightOf j := rfl
@[simp] theorem State.lightOf_setScreen (i : Fin 2) (c : Screen) (j : Fin 2) : (s.setScreen i c).lightOf j = s.lightOf j := rfl
@[simp] theorem State.lightOf_setCache (c : StillCache) (j : Fin 2) : (s.setCache c).lightOf j = s.lightOf j := rfl
@[simp] theorem State.lightOf_setStore (st : Store) (j : Fin 2) : (s.setStore st).lightOf j = s.lightOf j := rfl
@[simp] theorem State.lightOf_setCatalog (c : Catalog) (j : Fin 2) : (s.setCatalog c).lightOf j = s.lightOf j := rfl
@[simp] theorem State.lightOf_setPower (p : Power) (j : Fin 2) : (s.setPower p).lightOf j = s.lightOf j := rfl
@[simp] theorem State.lightOf_setLane (l : Fin 3) (r : Lane) (j : Fin 2) : (s.setLane l r).lightOf j = s.lightOf j := rfl
@[simp] theorem State.lightOf_setGlyphMemory (g : Option (List Byte)) (j : Fin 2) : (s.setGlyphMemory g).lightOf j = s.lightOf j := rfl
@[simp] theorem State.lightOf_setIntake (k : Intake) (j : Fin 2) : (s.setIntake k).lightOf j = s.lightOf j := rfl
@[simp] theorem State.lightOf_setPublish (p : Publish) (j : Fin 2) : (s.setPublish p).lightOf j = s.lightOf j := rfl
@[simp] theorem State.lightOf_setTest (t : SelfTest) (j : Fin 2) : (s.setTest t).lightOf j = s.lightOf j := rfl

@[simp] theorem State.lane_setLink (l : Link) (m : Fin 3) : (s.setLink l).lane m = s.lane m := rfl
@[simp] theorem State.lane_setPlan (i : Fin 2) (p : PlanScreen) (m : Fin 3) : (s.setPlan i p).lane m = s.lane m := rfl
@[simp] theorem State.lane_setComp (i : Fin 2) (c : CompScreen) (m : Fin 3) : (s.setComp i c).lane m = s.lane m := rfl
@[simp] theorem State.lane_setScreen (i : Fin 2) (c : Screen) (m : Fin 3) : (s.setScreen i c).lane m = s.lane m := rfl
@[simp] theorem State.lane_setLight (i : Fin 2) (l : LightScreen) (m : Fin 3) : (s.setLight i l).lane m = s.lane m := rfl
@[simp] theorem State.lane_setLightAll (l : Light) (m : Fin 3) : (s.setLightAll l).lane m = s.lane m := rfl
@[simp] theorem State.lane_setCache (c : StillCache) (m : Fin 3) : (s.setCache c).lane m = s.lane m := rfl
@[simp] theorem State.lane_setStore (st : Store) (m : Fin 3) : (s.setStore st).lane m = s.lane m := rfl
@[simp] theorem State.lane_setCatalog (c : Catalog) (m : Fin 3) : (s.setCatalog c).lane m = s.lane m := rfl
@[simp] theorem State.lane_setPower (p : Power) (m : Fin 3) : (s.setPower p).lane m = s.lane m := rfl
@[simp] theorem State.lane_setGlyphMemory (g : Option (List Byte)) (m : Fin 3) : (s.setGlyphMemory g).lane m = s.lane m := rfl
@[simp] theorem State.lane_setIntake (k : Intake) (m : Fin 3) : (s.setIntake k).lane m = s.lane m := rfl
@[simp] theorem State.lane_setPublish (p : Publish) (m : Fin 3) : (s.setPublish p).lane m = s.lane m := rfl
@[simp] theorem State.lane_setTest (t : SelfTest) (m : Fin 3) : (s.setTest t).lane m = s.lane m := rfl

end Sys2Proof.Machine
end

