-- ==== Sys2Proof/Laws/Ops.lean ====
section
/-!
SUPPORT. One lemma per shared operation that says once what it does: the gate of a request, the reply, the notice, the
transmitter, and the frames of the operations through which blocks change other blocks.
-/

namespace Sys2Proof.Machine

/-! ### The gate -/

theorem live_of_live {act : State → State} {s : State} (h : s.power.resetLow = false) :
    live act s = .next ((act s).seenSince s) := by
  simp [live, whenLive, h]

theorem live_of_held {act : State → State} {s : State} (h : s.power.resetLow = true) : live act s = .next s := by
  simp [live, whenLive, h]

/-- A command that changes neither what a lane shows nor glyph memory is its step alone (R35, R39). -/
theorem live_of_shows {act : State → State} {s : State} (h : s.power.resetLow = false) (hs : (act s).shows = s.shows) :
    live act s = .next (act s) := by
  rw [live_of_live h, State.seenSince_of_shows s hs]

/-- A request the Link takes is given to its owner with a place held for its reply (R188). -/
theorem request_of_takes {kind tag : Nat} {owner : State → State} {s : State} (h : s.takes tag) :
    request kind tag owner s = .next ((owner (holdPlace s)).seenSince s) := by
  obtain ⟨hl, hh, hc, ht⟩ := h
  simp [request, live_of_live hl, handOn, hh, hc, ht]

/-- A request of tag 0 is answered BAD_PARAM and goes no further (R188). -/
theorem request_tag_zero {kind : Nat} {owner : State → State} {s : State} (hl : s.power.resetLow = false)
    (hh : s.link.helloSent = true) (hc : s.link.canHandOn = true) : request kind 0 owner s = .next (reply kind 0 .badParam [] (holdPlace s)) := by
  simp [request, live_of_live hl, handOn, hh, hc, State.seenSince_of_shows s (show (reply kind 0 .badParam [] (holdPlace s)).shows = _ from rfl)]

/-- Before HELLO a request command changes nothing (R187, log entry 2). -/
theorem request_before_hello {kind tag : Nat} {owner : State → State} {s : State} (hh : s.link.helloSent = false) :
    request kind tag owner s = .next s := by
  cases h : s.power.resetLow <;> simp [request, live, whenLive, handOn, h, hh]

/-- While the Link may hand nothing onward a request command changes nothing (log entry 2). -/
theorem request_of_full {kind tag : Nat} {owner : State → State} {s : State} (hc : s.link.canHandOn = false) :
    request kind tag owner s = .next s := by
  cases h : s.power.resetLow <;> simp [request, live, whenLive, handOn, h, hc]

/-! ### Holding and filling a place -/

theorem holdPlace_eq (s : State) : holdPlace s = s.setLink { s.link with places := s.link.places + 1 } := rfl

theorem reply_eq (kind tag : Nat) (st : Status) (data : List Byte) (s : State) :
    reply kind tag st data s = s.setLink (s.link.fillPlace (replyMsg kind tag st data .nothing)) := rfl

/-- An answer at once fills the place just held, and leaves one message more (R188, R189). -/
theorem reply_holdPlace (kind tag : Nat) (st : Status) (data : List Byte) (s : State) :
    reply kind tag st data (holdPlace s) = answered kind tag st data s := by
  simp [reply, holdPlace, answered, Link.fillPlace, State.setLink]

/-- The same, after the owner has changed any block but the Link. -/
theorem reply_of_link {kind tag : Nat} {st : Status} {data : List Byte} {s t : State}
    (h : t.link = { s.link with places := s.link.places + 1 }) :
    reply kind tag st data t = answered kind tag st data (t.setLink s.link) := by
  simp [reply, answered, Link.fillPlace, State.setLink, h]

@[simp] theorem holdPlace_shows (s : State) : (holdPlace s).shows = s.shows := rfl
@[simp] theorem reply_shows (kind tag : Nat) (st : Status) (data : List Byte) (s : State) :
    (reply kind tag st data s).shows = s.shows := rfl
@[simp] theorem answered_shows (kind tag : Nat) (st : Status) (data : List Byte) (s : State) :
    (answered kind tag st data s).shows = s.shows := rfl
@[simp] theorem notice_shows (kind : Nat) (payload : List Byte) (s : State) : (notice kind payload s).shows = s.shows := by
  unfold notice; split <;> rfl

@[simp] theorem holdPlace_plans (s : State) : (holdPlace s).plans = s.plans := rfl
@[simp] theorem holdPlace_comp (s : State) : (holdPlace s).comp = s.comp := rfl
@[simp] theorem holdPlace_cache (s : State) : (holdPlace s).cache = s.cache := rfl
@[simp] theorem holdPlace_lanes (s : State) : (holdPlace s).lanes = s.lanes := rfl
@[simp] theorem holdPlace_screens (s : State) : (holdPlace s).screens = s.screens := rfl
@[simp] theorem holdPlace_catalog (s : State) : (holdPlace s).catalog = s.catalog := rfl
@[simp] theorem holdPlace_store (s : State) : (holdPlace s).store = s.store := rfl
@[simp] theorem holdPlace_light (s : State) : (holdPlace s).light = s.light := rfl
@[simp] theorem holdPlace_power (s : State) : (holdPlace s).power = s.power := rfl
@[simp] theorem holdPlace_pending (s : State) : (holdPlace s).pending = s.pending := rfl
@[simp] theorem holdPlace_plan (s : State) (i : Fin 2) : (holdPlace s).plan i = s.plan i := rfl
@[simp] theorem holdPlace_screen (s : State) (i : Fin 2) : (holdPlace s).screen i = s.screen i := rfl
@[simp] theorem holdPlace_running (s : State) (i : Fin 2) : (holdPlace s).running i = s.running i := rfl
@[simp] theorem holdPlace_compScreen (s : State) (i : Fin 2) : (holdPlace s).compScreen i = s.compScreen i := rfl
@[simp] theorem holdPlace_lightOf (s : State) (i : Fin 2) : (holdPlace s).lightOf i = s.lightOf i := rfl
@[simp] theorem holdPlace_lane (s : State) (l : Fin 3) : (holdPlace s).lane l = s.lane l := rfl

/-! ### The transmitter -/

/-- The transmitter changes nothing but the outbound queue and what it sends (R190). -/
theorem Link.startSend_frame (l : Link) :
    ∃ sending outbound, l.startSend = { l with sending := sending, outbound := outbound } := by
  unfold Link.startSend
  split
  · exact ⟨_, _, rfl⟩
  · exact ⟨l.sending, l.outbound, rfl⟩

/-- After the transmitter has looked at the queue, it is busy or the queue is empty (R190). -/
theorem Link.startSend_busy (l : Link) : l.startSend.sending = none → l.startSend.outbound = [] := by
  unfold Link.startSend
  split
  · simp
  · rename_i h
    intro hs
    cases ho : l.outbound with
    | nil => rfl
    | cons m rest => exact absurd ho (h m rest hs)

theorem Link.push_frame (l : Link) (m : LinkMsg) :
    ∃ sending outbound, l.push m = { l with sending := sending, outbound := outbound } := by
  obtain ⟨a, b, h⟩ := Link.startSend_frame { l with outbound := l.outbound ++ [m] }
  exact ⟨a, b, by rw [Link.push, h]⟩

theorem Link.push_busy (l : Link) (m : LinkMsg) : (l.push m).sending = none → (l.push m).outbound = [] :=
  Link.startSend_busy _

theorem Link.fillPlace_frame (l : Link) (m : LinkMsg) :
    ∃ sending outbound, l.fillPlace m = { l with places := l.places - 1, sending := sending, outbound := outbound } := by
  obtain ⟨a, b, h⟩ := Link.push_frame { l with places := l.places - 1 } m
  exact ⟨a, b, by rw [Link.fillPlace, h]⟩

/-! ### Frames: what a reply and a notice leave alone -/

/-- A notice changes the Link alone (R190). -/
theorem notice_link (kind : Nat) (payload : List Byte) (s : State) : ∃ l, notice kind payload s = s.setLink l := by
  unfold notice
  split
  · exact ⟨_, rfl⟩
  · exact ⟨_, rfl⟩

/-- A pushed message is the last of those on their way to the host; none before it is lost (R190). -/
theorem Link.queued_push (l : Link) (m : LinkMsg) : (l.push m).queued = l.queued ++ [m] := by
  unfold Link.push Link.startSend Link.queued
  cases hs : l.sending with
  | some x => simp
  | none => cases l.outbound <;> simp

/-- A reply that fills its place likewise. -/
theorem Link.queued_fillPlace (l : Link) (m : LinkMsg) : (l.fillPlace m).queued = l.queued ++ [m] :=
  Link.queued_push { l with places := l.places - 1 } m

/-- A reply joins the messages on their way to the host (R188, R190). -/
theorem reply_queued (kind tag : Nat) (st : Status) (data : List Byte) (s : State) :
    (reply kind tag st data s).link.queued = s.link.queued ++ [replyMsg kind tag st data .nothing] :=
  Link.queued_fillPlace _ _

/-- A notice joins them where it enters, and takes none away where it is dropped (R190). -/
theorem notice_queued (kind : Nat) (payload : List Byte) (s : State) :
    (notice kind payload s).link.queued =
      if s.link.helloSent = true ∧ s.link.occupancy < 40 then s.link.queued ++ [{ kind := kind, tag := 0, payload := payload }]
      else s.link.queued := by
  unfold notice
  by_cases h : s.link.helloSent && s.link.occupancy < 40
  · rw [if_pos h, if_pos (by simpa using h)]; exact Link.queued_push _ _
  · rw [if_neg h, if_neg (by simpa using h)]; rfl

@[simp] theorem reply_plans (kind tag : Nat) (st : Status) (data : List Byte) (s : State) :
    (reply kind tag st data s).plans = s.plans := rfl
@[simp] theorem reply_comp (kind tag : Nat) (st : Status) (data : List Byte) (s : State) :
    (reply kind tag st data s).comp = s.comp := rfl
@[simp] theorem reply_cache (kind tag : Nat) (st : Status) (data : List Byte) (s : State) :
    (reply kind tag st data s).cache = s.cache := rfl
@[simp] theorem reply_lanes (kind tag : Nat) (st : Status) (data : List Byte) (s : State) :
    (reply kind tag st data s).lanes = s.lanes := rfl
@[simp] theorem reply_screens (kind tag : Nat) (st : Status) (data : List Byte) (s : State) :
    (reply kind tag st data s).screens = s.screens := rfl
@[simp] theorem reply_catalog (kind tag : Nat) (st : Status) (data : List Byte) (s : State) :
    (reply kind tag st data s).catalog = s.catalog := rfl
@[simp] theorem reply_store (kind tag : Nat) (st : Status) (data : List Byte) (s : State) :
    (reply kind tag st data s).store = s.store := rfl
@[simp] theorem reply_light (kind tag : Nat) (st : Status) (data : List Byte) (s : State) :
    (reply kind tag st data s).light = s.light := rfl
@[simp] theorem reply_power (kind tag : Nat) (st : Status) (data : List Byte) (s : State) :
    (reply kind tag st data s).power = s.power := rfl
@[simp] theorem reply_pending (kind tag : Nat) (st : Status) (data : List Byte) (s : State) :
    (reply kind tag st data s).pending = s.pending := rfl
@[simp] theorem answered_plans (kind tag : Nat) (st : Status) (data : List Byte) (s : State) :
    (answered kind tag st data s).plans = s.plans := rfl
@[simp] theorem answered_comp (kind tag : Nat) (st : Status) (data : List Byte) (s : State) :
    (answered kind tag st data s).comp = s.comp := rfl
@[simp] theorem answered_cache (kind tag : Nat) (st : Status) (data : List Byte) (s : State) :
    (answered kind tag st data s).cache = s.cache := rfl
@[simp] theorem answered_lanes (kind tag : Nat) (st : Status) (data : List Byte) (s : State) :
    (answered kind tag st data s).lanes = s.lanes := rfl
@[simp] theorem answered_screens (kind tag : Nat) (st : Status) (data : List Byte) (s : State) :
    (answered kind tag st data s).screens = s.screens := rfl
@[simp] theorem answered_catalog (kind tag : Nat) (st : Status) (data : List Byte) (s : State) :
    (answered kind tag st data s).catalog = s.catalog := rfl
@[simp] theorem answered_store (kind tag : Nat) (st : Status) (data : List Byte) (s : State) :
    (answered kind tag st data s).store = s.store := rfl
@[simp] theorem answered_light (kind tag : Nat) (st : Status) (data : List Byte) (s : State) :
    (answered kind tag st data s).light = s.light := rfl
@[simp] theorem answered_power (kind tag : Nat) (st : Status) (data : List Byte) (s : State) :
    (answered kind tag st data s).power = s.power := rfl
@[simp] theorem answered_pending (kind tag : Nat) (st : Status) (data : List Byte) (s : State) :
    (answered kind tag st data s).pending = s.pending := rfl

@[simp] theorem notice_plans (kind : Nat) (payload : List Byte) (s : State) : (notice kind payload s).plans = s.plans := by
  obtain ⟨l, h⟩ := notice_link kind payload s; rw [h]; rfl
@[simp] theorem notice_comp (kind : Nat) (payload : List Byte) (s : State) : (notice kind payload s).comp = s.comp := by
  obtain ⟨l, h⟩ := notice_link kind payload s; rw [h]; rfl
@[simp] theorem notice_cache (kind : Nat) (payload : List Byte) (s : State) : (notice kind payload s).cache = s.cache := by
  obtain ⟨l, h⟩ := notice_link kind payload s; rw [h]; rfl
@[simp] theorem notice_lanes (kind : Nat) (payload : List Byte) (s : State) : (notice kind payload s).lanes = s.lanes := by
  obtain ⟨l, h⟩ := notice_link kind payload s; rw [h]; rfl
@[simp] theorem notice_screens (kind : Nat) (payload : List Byte) (s : State) : (notice kind payload s).screens = s.screens := by
  obtain ⟨l, h⟩ := notice_link kind payload s; rw [h]; rfl
@[simp] theorem notice_catalog (kind : Nat) (payload : List Byte) (s : State) : (notice kind payload s).catalog = s.catalog := by
  obtain ⟨l, h⟩ := notice_link kind payload s; rw [h]; rfl
@[simp] theorem notice_store (kind : Nat) (payload : List Byte) (s : State) : (notice kind payload s).store = s.store := by
  obtain ⟨l, h⟩ := notice_link kind payload s; rw [h]; rfl
@[simp] theorem notice_light (kind : Nat) (payload : List Byte) (s : State) : (notice kind payload s).light = s.light := by
  obtain ⟨l, h⟩ := notice_link kind payload s; rw [h]; rfl
@[simp] theorem notice_power (kind : Nat) (payload : List Byte) (s : State) : (notice kind payload s).power = s.power := by
  obtain ⟨l, h⟩ := notice_link kind payload s; rw [h]; rfl
@[simp] theorem notice_pending (kind : Nat) (payload : List Byte) (s : State) : (notice kind payload s).pending = s.pending := by
  obtain ⟨l, h⟩ := notice_link kind payload s; rw [h]; rfl

/-! ### The eraser changes the store alone (R143) -/

@[simp] theorem eraserStep_link (s : State) : (eraserStep s).link = s.link := rfl
@[simp] theorem eraserStep_plans (s : State) : (eraserStep s).plans = s.plans := rfl
@[simp] theorem eraserStep_comp (s : State) : (eraserStep s).comp = s.comp := rfl
@[simp] theorem eraserStep_cache (s : State) : (eraserStep s).cache = s.cache := rfl
@[simp] theorem eraserStep_lanes (s : State) : (eraserStep s).lanes = s.lanes := rfl
@[simp] theorem eraserStep_screens (s : State) : (eraserStep s).screens = s.screens := rfl
@[simp] theorem eraserStep_catalog (s : State) : (eraserStep s).catalog = s.catalog := rfl
@[simp] theorem eraserStep_light (s : State) : (eraserStep s).light = s.light := rfl
@[simp] theorem eraserStep_power (s : State) : (eraserStep s).power = s.power := rfl
@[simp] theorem eraserStep_pending (s : State) : (eraserStep s).pending = s.pending := rfl

/-! ### Readers and records change the Catalog and the store alone (R106, R107) -/

/-- Settling a record changes the Catalog and the store alone (R106). -/
theorem settleRecord_frame (uid : Nat) (s : State) :
    ∃ c st, settleRecord uid s = { s with catalog := c, store := st } := by
  unfold settleRecord removeRecord
  split
  · exact ⟨s.catalog, s.store, rfl⟩
  · split
    · exact ⟨s.catalog, s.store, rfl⟩
    · split
      · split
        · exact ⟨s.catalog, s.store, rfl⟩
        · exact ⟨_, _, rfl⟩
      · split
        · exact ⟨s.catalog, s.store, rfl⟩
        · exact ⟨_, s.store, rfl⟩

theorem releaseReader_frame (uid : Nat) (s : State) :
    ∃ c st, releaseReader uid s = { s with catalog := c, store := st } := by
  obtain ⟨c, st, h⟩ := settleRecord_frame uid
    (s.setCatalog (s.catalog.modify uid fun a => { a with readers := a.readers - 1 }))
  exact ⟨c, st, by rw [releaseReader, h]; rfl⟩

theorem dropStaged_frame (uid : Nat) (s : State) : ∃ c st, dropStaged uid s = { s with catalog := c, store := st } := by
  obtain ⟨c, st, h⟩ := settleRecord_frame uid
    (s.setCatalog (s.catalog.modify uid fun a => { a with inStaged := false }))
  exact ⟨c, st, by rw [dropStaged, h]; rfl⟩

/-- A change of a record under its name shows when it is looked up. -/
theorem Catalog.record_modify (uid : Nat) (f : Asset → Asset) (c : Catalog) (hf : ∀ a, (f a).uid = a.uid) :
    (c.modify uid f).record uid = (c.record uid).map f := by
  unfold Catalog.modify Catalog.record
  induction c.pool with
  | nil => rfl
  | cons a as ih =>
    by_cases h : a.uid = uid
    · simp [h, hf]
    · simpa [h] using ih

/-- A removed record is gone (R106). -/
theorem removeRecord_record (uid : Nat) (s : State) : (removeRecord uid s).catalog.record uid = none := by
  unfold removeRecord
  cases h : s.catalog.record uid with
  | none => exact h
  | some a => simp [Catalog.record, List.find?_filter]

/-- A settled record stays while it is in a generation or has a reader, and is gone otherwise (R106). -/
theorem settleRecord_record (uid : Nat) (s : State) (a : Asset) (h : s.catalog.record uid = some a) :
    (settleRecord uid s).catalog.record uid =
      if a.inLive = true ∨ a.inStaged = true ∨ 0 < a.readers then some a else none := by
  unfold settleRecord
  rw [h]
  by_cases hg : a.inLive = true ∨ a.inStaged = true
  · have hk : a.inLive = true ∨ a.inStaged = true ∨ 0 < a.readers := hg.imp_right .inl
    simpa [hg, hk] using h
  · have hl : a.inLive = false ∧ a.inStaged = false := by simpa using hg
    by_cases hz : a.readers = 0
    · simpa [hl, hz] using removeRecord_record uid s
    · have hp : 0 < a.readers := by omega
      by_cases hr : uid ∈ s.catalog.retiring
      · simpa [hl, hz, hp, hr] using h
      · simpa [hl, hz, hp, hr, State.setCatalog, Catalog.record] using h

/-- What a released reader leaves of its record (R106, R107). -/
theorem releaseReader_record (uid : Nat) (s : State) (a : Asset) (h : s.catalog.record uid = some a) :
    (releaseReader uid s).catalog.record uid = a.afterRelease := by
  unfold releaseReader Asset.afterRelease
  rw [settleRecord_record uid _ { a with readers := a.readers - 1 }]
  · simp only [Nat.lt_sub_iff_add_lt, Nat.zero_add]
  · simp only [State.setCatalog]
    rw [Catalog.record_modify (f := fun a : Asset => { a with readers := a.readers - 1 }) (hf := fun _ => rfl), h]; rfl

/-- The end of an operation on the port changes the Catalog and the store alone (R129, R148). -/
theorem portEnd_frame (s : State) : ∃ c st, portEnd s = { s with catalog := c, store := st } := by
  unfold portEnd
  split
  · exact ⟨s.catalog, s.store, rfl⟩
  · dsimp only
    split
    · rename_i uid _
      obtain ⟨c, st, h⟩ := releaseReader_frame uid _
      exact ⟨c, st, by rw [h]; rfl⟩
    · exact ⟨s.catalog, _, rfl⟩

/-! ### The bad unit list and the empty generation -/

/-- A unit put into the bad unit list: it is listed, nothing is lost, and an ascending list stays ascending (R141). -/
theorem insertUnit_spec (u : Nat) (l : List Nat) :
    (∀ v, v ∈ insertUnit u l ↔ v ∈ l ∨ v = u) ∧ (l.Pairwise (· < ·) → (insertUnit u l).Pairwise (· < ·)) := by
  induction l with
  | nil => simp [insertUnit]
  | cons a l ih =>
    rw [insertUnit]
    split
    · rename_i h
      refine ⟨fun v => by simp; tauto, fun hp => ?_⟩
      rw [List.pairwise_cons] at hp ⊢
      refine ⟨fun x hx => ?_, List.pairwise_cons.2 hp⟩
      rcases List.mem_cons.1 hx with rfl | hx
      · exact h
      · exact lt_trans h (hp.1 x hx)
    · split
      · rename_i h1 h; subst h; exact ⟨fun v => by simp; tauto, fun hp => hp⟩
      · rename_i h1 h2
        refine ⟨fun v => by simp only [List.mem_cons, ih.1 v]; tauto, fun hp => ?_⟩
        rw [List.pairwise_cons] at hp ⊢
        refine ⟨fun x hx => ?_, ih.2 hp.2⟩
        rcases (ih.1 x).1 hx with hx | rfl
        · exact hp.1 x hx
        · omega

@[simp] theorem noGeneration_state (k : CatalogState) (c : Catalog) : (c.noGeneration k).state = k := rfl
@[simp] theorem noGeneration_number (k : CatalogState) (c : Catalog) : (c.noGeneration k).number = 0 := rfl
@[simp] theorem noGeneration_glyphKey (k : CatalogState) (c : Catalog) : (c.noGeneration k).glyphKey = 0 := rfl
@[simp] theorem noGeneration_titles (k : CatalogState) (c : Catalog) : (c.noGeneration k).titles = [] := rfl
@[simp] theorem noGeneration_liveImage (k : CatalogState) (c : Catalog) : (c.noGeneration k).liveImage = [] := rfl
@[simp] theorem noGeneration_pool (k : CatalogState) (c : Catalog) :
    (c.noGeneration k).pool = c.pool.filter fun a => !a.inLive := rfl

end Sys2Proof.Machine
end

