-- ==== Sys2Proof/Laws/Frames.lean ====
section
/-!
SUPPORT. What the operations that several blocks share can change: each lemma names the parts of the state that an
operation may write, so that every other part is as before.
-/

namespace Sys2Proof.Machine

/-! ### The store's own operations (R131, R143, R148) -/

/-- Placing an operation changes the arbiter's lists alone (R148). -/
theorem Store.place_frame (purpose : Purpose) (cls : OpClass) (op : StoreOp) (st : Store) :
    ∃ a h, st.place purpose cls op = { st with arbiter := a, heldBack := h } := by
  unfold Store.place
  split
  · exact ⟨st.arbiter, _, rfl⟩
  · exact ⟨_, st.heldBack, rfl⟩

/-- Withdrawing a client's operations changes the arbiter's lists alone (R82). -/
theorem Store.withdraw_frame (c : Client) (st : Store) :
    ∃ a h, st.withdraw c = { st with arbiter := a, heldBack := h } := ⟨_, _, rfl⟩

/-- Changes made to one unit record after another change the unit table alone (R131). -/
theorem Store.modifyUnits_frame (f : Nat → UnitRec → UnitRec) (us : List Nat) (st : Store) :
    ∃ t, us.foldl (fun (st : Store) u => st.modifyUnit u (f u)) st = { st with units := t } ∧ t.length = st.units.length := by
  induction us generalizing st with
  | nil => exact ⟨st.units, rfl, rfl⟩
  | cons u us ih =>
    obtain ⟨t, h, hl⟩ := ih (st.modifyUnit u (f u))
    exact ⟨t, by rw [List.foldl_cons, h]; rfl, by rw [hl]; simp [Store.modifyUnit]⟩

theorem Store.addHolders_frame (us : List Nat) (st : Store) :
    ∃ t, st.addHolders us = { st with units := t } ∧ t.length = st.units.length :=
  Store.modifyUnits_frame (fun _ => UnitRec.addHolder) us st

theorem Store.releaseHolders_frame (us : List Nat) (st : Store) :
    ∃ t, st.releaseHolders us = { st with units := t } ∧ t.length = st.units.length :=
  Store.modifyUnits_frame (fun _ => UnitRec.release) us st

/-- The eraser changes the unit table, the batch and the arbiter's lists alone (R143). -/
theorem Store.eraser_frame (st : Store) :
    ∃ t b a h, st.eraser = { st with units := t, batch := b, arbiter := a, heldBack := h } ∧
      t.length = st.units.length := by
  unfold Store.eraser
  split
  · dsimp only
    split
    · exact ⟨st.units, st.batch, st.arbiter, st.heldBack, rfl, rfl⟩
    · obtain ⟨t, ht, hl⟩ := Store.modifyUnits_frame (fun _ r => { r with state := .erasing })
        ((st.unitsIn .freeDirty).take _) st
      rw [ht]
      obtain ⟨a, h, hp⟩ := Store.place_frame .eraseBatch .erase _ { st with units := t, batch := some _ }
      exact ⟨t, _, a, h, hp, hl⟩
  · exact ⟨st.units, st.batch, st.arbiter, st.heldBack, rfl, rfl⟩

/-- A stream of writes that is given up leaves the store's lists of waiting operations and the mark of its port
operation changed, nothing else (R119, R123, R148). -/
theorem Store.abandonStream_frame (c : Client) (st : Store) :
    ∃ a h w p, st.abandonStream c = { st with arbiter := a, heldBack := h, cleanWait := w, port := p } ∧
      (p = none ↔ st.port = none) := by
  refine ⟨_, _, _, _, rfl, ?_⟩
  split <;> simp [Store.withdraw]

/-! ### The begin of a mount (R127, R136, R137) -/

/-- Emptying catalog memory changes the Catalog and what the open passes see of glyph memory (R127). -/
theorem emptyCatalog_frame (s : State) : ∃ c k, emptyCatalog s = { s with catalog := c, comp := k } := ⟨_, _, rfl⟩

/-- A mount that waits for the port changes, when it begins, the Catalog, the store and what the open passes see (R137). -/
theorem mountIfWaiting_frame (s : State) :
    ∃ c k st, mountIfWaiting s = { s with catalog := c, comp := k, store := st } := by
  unfold mountIfWaiting
  split
  · exact ⟨_, _, _, rfl⟩
  · exact ⟨s.catalog, s.comp, s.store, rfl⟩

/-! ### Reports of pages (R108) -/

/-- A report of damage changes the Catalog and the Link alone (R108). -/
theorem reportDamage_frame (uid page : Nat) (s : State) :
    ∃ c l, reportDamage uid page s = { s with catalog := c, link := l } := by
  unfold reportDamage
  split
  · exact ⟨s.catalog, s.link, rfl⟩
  · split
    · exact ⟨s.catalog, s.link, rfl⟩
    · obtain ⟨l, h⟩ := notice_link 0xE5 _ (s.setCatalog _)
      exact ⟨_, l, by rw [h]; rfl⟩

theorem reportPages_frame (uid : Nat) (run : Run) (pages : List PageRead) (s : State) :
    ∃ c l, reportPages uid run pages s = { s with catalog := c, link := l } := by
  unfold reportPages
  generalize pages.zip _ = ps
  induction ps generalizing s with
  | nil => exact ⟨s.catalog, s.link, rfl⟩
  | cons p ps ih =>
    rw [List.foldl_cons]
    split
    · exact ih s
    · obtain ⟨c, l, h⟩ := reportDamage_frame uid p.2 s
      obtain ⟨c', l', h'⟩ := ih (reportDamage uid p.2 s)
      exact ⟨c', l', by rw [h', h]⟩

/-! ### Still loads and the glyph load that fail (R56, R125) -/

/-- A failed still load changes the cache, the Catalog and the store alone (R56). -/
theorem failLoad_frame (k : Nat) (listed : Bool) (s : State) :
    ∃ ca c st, failLoad k listed s = { s with cache := ca, catalog := c, store := st } := by
  unfold failLoad
  split
  · rename_i l i _ _
    obtain ⟨c, st, h⟩ := releaseReader_frame l.record (s.setCache _)
    exact ⟨_, c, st, by rw [h]; rfl⟩
  · exact ⟨s.cache, s.catalog, s.store, rfl⟩

theorem failWaitingLoads_frame (s : State) :
    ∃ ca c st, failWaitingLoads s = { s with cache := ca, catalog := c, store := st } := by
  unfold failWaitingLoads
  generalize s.cache.loads.map _ = ks
  induction ks generalizing s with
  | nil => exact ⟨s.cache, s.catalog, s.store, rfl⟩
  | cons k ks ih =>
    rw [List.foldl_cons]
    split
    · obtain ⟨ca, c, st, h⟩ := failLoad_frame k false s
      obtain ⟨ca', c', st', h'⟩ := ih (failLoad k false s)
      exact ⟨ca', c', st', by rw [h', h]⟩
    · exact ih s

theorem failGlyphLoad_frame (s : State) : ∃ c st, failGlyphLoad s = { s with catalog := c, store := st } := by
  unfold failGlyphLoad
  split
  · rename_i g _
    obtain ⟨c, st, h⟩ := releaseReader_frame g.record (s.setCatalog { s.catalog with glyphLoad := none })
    exact ⟨c, st, by rw [h]; rfl⟩
  · exact ⟨s.catalog, s.store, rfl⟩

theorem failWaitingGlyph_frame (s : State) : ∃ c st, failWaitingGlyph s = { s with catalog := c, store := st } := by
  unfold failWaitingGlyph
  split
  · exact ⟨s.catalog, s.store, rfl⟩
  · exact failGlyphLoad_frame s

/-! ### Lanes that stop (R82, R85) -/

/-- A teardown changes the lanes, what the open passes see of them, the Catalog and the store alone (R82). -/
theorem teardown_frame (l : Fin 3) (goal : LaneState) (keepShow : Bool) (s : State) :
    ∃ ls k c st, teardown l goal keepShow s = { s with lanes := ls, comp := k, catalog := c, store := st } := by
  unfold teardown
  dsimp only
  split
  · rename_i uid _ _
    obtain ⟨c, st, h⟩ := releaseReader_frame uid _
    exact ⟨_, _, c, st, by rw [h]; rfl⟩
  · exact ⟨_, _, s.catalog, _, rfl⟩

/-- The answer to a pending LANE_PLAY changes the lanes, what the open passes see of them and the Link alone (R66). -/
theorem answerPlay_frame (l : Fin 3) (status : Status) (data : List Byte) (s : State) :
    ∃ ls k lk, answerPlay l status data s = { s with lanes := ls, comp := k, link := lk } := by
  unfold answerPlay
  split
  · exact ⟨_, _, _, rfl⟩
  · exact ⟨s.lanes, s.comp, s.link, rfl⟩

/-- A lane that goes HELD changes the lanes, what the open passes see of them, the Catalog, the store and the Link
alone (R67, R68, R80, R85). -/
theorem laneHeld_frame (l : Fin 3) (cause : HeldCause) (status : Status) (s : State) :
    ∃ ls k c st lk, laneHeld l cause status s =
      { s with lanes := ls, comp := k, catalog := c, store := st, link := lk } := by
  unfold laneHeld
  obtain ⟨ls, k, c, st, h⟩ := teardown_frame l .held false s
  dsimp only
  rw [h]
  obtain ⟨lk, hn⟩ := notice_link 0xE4 [byteOf l.val, byteOf (heldCode (some cause))]
    (State.setLane { s with lanes := ls, comp := k, catalog := c, store := st } l
      { State.lane { s with lanes := ls, comp := k, catalog := c, store := st } l with heldCause := some cause })
  rw [hn]
  obtain ⟨ls', k', lk', ha⟩ := answerPlay_frame l status []
    ((State.setLane { s with lanes := ls, comp := k, catalog := c, store := st } l
      { State.lane { s with lanes := ls, comp := k, catalog := c, store := st } l with heldCause := some cause }).setLink lk)
  exact ⟨ls', k', c, st, lk', by rw [ha]; rfl⟩

theorem lanesStoreLoss_frame (s : State) :
    ∃ ls k c st lk, lanesStoreLoss s = { s with lanes := ls, comp := k, catalog := c, store := st, link := lk } := by
  unfold lanesStoreLoss
  generalize [(0 : Fin 3), 1, 2] = xs
  induction xs generalizing s with
  | nil => exact ⟨s.lanes, s.comp, s.catalog, s.store, s.link, rfl⟩
  | cons l xs ih =>
    rw [List.foldl_cons]
    split
    · obtain ⟨ls, k, c, st, lk, h⟩ := laneHeld_frame l .store .storeOffline s
      obtain ⟨ls', k', c', st', lk', h'⟩ := ih (laneHeld l .store .storeOffline s)
      exact ⟨ls', k', c', st', lk', by rw [h', h]⟩
    · exact ih s

/-! ### Writes that fail and the store that leaves service (R119, R123, R134, R142, R147) -/

/-- An intake that fails changes the Catalog, the store and the Link alone (R119). -/
theorem failIntake_frame (status : Status) (s : State) :
    ∃ c st l, failIntake status s = { s with catalog := c, store := st, link := l } := by
  obtain ⟨c, st, h⟩ := dropStaged_frame s.catalog.intake.record s
  unfold failIntake dropIntake
  dsimp only
  rw [h]
  split
  · exact ⟨_, _, _, rfl⟩
  · exact ⟨_, _, s.link, rfl⟩
  · exact ⟨s.catalog, s.store, s.link, rfl⟩

/-- A publish that fails changes the Catalog, the store and the Link alone (R123). -/
theorem failPublish_frame (s : State) :
    ∃ c st l, failPublish s = { s with catalog := c, store := st, link := l } := by
  unfold failPublish
  split
  · exact ⟨s.catalog, s.store, s.link, rfl⟩
  · exact ⟨_, _, _, rfl⟩

/-- Root writes that fail change the store, the Power Controller and the Link alone (R134, R176). -/
theorem failRootWrites_frame (status : Status) (s : State) :
    ∃ st p l, failRootWrites status s = { s with store := st, power := p, link := l } := by
  unfold failRootWrites
  dsimp only
  split
  · exact ⟨_, _, _, rfl⟩
  · exact ⟨_, s.power, s.link, rfl⟩

theorem stopRootWrites_frame (s : State) :
    ∃ st p l, stopRootWrites s = { s with store := st, power := p, link := l } := by
  unfold stopRootWrites
  split
  · exact failRootWrites_frame .storeReadOnly s
  · exact ⟨_, s.power, s.link, rfl⟩

/-- A STORE_STATE notice changes the Link alone (R135). -/
theorem stateNotice_link (prev : StoreState) (cause : StoreCause) (s : State) :
    ∃ l, stateNotice prev cause s = s.setLink l := notice_link _ _ _

/-- A store that becomes READ_ONLY changes the Catalog, the store, the Power Controller and the Link alone (R142). -/
theorem becomeReadOnly_frame (cause : StoreCause) (s : State) :
    ∃ c st p l, becomeReadOnly cause s = { s with catalog := c, store := st, power := p, link := l } := by
  unfold becomeReadOnly
  dsimp only
  obtain ⟨c, st, l, h⟩ := failIntake_frame .storeReadOnly
    (s.setStore { s.store.dropBatch (some .freeDirty) with state := .readOnly })
  rw [h]
  obtain ⟨c', st', l', h'⟩ := failPublish_frame
    { s.setStore { s.store.dropBatch (some .freeDirty) with state := .readOnly } with catalog := c, store := st, link := l }
  rw [h']
  generalize hs : ({ s.setStore _ with catalog := c', store := st', link := l' } : State) = s'
  obtain ⟨st2, p, l2, h2⟩ := stopRootWrites_frame s'
  rw [h2]
  obtain ⟨l3, h3⟩ := stateNotice_link s.store.state cause { s' with store := st2, power := p, link := l2 }
  exact ⟨c', st2, p, l3, by rw [h3, ← hs]; rfl⟩

/-- A unit that fails changes the Catalog, the store, the Power Controller and the Link alone (R141, R142). -/
theorem addBad_frame (u : Nat) (s : State) :
    ∃ c st p l, addBad u s = { s with catalog := c, store := st, power := p, link := l } := by
  unfold addBad
  dsimp only
  split
  · exact ⟨s.catalog, _, s.power, s.link, rfl⟩
  · split
    · obtain ⟨c, st, p, l, h⟩ := becomeReadOnly_frame .badListFull
        (s.setStore (s.store.modifyUnit u fun r => { r with state := .bad }))
      exact ⟨c, st, p, l, by rw [h]; rfl⟩
    · exact ⟨s.catalog, _, s.power, s.link, rfl⟩

/-! ### Placing an operation and the intake's operation -/

/-- What placing an operation does to the arbiter (R148). -/
theorem Store.place_placed (purpose : Purpose) (cls : OpClass) (op : StoreOp) (st : Store) :
    st.placed purpose cls op (st.place purpose cls op) := by
  refine ⟨fun ⟨p, hp, ho, hc⟩ => ?_, fun h => ?_⟩
  · simp [Store.place, Store.leftRunning, hp, ho, hc]
  · cases hp : st.port with
    | none => simp [Store.place, Store.leftRunning, hp]
    | some p =>
      have hn : st.leftRunning (clientOf purpose) = false := by
        cases ho : p.orphan <;> simp [Store.leftRunning, hp, ho]
        exact h p hp ho
      simp [Store.place, hn]

/-- Under an intake that is not OPEN or FINISHING no operation on the port works for a record (R106). -/
theorem intakeWorksFor_of_idle (s : State) (uid : Nat) (h : s.catalog.intakeBusy = false) : s.intakeWorksFor uid = false := by
  simp [State.intakeWorksFor, h]

end Sys2Proof.Machine
end

