-- ==== Sys2Proof/Laws/PerInstr.lean ====
section
/-!
SUPPORT. A fact about every command as syntax, stated once for each: the frame that encodes a request has a request kind below
80h, and for a well-formed request its tag is one byte and its payload fits a frame (R183, R188, R198). An event has no frame.
-/

namespace Sys2Proof.Laws

open Sys2Proof Sys2Proof.Machine

/-- The frame of a command, where it has one, fits the Command Link (R183, R188, R198). -/
def RequestFrames.Statement (i : Instr) : Prop :=
  ∀ f : Frame, encodeRequest i = some f →
    isRequestKind f.kind = true ∧ f.kind < 0x80 ∧ (i.wf = true → f.tag < 256 ∧ f.payload.length ≤ 1100)

/-- An event has no frame. -/
theorem requestFrames_of_none {i : Instr} (h : encodeRequest i = none) : RequestFrames.Statement i := by
  intro f hf; rw [h] at hf; cases hf

/-- A request's frame, its payload bounded by what the request's well-formedness gives. -/
theorem requestFrames_of_some {i : Instr} {f : Frame} (h : encodeRequest i = some f) (hk : isRequestKind f.kind = true)
    (hb : f.kind < 0x80) (hw : i.wf = true → f.tag < 256 ∧ f.payload.length ≤ 1100) : RequestFrames.Statement i := by
  intro g hg; rw [h] at hg; cases hg; exact ⟨hk, hb, hw⟩

@[simp] theorem fits1_iff (n : Nat) : fits1 n = true ↔ n < 256 := by simp [fits1]

@[simp] theorem fits2_iff (n : Nat) : fits2 n = true ↔ n < 65536 := by simp [fits2]

@[simp] theorem fits4_iff (n : Nat) : fits4 n = true ↔ n < 4294967296 := by simp [fits4]

theorem RequestFrames.powerOnReset : RequestFrames.Statement (.powerOnReset) := requestFrames_of_none rfl

theorem RequestFrames.supplyDip : RequestFrames.Statement (.supplyDip) := requestFrames_of_none rfl

theorem RequestFrames.resetLineLow : RequestFrames.Statement (.resetLineLow) := requestFrames_of_none rfl

theorem RequestFrames.resetLineRelease : RequestFrames.Statement (.resetLineRelease) := requestFrames_of_none rfl

theorem RequestFrames.rxCharacter (byte : Byte) (stopHigh : Bool) : RequestFrames.Statement (.rxCharacter byte stopHigh) := requestFrames_of_none rfl

theorem RequestFrames.frameTimeout : RequestFrames.Statement (.frameTimeout) := requestFrames_of_none rfl

theorem RequestFrames.linkBreak (seenHigh : Bool) : RequestFrames.Statement (.linkBreak seenHigh) := requestFrames_of_none rfl

theorem RequestFrames.requestHandoff : RequestFrames.Statement (.requestHandoff) := requestFrames_of_none rfl

theorem RequestFrames.txFrameSent : RequestFrames.Statement (.txFrameSent) := requestFrames_of_none rfl

theorem RequestFrames.echo (tag : Nat) (data : List Byte) : RequestFrames.Statement (.echo tag data) :=
  requestFrames_of_some rfl rfl (by simp) fun h => by simp [Instr.wf] at h; exact ⟨by dsimp only; omega, by dsimp only; omega⟩

theorem RequestFrames.status (tag : Nat) : RequestFrames.Statement (.status tag) :=
  requestFrames_of_some rfl rfl (by simp) fun h => by simp [Instr.wf] at h; exact ⟨by dsimp only; omega, by simp⟩

theorem RequestFrames.setLinkRate (tag rate : Nat) : RequestFrames.Statement (.setLinkRate tag rate) :=
  requestFrames_of_some rfl rfl (by simp) fun h => by simp [Instr.wf] at h; exact ⟨by dsimp only; omega, by simp⟩

theorem RequestFrames.reset (tag : Nat) : RequestFrames.Statement (.reset tag) :=
  requestFrames_of_some rfl rfl (by simp) fun h => by simp [Instr.wf] at h; exact ⟨by dsimp only; omega, by simp⟩

theorem RequestFrames.setPower (tag state : Nat) : RequestFrames.Statement (.setPower tag state) :=
  requestFrames_of_some rfl rfl (by simp) fun h => by simp [Instr.wf] at h; exact ⟨by dsimp only; omega, by simp⟩

theorem RequestFrames.causes (tag : Nat) : RequestFrames.Statement (.causes tag) :=
  requestFrames_of_some rfl rfl (by simp) fun h => by simp [Instr.wf] at h; exact ⟨by dsimp only; omega, by simp⟩

theorem RequestFrames.selfTest (tag flags : Nat) : RequestFrames.Statement (.selfTest tag flags) :=
  requestFrames_of_some rfl rfl (by simp) fun h => by simp [Instr.wf] at h; exact ⟨by dsimp only; omega, by simp⟩

theorem RequestFrames.settingGet (tag index : Nat) : RequestFrames.Statement (.settingGet tag index) :=
  requestFrames_of_some rfl rfl (by simp) fun h => by simp [Instr.wf] at h; exact ⟨by dsimp only; omega, by simp⟩

theorem RequestFrames.settingPut (tag index value : Nat) : RequestFrames.Statement (.settingPut tag index value) :=
  requestFrames_of_some rfl rfl (by simp) fun h => by simp [Instr.wf] at h; exact ⟨by dsimp only; omega, by simp⟩

theorem RequestFrames.settingsSave (tag : Nat) : RequestFrames.Statement (.settingsSave tag) :=
  requestFrames_of_some rfl rfl (by simp) fun h => by simp [Instr.wf] at h; exact ⟨by dsimp only; omega, by simp⟩

theorem RequestFrames.storeInfo (tag : Nat) : RequestFrames.Statement (.storeInfo tag) :=
  requestFrames_of_some rfl rfl (by simp) fun h => by simp [Instr.wf] at h; exact ⟨by dsimp only; omega, by simp⟩

theorem RequestFrames.remount (tag : Nat) : RequestFrames.Statement (.remount tag) :=
  requestFrames_of_some rfl rfl (by simp) fun h => by simp [Instr.wf] at h; exact ⟨by dsimp only; omega, by simp⟩

theorem RequestFrames.stageOpen (tag mode : Nat) : RequestFrames.Statement (.stageOpen tag mode) :=
  requestFrames_of_some rfl rfl (by simp) fun h => by simp [Instr.wf] at h; exact ⟨by dsimp only; omega, by simp⟩

theorem RequestFrames.stageDiscard (tag : Nat) : RequestFrames.Statement (.stageDiscard tag) :=
  requestFrames_of_some rfl rfl (by simp) fun h => by simp [Instr.wf] at h; exact ⟨by dsimp only; omega, by simp⟩

theorem RequestFrames.titlePut (tag title badge : Nat) (tint : Rgb) (stillKey clipKey : Nat) (name : List Byte) :
    RequestFrames.Statement (.titlePut tag title badge tint stillKey clipKey name) :=
  requestFrames_of_some rfl rfl (by simp) fun h => by simp [Instr.wf] at h; exact ⟨by dsimp only; omega, by simp; omega⟩

theorem RequestFrames.titleDrop (tag title : Nat) : RequestFrames.Statement (.titleDrop tag title) :=
  requestFrames_of_some rfl rfl (by simp) fun h => by simp [Instr.wf] at h; exact ⟨by dsimp only; omega, by simp⟩

theorem RequestFrames.titleGet (tag generation mode title : Nat) : RequestFrames.Statement (.titleGet tag generation
    mode title) :=
  requestFrames_of_some rfl rfl (by simp) fun h => by simp [Instr.wf] at h; exact ⟨by dsimp only; omega, by simp⟩

theorem RequestFrames.setGlyphs (tag key : Nat) : RequestFrames.Statement (.setGlyphs tag key) :=
  requestFrames_of_some rfl rfl (by simp) fun h => by simp [Instr.wf] at h; exact ⟨by dsimp only; omega, by simp⟩

theorem RequestFrames.assetBegin (tag key kind length check : Nat) : RequestFrames.Statement (.assetBegin tag key
    kind length check) :=
  requestFrames_of_some rfl rfl (by simp) fun h => by simp [Instr.wf] at h; exact ⟨by dsimp only; omega, by simp⟩

theorem RequestFrames.assetData (tag key offset : Nat) (chunk : List Byte) : RequestFrames.Statement (.assetData tag
    key offset chunk) :=
  requestFrames_of_some rfl rfl (by simp) fun h => by simp [Instr.wf] at h; exact ⟨by dsimp only; omega, by simp; omega⟩

theorem RequestFrames.assetAbort (tag key : Nat) : RequestFrames.Statement (.assetAbort tag key) :=
  requestFrames_of_some rfl rfl (by simp) fun h => by simp [Instr.wf] at h; exact ⟨by dsimp only; omega, by simp⟩

theorem RequestFrames.assetInfo (tag generation key : Nat) : RequestFrames.Statement (.assetInfo tag generation key) :=
  requestFrames_of_some rfl rfl (by simp) fun h => by simp [Instr.wf] at h; exact ⟨by dsimp only; omega, by simp⟩

theorem RequestFrames.publish (tag : Nat) : RequestFrames.Statement (.publish tag) :=
  requestFrames_of_some rfl rfl (by simp) fun h => by simp [Instr.wf] at h; exact ⟨by dsimp only; omega, by simp⟩

theorem RequestFrames.cacheInfo (tag : Nat) : RequestFrames.Statement (.cacheInfo tag) :=
  requestFrames_of_some rfl rfl (by simp) fun h => by simp [Instr.wf] at h; exact ⟨by dsimp only; omega, by simp⟩

theorem RequestFrames.cacheFlush (tag : Nat) : RequestFrames.Statement (.cacheFlush tag) :=
  requestFrames_of_some rfl rfl (by simp) fun h => by simp [Instr.wf] at h; exact ⟨by dsimp only; omega, by simp⟩

theorem RequestFrames.planBackdrop (tag screen : Nat) (colour : Rgb) : RequestFrames.Statement (.planBackdrop tag
    screen colour) :=
  requestFrames_of_some rfl rfl (by simp) fun h => by simp [Instr.wf] at h; exact ⟨by dsimp only; omega, by simp⟩

theorem RequestFrames.planWall (tag screen presence : Nat) (rect : Rect) (columns rows gap border : Nat) (focusColour
    : Rgb) : RequestFrames.Statement (.planWall tag screen presence rect columns rows gap border focusColour) :=
  requestFrames_of_some rfl rfl (by simp) fun h => by simp [Instr.wf] at h; exact ⟨by dsimp only; omega, by simp⟩

theorem RequestFrames.planTitles (tag screen start removeCount : Nat) (titles : List Nat) : RequestFrames.Statement
    (.planTitles tag screen start removeCount titles) :=
  requestFrames_of_some rfl rfl (by simp) fun h => by simp [Instr.wf] at h; exact ⟨by dsimp only; omega, by simp; omega⟩

theorem RequestFrames.planItem (tag screen index : Nat) (rect : Rect) (normal lit : Fill) (text : Rgb) (alignment
    scale : Nat) (glyphs : List Byte) : RequestFrames.Statement (.planItem tag screen index rect normal lit text
    alignment scale glyphs) :=
  requestFrames_of_some rfl rfl (by simp) fun h => by simp [Instr.wf] at h; exact ⟨by dsimp only; omega, by simp; omega⟩

theorem RequestFrames.planItemClear (tag screen index : Nat) : RequestFrames.Statement (.planItemClear tag screen index) :=
  requestFrames_of_some rfl rfl (by simp) fun h => by simp [Instr.wf] at h; exact ⟨by dsimp only; omega, by simp⟩

theorem RequestFrames.planWindow (tag screen window lane : Nat) (rect : Rect) : RequestFrames.Statement (.planWindow
    tag screen window lane rect) :=
  requestFrames_of_some rfl rfl (by simp) fun h => by simp [Instr.wf] at h; exact ⟨by dsimp only; omega, by simp⟩

theorem RequestFrames.planRevert (tag screen : Nat) : RequestFrames.Statement (.planRevert tag screen) :=
  requestFrames_of_some rfl rfl (by simp) fun h => by simp [Instr.wf] at h; exact ⟨by dsimp only; omega, by simp⟩

theorem RequestFrames.present (tag screen kind length : Nat) : RequestFrames.Statement (.present tag screen kind length) :=
  requestFrames_of_some rfl rfl (by simp) fun h => by simp [Instr.wf] at h; exact ⟨by dsimp only; omega, by simp⟩

theorem RequestFrames.scroll (tag screen speed target : Nat) : RequestFrames.Statement (.scroll tag screen speed target) :=
  requestFrames_of_some rfl rfl (by simp) fun h => by simp [Instr.wf] at h; exact ⟨by dsimp only; omega, by simp⟩

theorem RequestFrames.focus (tag screen kind index : Nat) : RequestFrames.Statement (.focus tag screen kind index) :=
  requestFrames_of_some rfl rfl (by simp) fun h => by simp [Instr.wf] at h; exact ⟨by dsimp only; omega, by simp⟩

theorem RequestFrames.lanePlay (tag lane clockScreen endAction loops title stallLimit : Nat) :
    RequestFrames.Statement (.lanePlay tag lane clockScreen endAction loops title stallLimit) :=
  requestFrames_of_some rfl rfl (by simp) fun h => by simp [Instr.wf] at h; exact ⟨by dsimp only; omega, by simp⟩

theorem RequestFrames.laneStop (tag lane : Nat) : RequestFrames.Statement (.laneStop tag lane) :=
  requestFrames_of_some rfl rfl (by simp) fun h => by simp [Instr.wf] at h; exact ⟨by dsimp only; omega, by simp⟩

theorem RequestFrames.laneStatus (tag lane : Nat) : RequestFrames.Statement (.laneStatus tag lane) :=
  requestFrames_of_some rfl rfl (by simp) fun h => by simp [Instr.wf] at h; exact ⟨by dsimp only; omega, by simp⟩

theorem RequestFrames.screenStatus (tag screen : Nat) : RequestFrames.Statement (.screenStatus tag screen) :=
  requestFrames_of_some rfl rfl (by simp) fun h => by simp [Instr.wf] at h; exact ⟨by dsimp only; omega, by simp⟩

theorem RequestFrames.lightMode (tag screen mode level : Nat) : RequestFrames.Statement (.lightMode tag screen mode level) :=
  requestFrames_of_some rfl rfl (by simp) fun h => by simp [Instr.wf] at h; exact ⟨by dsimp only; omega, by simp⟩

theorem RequestFrames.lightStatus (tag : Nat) : RequestFrames.Statement (.lightStatus tag) :=
  requestFrames_of_some rfl rfl (by simp) fun h => by simp [Instr.wf] at h; exact ⟨by dsimp only; omega, by simp⟩

theorem RequestFrames.wakeEdge : RequestFrames.Statement (.wakeEdge) := requestFrames_of_none rfl

theorem RequestFrames.panelSignalOn (screen : Fin 2) : RequestFrames.Statement (.panelSignalOn screen) := requestFrames_of_none rfl

theorem RequestFrames.powerUpEnd (screen : Fin 2) : RequestFrames.Statement (.powerUpEnd screen) := requestFrames_of_none rfl

theorem RequestFrames.panelSignalOff (screen : Fin 2) : RequestFrames.Statement (.panelSignalOff screen) := requestFrames_of_none rfl

theorem RequestFrames.powerDownEnd (screen : Fin 2) : RequestFrames.Statement (.powerDownEnd screen) := requestFrames_of_none rfl

theorem RequestFrames.vblank (screen : Fin 2) (lanesFirst : Bool) : RequestFrames.Statement (.vblank screen lanesFirst) := requestFrames_of_none rfl

theorem RequestFrames.passComplete (screen : Fin 2) (moments : DrawMoments) : RequestFrames.Statement (.passComplete
    screen moments) := requestFrames_of_none rfl

theorem RequestFrames.laneHeaderReadDone (lane : Fin 3) (pages : List PageRead) : RequestFrames.Statement
    (.laneHeaderReadDone lane pages) := requestFrames_of_none rfl

theorem RequestFrames.laneReadIssue (lane : Fin 3) : RequestFrames.Statement (.laneReadIssue lane) := requestFrames_of_none rfl

theorem RequestFrames.laneReadDone (lane : Fin 3) (pages : List PageRead) : RequestFrames.Statement (.laneReadDone
    lane pages) := requestFrames_of_none rfl

theorem RequestFrames.clipDecodeStart : RequestFrames.Statement (.clipDecodeStart) := requestFrames_of_none rfl

theorem RequestFrames.clipDecodeDone (result : Option Picture) : RequestFrames.Statement (.clipDecodeDone result) := requestFrames_of_none rfl

theorem RequestFrames.stallTimerExpiry (lane : Fin 3) : RequestFrames.Statement (.stallTimerExpiry lane) := requestFrames_of_none rfl

theorem RequestFrames.fetchTake : RequestFrames.Statement (.fetchTake) := requestFrames_of_none rfl

theorem RequestFrames.stillReadDone (pages : List PageRead) : RequestFrames.Statement (.stillReadDone pages) := requestFrames_of_none rfl

theorem RequestFrames.stillDecodeStart : RequestFrames.Statement (.stillDecodeStart) := requestFrames_of_none rfl

theorem RequestFrames.stillDecodeDone (result : Option Picture) : RequestFrames.Statement (.stillDecodeDone result) := requestFrames_of_none rfl

theorem RequestFrames.cacheClear : RequestFrames.Statement (.cacheClear) := requestFrames_of_none rfl

theorem RequestFrames.pageProgramDone (outcome : ProgramOutcome) : RequestFrames.Statement (.pageProgramDone outcome) := requestFrames_of_none rfl

theorem RequestFrames.relocationReadDone (page : PageRead) : RequestFrames.Statement (.relocationReadDone page) := requestFrames_of_none rfl

theorem RequestFrames.rootWriteStart : RequestFrames.Statement (.rootWriteStart) := requestFrames_of_none rfl

theorem RequestFrames.glyphReadDone (pages : List PageRead) : RequestFrames.Statement (.glyphReadDone pages) := requestFrames_of_none rfl

theorem RequestFrames.portGrant : RequestFrames.Statement (.portGrant) := requestFrames_of_none rfl

theorem RequestFrames.storeReadTimeout : RequestFrames.Statement (.storeReadTimeout) := requestFrames_of_none rfl

theorem RequestFrames.eraseUnitReport (unit : Nat) (passed : Bool) : RequestFrames.Statement (.eraseUnitReport unit
    passed) := requestFrames_of_none rfl

theorem RequestFrames.eraseDeadline : RequestFrames.Statement (.eraseDeadline) := requestFrames_of_none rfl

theorem RequestFrames.descriptorReadDone (page : List Byte) : RequestFrames.Statement (.descriptorReadDone page) := requestFrames_of_none rfl

theorem RequestFrames.rootUnitReadDone (pages : List PageRead) : RequestFrames.Statement (.rootUnitReadDone pages) := requestFrames_of_none rfl

theorem RequestFrames.catalogImageReadDone (pages : List PageRead) : RequestFrames.Statement (.catalogImageReadDone pages) := requestFrames_of_none rfl

theorem RequestFrames.sampleTimer : RequestFrames.Statement (.sampleTimer) := requestFrames_of_none rfl

theorem RequestFrames.sensorReadDone (reading : Option Int) : RequestFrames.Statement (.sensorReadDone reading) := requestFrames_of_none rfl

theorem RequestFrames.sensorReadTimeout : RequestFrames.Statement (.sensorReadTimeout) := requestFrames_of_none rfl

theorem RequestFrames.memoryTestDone (matched : Bool) : RequestFrames.Statement (.memoryTestDone matched) := requestFrames_of_none rfl

theorem RequestFrames.storeTestReadDone (page : PageRead) : RequestFrames.Statement (.storeTestReadDone page) := requestFrames_of_none rfl

theorem RequestFrames.panelTestDone (result : PanelLoop) : RequestFrames.Statement (.panelTestDone result) := requestFrames_of_none rfl

theorem RequestFrames.sensorTestStart : RequestFrames.Statement (.sensorTestStart) := requestFrames_of_none rfl

theorem RequestFrames.timebaseTestEnd (ticks : Nat) : RequestFrames.Statement (.timebaseTestEnd ticks) := requestFrames_of_none rfl

theorem RequestFrames.descriptorReadTimeout : RequestFrames.Statement (.descriptorReadTimeout) := requestFrames_of_none rfl

end Sys2Proof.Laws
end

