-- ==== Sys2Proof/Tests/Slice0.lean ====
section
/-!
SUPPORT. The session's own tests: the WellFormed smoke, the check values and worked cases of spec/ (each names its section),
one step of the part here and there, and for every statement with hypotheses a state and operands that meet them.
-/

-- One theorem after another: checked side by side, so many kernel evaluations would each hold a thread.
set_option Elab.async false

namespace Sys2Proof.Tests

open Sys2Proof Sys2Proof.Machine

/-! ### WellFormed: an ill-formed term for each check -/

theorem test_wf_accepts_a_lane_play : Instr.wf (.lanePlay 9 1 1 2 0 2001 3000) = true := by decide
theorem test_wf_refuses_a_wide_tag : Instr.wf (.status 256) = false := by decide
theorem test_wf_refuses_a_wide_byte : Instr.wf (.settingGet 1 256) = false := by decide
theorem test_wf_refuses_a_wide_half : Instr.wf (.titleDrop 1 65536) = false := by decide
theorem test_wf_refuses_a_wide_word : Instr.wf (.setLinkRate 1 4294967296) = false := by decide
theorem test_wf_refuses_a_wide_channel : Instr.wf (.planBackdrop 1 0 ⟨0, 256, 0⟩) = false := by decide
theorem test_wf_refuses_a_wide_alpha :
    Instr.wf (.planItem 1 0 0 ⟨0, 0, 1, 1⟩ ⟨Rgb.black, 256⟩ ⟨Rgb.black, 0⟩ Rgb.white 0 1 []) = false := by decide
theorem test_wf_refuses_a_far_left_rect : Instr.wf (.planWindow 1 0 0 0 ⟨-32769, 0, 1, 1⟩) = false := by decide
theorem test_wf_refuses_a_far_down_rect : Instr.wf (.planWindow 1 0 0 0 ⟨0, 32768, 1, 1⟩) = false := by decide
theorem test_wf_refuses_a_wide_rect : Instr.wf (.planWindow 1 0 0 0 ⟨0, 0, 65536, 1⟩) = false := by decide
theorem test_wf_refuses_a_long_echo : Instr.wf (.echo 1 (List.replicate 1100 0)) = false := by decide +kernel
theorem test_wf_refuses_a_long_name :
    Instr.wf (.titlePut 1 1 0 Rgb.black 0 0 (List.replicate 256 0)) = false := by decide +kernel
theorem test_wf_refuses_a_long_chunk : Instr.wf (.assetData 1 1 0 (List.replicate 1025 0)) = false := by decide +kernel
theorem test_wf_refuses_many_titles : Instr.wf (.planTitles 1 0 0 0 (List.replicate 547 1)) = false := by decide +kernel
theorem test_wf_refuses_a_wide_title : Instr.wf (.planTitles 1 0 0 0 [65536]) = false := by decide
theorem test_wf_refuses_many_glyphs :
    Instr.wf (.planItem 1 0 0 ⟨0, 0, 1, 1⟩ ⟨Rgb.black, 0⟩ ⟨Rgb.black, 0⟩ Rgb.white 0 1 (List.replicate 256 1)) = false := by
  decide +kernel
theorem test_wf_refuses_no_pages : Instr.wf (.stillReadDone []) = false := by decide
theorem test_wf_refuses_seventeen_pages : Instr.wf (.glyphReadDone (List.replicate 17 ⟨.clean, []⟩)) = false := by decide
theorem test_wf_refuses_a_long_page :
    Instr.wf (.relocationReadDone ⟨.clean, List.replicate 4097 0⟩) = false := by decide +kernel
theorem test_wf_refuses_a_long_descriptor :
    Instr.wf (.descriptorReadDone (List.replicate 4097 0)) = false := by decide +kernel
theorem test_wf_refuses_a_short_picture : Instr.wf (.stillDecodeDone (some ⟨2, 1, [Rgb.black]⟩)) = false := by decide
theorem test_wf_refuses_a_bright_pixel : Instr.wf (.clipDecodeDone (some ⟨1, 1, [⟨0, 0, 300⟩]⟩)) = false := by decide
theorem test_wf_refuses_a_wide_unit : Instr.wf (.eraseUnitReport 65536 true) = false := by decide

/-! ### Checks, frames and the receiver (R183, R184, R195, R198, R201) -/

/-- 10_the_command_link.md, the check of a short request. -/
theorem test_crc16_of_the_short_request : crc16 [0, 0, 1, 1] = 0xA7D0#16 := by decide +kernel
theorem test_crc16_after_each_byte :
    crc16 [0] = 0xE1F0#16 ∧ crc16 [0, 0] = 0x1D0F#16 ∧ crc16 [0, 0, 1] = 0xDCBD#16 := by decide +kernel
theorem test_frame_of_the_short_request :
    frameBytes { kind := 1, tag := 1, payload := [] } = [0xA7, 0, 0, 1, 1, 0xA7, 0xD0] := by decide +kernel

/-- The check value of the CRC-32 with R201's parameters over the nine digits, as generally published. -/
theorem test_crc32_of_the_digits :
    crc32 [0x31, 0x32, 0x33, 0x34, 0x35, 0x36, 0x37, 0x38, 0x39] = 0xCBF43926 := by decide +kernel

/-- 11_formats_and_codes.md 11.5: the LANE_PLAY. -/
theorem test_lane_play_payload :
    parseRequest ⟨0x40, 9, [0x01, 0x01, 0x02, 0x00, 0x07, 0xD1, 0x0B, 0xB8]⟩ = .ok (.lanePlay 9 1 1 2 0 2001 3000) := by decide +kernel
theorem test_echo_payload : parseRequest ⟨0x01, 1, []⟩ = .ok (.echo 1 []) := by decide +kernel
theorem test_set_power_payload : parseRequest ⟨0x08, 7, [0x02]⟩ = .ok (.setPower 7 2) := by decide +kernel
theorem test_remount_payload : parseRequest ⟨0x11, 7, []⟩ = .ok (.remount 7) := by decide +kernel
theorem test_asset_begin_payload :
    parseRequest ⟨0x1D, 3, [0, 0, 0, 5, 1, 0, 0, 0, 0x10, 0, 0xDE, 0xAD, 0xBE, 0xEF]⟩ =
      .ok (.assetBegin 3 5 1 4096 0xDEADBEEF) := by decide +kernel
theorem test_cache_flush_payload : parseRequest ⟨0x29, 2, []⟩ = .ok (.cacheFlush 2) := by decide +kernel
theorem test_plan_window_payload :
    parseRequest ⟨0x35, 2, [0, 2, 1, 0, 0xFF, 0xF6, 0, 20, 0x01, 0x40, 0, 240]⟩ = .ok (.planWindow 2 0 2 1 ⟨-10, 20, 320, 240⟩) := by
  decide +kernel
theorem test_screen_status_payload : parseRequest ⟨0x48, 2, [1]⟩ = .ok (.screenStatus 2 1) := by decide +kernel
theorem test_light_mode_payload : parseRequest ⟨0x50, 2, [1, 1, 0x80, 0x00]⟩ = .ok (.lightMode 2 1 1 32768) := by decide +kernel
theorem test_reserved_byte_is_refused : parseRequest ⟨0x35, 2, [0, 2, 1, 9, 0, 0, 0, 0, 0, 1, 0, 1]⟩ = .error .fieldNonzero := by decide +kernel
theorem test_count_field_is_held_to : parseRequest ⟨0x32, 2, [0, 0, 0, 0, 0, 0, 0, 2, 0, 1]⟩ = .error .badLength := by decide +kernel

/-- 10_the_command_link.md, resynchronisation: the corrupted copy and the true one. -/
def lineBytes : List Byte := [0xA7, 5, 0, 1, 1, 0xA7, 0xD0, 0xA7, 0, 0, 1, 1, 0xA7, 0xD0]

theorem test_resynchronisation :
    (lineBytes.foldl (fun l b => l.receive b) ({ helloSent := true } : Link)).requests = [⟨1, 1, []⟩] := by decide +kernel

/-! ### Worked cases of the plans and the pixels -/

/-- 01_screen_plans.md 1.11. -/
def browseWall : Wall :=
  { rect := ⟨40, 96, 880, 680⟩, columns := 6, rows := 4, gap := 8, border := 4, focusColour := Rgb.white
    titles := List.range' 1 200 }

theorem test_browse_wall_geometry :
    browseWall.cellW = 140 ∧ browseWall.cellH = 164 ∧ browseWall.pitch = 172 ∧ browseWall.viewW = 880 ∧ browseWall.viewH = 680 ∧
      browseWall.rowsTotal = 34 ∧ browseWall.contentH = 5840 ∧ browseWall.scrollMax = 5160 := by decide +kernel
theorem test_visible_rows :
    browseWall.visibleRows 0 = some (0, 3) ∧ browseWall.visibleRows 16 = some (0, 4) ∧
      browseWall.visibleRows 176 = some (1, 4) ∧ browseWall.visibleRows 192 = some (1, 5) ∧
      browseWall.visibleRows 344 = some (2, 5) := by decide +kernel
theorem test_scroll_stops_on_its_target :
    (({ position := 336, target := 344, speed := 16 } : ScrollRec).advance).position = 344 := by decide

/-- 02_composition.md 2.9. -/
theorem test_cell_places :
    browseWall.cellRect 272 6 = ⟨40, -4, 140, 164⟩ ∧ browseWall.cellRect 272 35 = ⟨780, 684, 140, 164⟩ := by decide
theorem test_narrow_walls :
    (({ browseWall with rect := ⟨0, 0, 100, 680⟩, columns := 6 } : Wall).cellW = 10) ∧
      ({ browseWall with rect := ⟨0, 0, 100, 680⟩, columns := 4 } : Wall).cellW = 19 := by decide

/-- 01_screen_plans.md 1.4, a FADE of length 8. -/
theorem test_fade_levels :
    [1, 2, 3, 4, 5, 6, 7, 8].map (fadeLevel 8) = [63, 127, 191, 255, 192, 128, 64, 0] := by decide
theorem test_fade_lengths : [0, 2, 7, 8, 63, 255].map fadeLength = [2, 2, 8, 8, 64, 64] := by decide

/-- 02_composition.md, scaling. -/
theorem test_scaling : [0, 1, 2, 50, 99].map (sampleAt 160 100) = [0, 2, 4, 80, 159] := by decide
theorem test_scaling_of_a_cut_cell : sampleAt 240 164 100 = 147 := by decide

/-- 02_composition.md, centred text at scale 2. -/
def centredItem : Item :=
  { rect := ⟨40, 20, 300, 40⟩, normal := ⟨⟨20, 40, 60⟩, 255⟩, lit := ⟨Rgb.black, 0⟩, text := Rgb.white
    glyphs := List.replicate 8 1, alignment := .center, scale := 2 }

theorem test_centred_text : centredItem.textLeft = 62 ∧ centredItem.textTop = 16 := by decide
theorem test_right_text : ({ centredItem with alignment := .right } : Item).textLeft = 84 := by decide

/-- 02_composition.md, one pixel through all layers. -/
def warmMatrix : Matrix := { coeffs := [1100, -60, -16, -20, 1060, -16, 0, -40, 1088], offsets := [0, 0, 0] }

theorem test_menu_fill_over_a_still : blendRgb Rgb.black 96 ⟨200, 100, 50⟩ = ⟨125, 62, 31⟩ := by decide
theorem test_fade_plane : fadeRgb 64 ⟨125, 62, 31⟩ = ⟨94, 46, 23⟩ := by decide
theorem test_colour_matrix : warmMatrix.apply ⟨94, 46, 23⟩ = ⟨98, 45, 23⟩ := by decide
theorem test_one_pixel_through_all_layers :
    (({ backdrop := ⟨9, 9, 9⟩
        ops := [.picture ⟨0, 0, 1, 1⟩ ⟨0, 0, 8, 8⟩ ⟨1, 1, [⟨200, 100, 50⟩]⟩ 255, .fill ⟨0, 0, 4, 4⟩ ⟨0, 0, 8, 8⟩ Rgb.black 96]
        fade := 64, matrix := warmMatrix } : Drawing).pixel 0 0) = ⟨98, 45, 23⟩ := by decide

/-! ### Worked cases of the backlight, the store and the causes -/

/-- 08_the_backlight_controller.md 8.4: a falling segment; 8.9: the default curve at 12,000 lux. -/
theorem test_falling_segment :
    interpolate 1000 40000 2000 30000 1333 = 36670 ∧ interpolate 1000 40000 2000 30000 1001 = 39990 := by decide
theorem test_default_curve : curveLevel (({} : LightScreen).curve) 12000 = 41942 := by decide
theorem test_percentages : percentage 41942 = 6399 ∧ percentage 28671 = 4374 := by decide
theorem test_filtered_lux : ({ window := [11000, 12000, 13500] } : Light).filteredLux = some 12166 := by decide

/-- A light whose panel sensor 1 last read `t` degrees. -/
def lightAt (t : Int) : Light := { temps := ⟨{}, { state := .valid, latest := some t }⟩ }

theorem test_caps :
    [61, 63, 64, 66, 68, 67, 59].map (fun t => (lightAt t).capOf (lightAt t).temps.s1) =
      [57343, 49151, 45055, 36863, 28671, 32767, 65535] := by decide
theorem test_outputs_of_the_heat_episode :
    nextOutput 41942 36863 36863 2048 = 36863 ∧ nextOutput 36863 28671 28671 2048 = 28671 ∧
      nextOutput 28671 32767 32767 2048 = 30719 ∧ nextOutput 30719 41942 65535 2048 = 32767 ∧
      nextOutput 40959 41942 65535 2048 = 41942 := by decide

/-- A store as the worked sequences of 07_the_media_store.md take it. -/
def chip : Descriptor :=
  { pagesPerUnit := 64, unitCount := 1024, correctable := 4, programLimit := 5, batchSize := 16, batchTime := 50
    fixedTime := 10, protect := false }

theorem test_erase_deadlines : eraseDeadlineMs chip 3 = 20 ∧ eraseDeadlineMs chip 16 = 60 := by decide

/-- 09_power_states_and_self_test.md: a power-on, a RESET request, then a link break. -/
theorem test_cause_set :
    addCause .linkBreak (addCause .resetRequest [.powerOn]) = [.powerOn, .linkBreak, .resetRequest] := by decide

/-- The settings table has 66 entries, every default within its range (R173). -/
theorem test_settings_table :
    settingIndexes.length = 66 ∧ settingIndexes.all (fun n => match entryOf n with | some e => e.inRange e.default | none => false) := by
  decide +kernel
theorem test_settings_gaps : [0x0C, 0x0F, 0x1C, 0x44, 0x4F, 0x56].map entryOf = List.replicate 6 none := by decide

/-- 04_trailer_lanes.md: frame periods, and the display time of unit 4 at 3,750 ticks. -/
theorem test_frame_periods : [60, 50, 30].map framePeriod = [1500, 1800, 3000] := by decide
theorem test_display_time : displayTime { period := 3750, units := 2880 } ⟨4, 0⟩ = 15000 := by decide

/-! ### States for the tests -/

/-- A part in service: HELLO sent, no change of power state, the store ONLINE with eight units. -/
def ready : State :=
  { State.reset with
    link := { helloSent := true }
    power := { changing := false, settings := some .defaults }
    catalog := { state := .valid }
    store :=
      { state := .online, startUp := false, descriptor := some chip, rootPos := some ⟨1, 3⟩, highestSeq := 7
        units := [⟨.root, 0⟩, ⟨.root, 0⟩, ⟨.freeClean, 0⟩, ⟨.freeClean, 0⟩, ⟨.erasing, 0⟩, ⟨.erasing, 0⟩, ⟨.sealed, 1⟩,
          ⟨.sealed, 1⟩] } }

/-- The part held in reset. -/
def held : State := heldInReset [.resetLine] ready

/-- The outbound queue's occupancy stands at 40. -/
def congested : State := { ready with link := { ready.link with places := 40 } }

/-- A screen record in RUNNING with a back-buffer state. -/
def runningScreen (t : Timing) (back : BackState) : Screen :=
  { state := .running, wantedOn := true, active := t, entries := t, back := back, frameTimer := true, powerEnable := true
    videoSignal := true }

/-- Both screens RUNNING, their back buffers in a state. -/
def lit (back : BackState) : State :=
  { ready with screens := ⟨runningScreen defaultTiming0 back, runningScreen defaultTiming1 back⟩ }

/-- The part with a store state. -/
def storeIs (st : StoreState) (s : State) : State := { s with store := { s.store with state := st } }

/-- The part with an operation on the store port. -/
def onPort (p : PortOp) (s : State) : State := { s with store := { s.store with port := some p } }

/-- The part with a command at the front of its queue. -/
def queued (c : Instr) (s : State) : State := { s with pending := [c] }

/-- The state a command leaves. -/
def after (c : Instr) (s : State) : State :=
  match exec c s with
  | .next t => t
  | _ => State.reset

/-- A request frame at the head of the request queue. -/
def received (f : Frame) (s : State) : State := { s with link := { s.link with requests := [f] } }

def titleA : TitleRec := { number := 1, badge := 0, tint := ⟨1, 2, 3⟩, stillKey := 5, clipKey := 6, name := [0x41] }
def titleB : TitleRec := { number := 65535, badge := 15, tint := Rgb.black, stillKey := 0, clipKey := 0, name := [] }

def clipAsset : Asset :=
  { uid := 1, key := 6, kind := .clip, length := 4096, check := 9, state := .complete, extents := [⟨384, 1⟩], accepted := 4096
    inLive := true, inStaged := false, readers := 0, damaged := false
    desc := { width := 16, height := 16, period := 3750, units := 2 } }

def stillAsset : Asset :=
  { uid := 0, key := 5, kind := .still, length := 100, check := 8, state := .complete, extents := [⟨385, 1⟩], accepted := 100
    inLive := true, inStaged := true, readers := 0, damaged := false, desc := { width := 16, height := 16 } }

/-- A live generation of two titles, and a stage of one. -/
def stocked (s : State) : State :=
  { s with catalog :=
      { s.catalog with
        number := 3, titles := [titleA, titleB], pool := [stillAsset, clipAsset], nextUid := 2
        staged := some { glyphKey := 0, titles := [{ titleA with clipKey := 0 }] } } }

/-- The part with an intake. -/
def withIntake (k : Intake) (s : State) : State := { s with catalog := { s.catalog with intake := k } }

/-- The part with a publish of the stage in progress. -/
def publishing (s : State) : State :=
  { s with catalog := { s.catalog with publish := some { tag := 4, number := 4, image := [], check := 0 } } }

/-- The part with a self-test in progress at its last test. -/
def testing (step : TestStep) (s : State) : State :=
  { s with power := { s.power with selfTest := some { tag := 5, flags := 4, rest := [], codes := [], step := step } } }

/-- The part with lane 0 as given. -/
def laneIs (r : Lane) (s : State) : State := { s with lanes := { s.lanes with lane := ⟨r, {}, {}⟩ } }

def smallPicture : Picture := { width := 16, height := 16, pixels := List.replicate 256 Rgb.white }

def clipIndex : List UnitEntry := [⟨0, 100, true, 0, false⟩, ⟨100, 50, false, 7, false⟩]

/-- A PLAYING lane that shows the clip of `clipAsset`. -/
def playingLane : Lane :=
  { state := .playing, title := 1, clip := some 1, desc := clipAsset.desc, index := clipIndex, clock := 15000
    readPos := ⟨0, 0⟩, decodePos := ⟨0, 0⟩, demand := true }


/-! ### What the hypotheses of each statement are met by -/

theorem witness_StepRunsTheFrontCommand : State.reset.pending = [] := rfl

theorem witness_ResetsBeginStartUp :
    ready.power.resetLow = false ∧ ready.link.breakArmed = false ∧ ({ ready.link with breakArmed := true } : Link).breakArmed = true ∧
      held.power.resetLow = true := by decide

theorem witness_HeldPartDoesNothing :
    held.power.resetLow = true ∧ Instr.wakeEdge ≠ .powerOnReset ∧ Instr.wakeEdge ≠ .supplyDip ∧
      Instr.wakeEdge ≠ .resetLineRelease := by decide

theorem witness_EveryStepKeepsTheLinkSettled :
    (queued (.echo 1 [7]) ready).link.settled ∧ ∃ t, step (queued (.echo 1 [7]) ready) = .next t :=
  ⟨⟨rfl, by decide, .inl rfl, by decide, fun _ => rfl⟩, ⟨_, rfl⟩⟩

theorem witness_EveryStepKeepsTheBacklightBounded :
    (queued .sampleTimer (lit .free)).lightBounded ∧ ∃ t, step (queued .sampleTimer (lit .free)) = .next t :=
  ⟨by unfold State.lightBounded; decide, ⟨_, rfl⟩⟩

theorem witness_EveryStepKeepsScanoutConsistent :
    (queued (.vblank 0 true) (lit .free)).scanoutConsistent ∧ ∃ t, step (queued (.vblank 0 true) (lit .free)) = .next t :=
  ⟨by
    intro i
    match i with
    | 0 => exact ⟨⟨rfl, rfl, rfl, rfl⟩, by decide⟩
    | 1 => exact ⟨⟨rfl, rfl, rfl, rfl⟩, by decide⟩, ⟨_, rfl⟩⟩

theorem witness_EveryStepKeepsTheTableSizes :
    (queued .fetchTake ready).shaped ∧ ∃ t, step (queued .fetchTake ready) = .next t :=
  ⟨by unfold State.shaped; decide +kernel, ⟨_, rfl⟩⟩

theorem witness_EveryStepKeepsTitlesInOrder :
    (queued (.titleDrop 1 1) (stocked ready)).titlesInOrder ∧ ∃ t, step (queued (.titleDrop 1 1) (stocked ready)) = .next t :=
  ⟨⟨by decide, fun g h => by cases h; decide⟩, ⟨_, rfl⟩⟩

theorem witness_LinkRateChangesOnlyAfterItsReply : ∃ t, exec .txFrameSent ready = .next t := ⟨_, rfl⟩

theorem witness_ReceiverTakesBytes :
    ready.power.resetLow = false ∧ ready.link.rxHeld = [] ∧ ready.link.rxFrame = [] := by decide

theorem witness_FrameOnTheWireIsQueued :
    ready.power.resetLow = false ∧ ready.link.helloSent = true ∧ ready.link.resetTaken = false ∧
      ready.link.requests.length < 8 ∧ ready.link.rxFrame = [] ∧ ready.link.rxHeld = [] ∧ (255 < 256 ∧ 255 < 256) ∧
      (List.replicate 1100 0xA7#8).length ≤ 1100 := by decide +kernel

theorem witness_FrameOnTheWireIsQueued_refused :
    let full : State := { ready with link := { ready.link with requests := List.replicate 8 ⟨1, 1, []⟩ } }
    8 ≤ full.link.requests.length ∧ full.link.occupancy < 48 ∧
      48 ≤ ({ full.link with places := 48 } : Link).occupancy ∧ ({ ready.link with resetTaken := true } : Link).resetTaken = true ∧
      State.reset.link.helloSent = false ∧ 1100 < 256 * (4#8 : Byte).toNat + (0x4D#8 : Byte).toNat ∧
      [1#8, 1#8].length = 0 + 2 ∧ [0xA7#8, 0xD1#8].length = 2 ∧
      beNat [0xA7#8, 0xD1#8] ≠ (crc16 (beBytes 2 0 ++ [1#8, 1#8])).toNat := by decide +kernel

theorem witness_EncodedRequestsParseBack :
    Instr.wf (.planWindow 255 1 2 0xFF ⟨-32768, 32767, 65535, 0⟩) = true ∧
      encodeRequest (.planWindow 255 1 2 0xFF ⟨-32768, 32767, 65535, 0⟩) =
        some ⟨0x35, 255, [1, 2, 0xFF, 0, 0x80, 0, 0x7F, 0xFF, 0xFF, 0xFF, 0, 0]⟩ := by decide +kernel

theorem witness_HandOffRunsTheRequest :
    (received ⟨0x02, 1, []⟩ ready).power.resetLow = false ∧ (received ⟨0x02, 1, []⟩ ready).link.helloSent = true ∧
      (received ⟨0x02, 1, []⟩ ready).link.canHandOn = true ∧
      Instr.wf (.status 1) = true ∧ encodeRequest (.status 1) = some ⟨0x02, 1, []⟩ ∧
      (received ⟨0x02, 1, []⟩ ready).link.requests = [⟨0x02, 1, []⟩] := by decide +kernel

theorem witness_HandOffRefusesInOrder :
    (received ⟨0x7F, 1, []⟩ congested).link.canHandOn = false ∧ (received ⟨0x7F, 1, []⟩ ready).link.canHandOn = true ∧
      isRequestKind 0x7F = false ∧ isRequestKind 0x02 = true ∧ (1 : Nat) ≠ 0 ∧ lengthOk 0x02 [0] = false ∧
      lengthOk 0x35 (List.replicate 12 1) = true ∧ reservedOk 0x35 (List.replicate 12 1) = false ∧
      (received ⟨0x7F, 1, []⟩ ready).power.resetLow = false := by decide +kernel

/-- The transmitter is sending a reply with something to do after it. -/
def sending (a : AfterSend) : State :=
  { ready with link := { ready.link with sending := some { kind := 0x83, tag := 1, payload := [0], after := a } } }

theorem witness_TransmitterAndFrameTimer :
    (sending .nothing).power.resetLow = false ∧
      (sending (.setRate .b460800)).link.sending = some { kind := 0x83, tag := 1, payload := [0], after := .setRate .b460800 } ∧
      LinkRate.b460800 ≠ (sending (.setRate .b460800)).link.rate ∧ LinkRate.b115200 = (sending .nothing).link.rate ∧
      ((sending .resetPart).link.sending.map (·.after)) = some .resetPart := by decide

theorem witness_requests_are_taken : ready.takes 1 ∧ ready.takes 255 ∧ (stocked ready).takes 1 ∧ (lit .free).takes 1 := by decide

theorem witness_EchoAndStatusAnswer :
    ready.takes 1 ∧ (List.replicate 1099 0#8).length ≤ 1099 ∧ ¬ (List.replicate 1100 0#8).length ≤ 1099 := by decide +kernel

theorem witness_RateAndResetRequests : ready.takes 1 ∧ 3000000 = LinkRate.b3000000.baud ∧ 9600 ≠ 115200 := by decide

theorem witness_SetPowerIsCheckedInOrder :
    ready.takes 1 ∧ 2 = PowerState.standby.code ∧ ready.power.changing = false ∧ ready.power.selfTest = none ∧
      State.reset.power.changing = true ∧ (testing .panel ready).power.selfTest.isSome = true := by decide

theorem witness_SetPowerIsCheckedInOrder_waking :
    (ready.screen 0).state = .off ∧ 0 = PowerState.active.code ∧ ready.power.setPowerTag = none ∧
      ((lit .free).screen 0).state = .running := by decide

/-- Screen 0 in a pass with a sealed plan and a pin, and a PRIMING lane that it paces. -/
def leaving : State :=
  { laneIs { playingLane with state := .priming, pendingTag := some 3 } (lit .composing) with
    plans := ⟨{ sealMark := some ⟨.cut, 0, 9⟩ }, {}⟩, cache := { pins := [⟨.cell 0 0, 0⟩, ⟨.cell 1 0, 1⟩] } }

theorem witness_SetPowerIsCheckedInOrder_leaving :
    leaving.takes 1 ∧ leaving.running 0 = true ∧ leaving.power.changing = false ∧ leaving.power.selfTest = none ∧
      (leaving.plan 0).sealMark = some ⟨.cut, 0, 9⟩ ∧ (leaving.lane 0).clockScreen = 0 ∧ (leaving.lane 0).state ≠ .idle ∧
      (leaving.lane 0).active = true ∧ (leaving.lane 0).pendingTag = some 3 ∧ (leaving.lane 1).state = .idle ∧
      (lit .free).screen 0 = { (lit .free).screen 0 with state := .running } := by decide

/-- The same with stills in the slots: slot 0 and the stale slot 2 are pinned by screen 0 alone, slot 1 by screen 1. -/
def leavingSlots : State :=
  { leaving with cache :=
      { slots := [{ state := .resident, ident := some ⟨5, 8⟩ }, { state := .resident, ident := some ⟨7, 8⟩ },
          { state := .resident, ident := some ⟨9, 8⟩, stale := true }] ++ List.replicate 93 {}
        pins := [⟨.cell 0 0, 0⟩, ⟨.cell 1 0, 1⟩, ⟨.cell 0 1, 2⟩] } }

theorem witness_SetPowerIsCheckedInOrder_slots :
    let t := after (.setPower 1 1) leavingSlots
    leavingSlots.takes 1 ∧ (∀ k, k < 3 → 0 < leavingSlots.cache.pinCount k ∧ (leavingSlots.cache.slot k).state = .resident) ∧
      (leavingSlots.cache.slot 2).stale = true ∧ leavingSlots.link.occupancy < 24 ∧ (leavingSlots.lane 0).clip = some 1 ∧
      (∀ m : Fin 3, m ≠ 0 → (leavingSlots.lane m).clip ≠ (leavingSlots.lane 0).clip) ∧ t.cache.pins = [⟨.cell 1 0, 1⟩] ∧
      t.cache.reuse = [0] ∧ t.cache.slot 2 = {} ∧ (t.lane 0).endedReason = some .power := by decide +kernel

/-- Two lanes of one clip, one with its read on the port, stop with screen 0; screen 1 still wants one of the queued stills. -/
def leavingShared : State :=
  let s := onPort { purpose := .laneUnits 0, op := .pageRead ⟨384, 1⟩, limit := 50 } (stocked (lit .composing))
  { s with
    catalog := { s.catalog with pool := [stillAsset, { clipAsset with readers := 2 }] }
    lanes := ⟨⟨playingLane, playingLane, {}⟩, none, 0⟩
    plans := ⟨{ wantedVisible := [⟨5, 8⟩, ⟨6, 8⟩] }, { wantedPrefetch := [⟨6, 8⟩] }⟩
    cache := { s.cache with queue := [⟨⟨5, 8⟩, .visible⟩, ⟨⟨6, 8⟩, .visible⟩] } }

theorem witness_SetPowerIsCheckedInOrder_shared_clip :
    let t := after (.setPower 1 1) leavingShared
    leavingShared.takes 1 ∧ leavingShared.running 0 = true ∧ leavingShared.laneOnPort 0 = true ∧ leavingShared.laneOnPort 1 = false ∧
      (leavingShared.lane 0).clip = (leavingShared.lane 1).clip ∧ (leavingShared.catalog.record 1).isSome = true ∧
      t.cache.queue = [⟨⟨6, 8⟩, .visible⟩] ∧ t.store.port.bind (·.releaseReader) = some 1 ∧
      (t.catalog.record 1).map (·.readers) = some 1 := by decide +kernel

/-- The MEMORY test of STANDBY with a WAKE edge held. -/
def wakeHeld : State :=
  { ready with power := { ready.power with
      state := .standby, wakeMark := true
      selfTest := some { tag := 5, flags := 1, rest := [], codes := [], step := .memory } } }

theorem witness_WakeEdgeWakesAndCausesEmpty_held :
    wakeHeld.power.resetLow = false ∧ (wakeHeld.power.selfTest.map fun u => (u.step, u.rest)) = some (.memory, []) ∧
      wakeHeld.power.wakeMark = true ∧ wakeHeld.power.changing = false ∧ wakeHeld.power.state ≠ .active ∧
      ready.link.helloSent = true ∧ ready.link.occupancy < 40 ∧ 40 ≤ congested.link.occupancy := by decide

theorem witness_WakeEdgeWakesAndCausesEmpty_held_at_every_end :
    let at_ := fun (step : TestStep) => wakeHeld.setPower { wakeHeld.power with
      selfTest := some { tag := 5, flags := 1, rest := [], codes := [], step := step } }
    let store := fun (purpose : Purpose) (op : StoreOp) => onPort { purpose := purpose, op := op, limit := 50 } (at_ .storeDescriptor)
    ((at_ .panel).power.selfTest.map (·.step)) = some .panel ∧ ((at_ .timebase).power.selfTest.map (·.step)) = some .timebase ∧
      (store .testRoot (.pageRead ⟨0, 1⟩)).store.port.map (·.purpose) = some .testRoot ∧
      (store .testDescriptor .descriptorRead).store.port.map (·.purpose) = some .testDescriptor ∧
      (store .testDescriptor .descriptorRead).store.newestRoot = none ∧
      ((at_ .sensor).setLightAll { (at_ .sensor).light with port := .test 2 }).light.port = .test 2 ∧
      (at_ .panel).power.wakeMark = true ∧ (at_ .panel).power.changing = false ∧ (at_ .panel).power.state ≠ .active ∧
      ((at_ .panel).screen 0).state = .off ∧ ((at_ .panel).screen 1).state = .off ∧
      ({ (at_ .panel).power with state := .active } : Power).state = .active := by decide

theorem witness_WakeEdgeWakesAndCausesEmpty :
    (testing .panel ready).power.selfTest.isSome = true ∧ ready.power.selfTest = none ∧ ready.power.state = .active ∧
      ({ ready with power := { ready.power with state := .standby } } : State).power.state ≠ .active ∧
      ready.power.changing = false ∧ ready.takes 1 := by decide

theorem witness_SettingsAreGotAndPut :
    ready.takes 1 ∧ entryOf 0x0C = none ∧ entryOf 0x55 = some (.rate 1) ∧
      (Entry.rate 1).accepts ready ((Entry.rate 1).ofField 50) = true ∧
      (Entry.rate 1).accepts ready ((Entry.rate 1).ofField 49) = false ∧
      (Entry.offset 0 2).accepts ready ((Entry.offset 0 2).ofField 0xFFFFFFC0) = true := by decide

theorem witness_SettingsAreGotAndPut_ranges :
    [0x00, 0x08, 0x09, 0x0B, 0x10, 0x18, 0x19, 0x1B, 0x20, 0x27, 0x28, 0x2F, 0x30, 0x37, 0x38, 0x3F, 0x40, 0x41, 0x42, 0x43,
        0x50, 0x51, 0x52, 0x53, 0x54, 0x55].all (fun n => (entryOf n).isSome) = true ∧
      [0x0C, 0x0F, 0x1C, 0x1F, 0x44, 0x4F, 0x56, 0xFF].all (fun n => (entryOf n).isNone) = true ∧ ready.shaped := by
  unfold State.shaped
  decide +kernel

theorem witness_SettingsAreGotAndPut_effects :
    entryOf 0x20 = some (.curveLux 0 0) ∧ entryOf 0x3F = some (.curveLevel 1 7) ∧ entryOf 0x40 = some .derateStart ∧
      entryOf 0x41 = some .derateStep ∧ entryOf 0x42 = some .fallback ∧ entryOf 0x43 = some .slew ∧
      Entry.derateStart.accepts ready (Entry.derateStart.ofField 0xFFFFFFD8) = true ∧
      (Entry.curveLux 0 0).accepts ready ((Entry.curveLux 0 0).ofField 0xFFFFFFFF) = true ∧
      (Entry.curveLevel 1 7).accepts ready ((Entry.curveLevel 1 7).ofField 65535) = true ∧ defaultBlock.length = 66 ∧
      (ready.screen 0).state = .off ∧ Entry.derateStep.accepts ready (Entry.derateStep.ofField 65536) = false := by decide +kernel

theorem witness_SettingsSaveWritesARootRecord :
    ready.takes 1 ∧ ready.power.saveTag = none ∧ (storeIs .readOnly ready).store.state = .readOnly ∧
      (storeIs .offline ready).store.state = .offline ∧ ready.store.state = .online ∧ ready.store.rootWrite = none ∧
      ({ ready.power with saveTag := some 1 } : Power).saveTag.isSome = true ∧ ready.store.highestSeq < 4294967295 ∧
      ready.store.mount = .none ∧ ready.store.rootPos = some ⟨1, 3⟩ := by decide

/-- A settings save waits for its turn; the page program of its record is on the port. -/
def rootQueued : State := { ready with store := { ready.store with rootQueue := [⟨.save, none⟩] } }
def rootWriting : State :=
  { ready with
    store := { ready.store with
      rootWrite := some { job := ⟨.save, none⟩, record := ⟨8, {}, [], []⟩, failures := 0 }
      port := some { purpose := .rootPage, op := .pageProgram [], limit := 5 } }
    power := { ready.power with saveTag := some 1 } }

theorem witness_SettingsSaveWritesARootRecord_at_its_turn :
    rootQueued.store.state = .online ∧ rootQueued.store.rootWrite = none ∧ rootQueued.store.rootQueue = [⟨.save, none⟩] ∧
      rootQueued.power.resetLow = false := by decide

theorem witness_SettingsSaveWritesARootRecord_at_its_end :
    (rootWriting.store.rootWrite.map (·.job.client)) = some .save ∧
      rootWriting.store.port = some { purpose := .rootPage, op := .pageProgram [], limit := 5 } ∧
      rootWriting.store.rootPos = some ⟨1, 3⟩ ∧ rootWriting.power.saveTag = some 1 ∧ rootWriting.store.mount = .none ∧
      rootWriting.power.resetLow = false := by decide

/-- The part with a root write that has failed so often, for a settings save or the publish in progress, and its operation. -/
def rootFailing (client : RootClient) (failures : Nat) (p : PortOp) : State :=
  let s := publishing (stocked rootWriting)
  onPort p { s with store := { s.store with
    rootWrite := some { job := ⟨client, none⟩, record := ⟨8, {}, [], []⟩, failures := failures } } }

theorem witness_SettingsSaveWritesARootRecord_failures :
    let page : PortOp := { purpose := .rootPage, op := .pageProgram [], limit := 5 }
    let erase : PortOp := { purpose := .rootErase, op := .erase [0], limit := 20, unreported := [0] }
    let s := rootFailing .save 1 page
    let e := rootFailing .publish 2 erase
    s.power.resetLow = false ∧ s.store.rootWrite.map (·.failures) = some 1 ∧ s.store.port = some page ∧ page.orphan = false ∧
      page.releaseReader = none ∧ s.store.descriptor = some chip ∧ s.store.rootPos = some ⟨1, 3⟩ ∧ s.store.mount = .none ∧
      s.store.heldBack = [] ∧ ProgramOutcome.limitReached ≠ .pass ∧ s.power.saveTag = some 1 ∧ 3 + 1 < chip.pagesPerUnit ∧
      e.store.port = some erase ∧ erase.unreported = [0] ∧ erase.op = .erase [0] ∧ e.store.state = .online ∧
      e.catalog.publish.isSome = true ∧ e.store.rootWrite.map (·.failures) = some 2 ∧ 0 < chip.pagesPerUnit ∧
      ready.store.port = none := by decide

/-- R176: a SETTING_PUT accepted after the root write's turn is not saved by the record formed again. -/
theorem test_record_formed_again_keeps_its_settings :
    let s := rootFailing .save 0 { purpose := .rootPage, op := .pageProgram [], limit := 5 }
    let s := s.setStore { s.store with rootWrite := s.store.rootWrite.map fun w => { w with record := { w.record with settings := [1, 2] } } }
    (after (.pageProgramDone .fail) s).store.rootWrite.map (fun w => (w.record.settings, w.failures)) = some ([1, 2], 1) := by
  decide +kernel

theorem witness_SelfTestIsCheckedAndBegins :
    let s : State := { ready with power := { ready.power with state := .standby } }
    s.takes 1 ∧ s.power.selfTest = none ∧ s.power.state = .standby ∧ s.power.changing = false ∧ s.catalog.intake.state = .none ∧
      s.catalog.publish = none ∧ s.store.state = .online ∧ s.power.wakeMark = false ∧ (1 : Nat).testBit 0 = true ∧
      ready.power.state ≠ .standby ∧ (testing .panel ready).power.selfTest.isSome = true := by decide

theorem witness_SelfTestIsCheckedAndBegins_first_tests :
    let s : State := { ready with power := { ready.power with state := .standby } }
    (storeIs .offline s).takes 1 ∧ (storeIs .offline s).store.state ≠ .mounting ∧ (storeIs .readOnly s).store.state = .readOnly ∧
      ((2 : Nat).testBit 0 = false ∧ (2 : Nat).testBit 1 = true) ∧ ((6 : Nat).testBit 1 = true ∧ (6 : Nat).testBit 2 = true) ∧
      ((12 : Nat).testBit 1 = false ∧ (12 : Nat).testBit 2 = true) ∧ ((8 : Nat).testBit 2 = false ∧ (8 : Nat).testBit 3 = true) ∧
      ((16 : Nat).testBit 3 = false ∧ (16 : Nat).testBit 4 = true) ∧ (0xE0 : Nat).testBit 4 = false ∧ s.store.port = none ∧
      (withIntake { state := .failed } s).catalog.intake.state = .failed := by decide

theorem witness_SelfTestsGiveTheirCodes :
    (testing .panel ready).power.resetLow = false ∧
      (testing .panel ready).power.selfTest = some { tag := 5, flags := 4, rest := [], codes := [], step := .panel } ∧
      (testing .panel ready).power.wakeMark = false ∧ (testing (.sensorWait true) ready).light.port = .idle ∧
      (onPort { purpose := .testRoot, op := .pageRead ⟨0, 1⟩, limit := 50 } (testing .storeRoot ready)).store.port.isSome = true := by
  decide

/-- A self-test at one of its tests, with others to come. -/
def testingWith (rest : List SelfTestKind) (step : TestStep) (s : State) : State :=
  { s with power := { s.power with selfTest := some { tag := 5, flags := 0xE7, rest := rest, codes := [(0, 0)], step := step } } }

theorem witness_SelfTestsGiveTheirCodes_store :
    let d := onPort { purpose := .testDescriptor, op := .descriptorRead, limit := 50 } (testingWith [] .storeDescriptor ready)
    let r := fun misses => onPort { purpose := .testRoot, op := .pageRead ⟨67, 1⟩, limit := 50, misses := misses }
      (testingWith [.panel] .storeRoot ready)
    d.power.resetLow = false ∧ d.power.selfTest.map (·.step) = some .storeDescriptor ∧
      d.store.port.map (·.purpose) = some .testDescriptor ∧ d.store.newestRoot = none ∧
      ({ d with store := { d.store with newestRoot := some 67 } } : State).store.newestRoot = some 67 ∧
      (r 0).power.selfTest.map (·.step) = some .storeRoot ∧ (r 0).store.port.map (·.purpose) = some .testRoot ∧
      (r 1).store.port.map (·.misses) = some 1 ∧ (r 1).store.mount = .none ∧ (r 1).power.wakeMark = false ∧
      (r 1).power.selfTest.map (·.rest) = some [.panel] ∧ SelfTestKind.panel ≠ .memory ∧ SelfTestKind.panel ≠ .store ∧
      ((after .descriptorReadTimeout d).link.sending.map (·.payload)) = some [0, 0, 0, 1, 2, 5, 255, 6, 255, 7, 255] := by decide

theorem witness_SelfTestsGiveTheirCodes_sensors :
    let s := fun n => (testing .sensor ready).setLightAll { (testing .sensor ready).light with port := .test n }
    (∀ n, n < 3 → (s n).light.port = .test n ∧ (s n).power.resetLow = false) ∧
      ((testing .sensor ready).power.selfTest.map (·.step)) = some .sensor ∧
      ((testing .timebase ready).power.selfTest.map (·.step)) = some .timebase := by decide

theorem witness_SelfTestsGiveTheirCodes_next_tests :
    let s := testingWith [.store, .panel] .memory ready
    s.power.selfTest.map (·.rest) = some [.store, .panel] ∧ s.store.state = .online ∧
      (storeIs .offline s).store.state = .offline ∧
      ((after (.memoryTestDone true) s).power.selfTest.map (·.step)) = some .storeDescriptor ∧
      ((after (.memoryTestDone true) (storeIs .offline s)).power.selfTest.map fun u => (u.step, u.codes)) =
        some (.panel, [(0, 0), (0, 0), (1, 2)]) := by decide

theorem witness_StoreInfoAndAssetInfoReport :
    (stocked ready).takes 1 ∧
      (stocked ready).catalog.pool.find? (fun a => a.inLive && a.key == 5) = some stillAsset ∧
      (stocked ready).catalog.pool.find? (fun a => a.inStaged && a.key == 5) = some stillAsset ∧
      (∀ a ∈ (stocked ready).catalog.pool, a.inLive = true → a.key ≠ 7) ∧ ready.catalog.staged = none ∧
      (stocked ready).catalog.staged.isSome = true := by decide

theorem witness_RemountBegins :
    ready.takes 1 ∧ ready.store.state ≠ .mounting ∧ ready.catalog.intake.state = .none ∧ ready.catalog.publish = none ∧
      ready.store.rootWrite = none ∧ ready.store.rootQueue = [] ∧ ready.power.selfTest = none ∧ ready.store.port = none ∧
      (onPort { purpose := .still 0, op := .pageRead ⟨0, 1⟩, limit := 50 } ready).store.port.isSome = true ∧
      (storeIs .mounting ready).store.state = .mounting ∧
      (withIntake { state := .failed } ready).catalog.intake.state = .failed := by decide

/-- A descriptor page with the values of the worked sequences (R202). -/
def chipPage : List Byte := [0, 64, 4, 0, 4, 5, 16, 10, 0, 50, 0]

theorem witness_DescriptorReadsEnd :
    State.reset.power.resetLow = false ∧
      State.reset.store.port = some { purpose := .mountDescriptor, op := .descriptorRead, limit := 50 } ∧
      descriptorOf (pageBytes ⟨.clean, chipPage⟩) = some chip ∧ descriptorOf (pageBytes ⟨.clean, []⟩) = none ∧
      (onPort { purpose := .still 0, op := .pageRead ⟨0, 1⟩, limit := 50, misses := 1 } ready).store.mount = .none := by
  decide +kernel

/-- A page without a root record. -/
def blankPage : PageRead := ⟨.clean, []⟩

/-- A REMOUNT's mount at a read of the root units, and at a read of the image. -/
def mountingRoots (rest : List Run) : State :=
  { ready with
    catalog := {}
    store :=
      { state := .mounting, startUp := false, descriptor := some { chip with protect := true }, mount := .roots [] rest
        port := some { purpose := .mountRoots, op := .pageRead ⟨0, 1⟩, limit := 50 } } }
def mountingImage (rest : List Run) : State :=
  { ready with
    catalog := {}
    store :=
      { state := .mounting, startUp := false, descriptor := some chip, mount := .image ⟨8, {}, [], []⟩ [] rest
        port := some { purpose := .mountImage, op := .pageRead ⟨128, 1⟩, limit := 50 } } }

theorem witness_MountReadsTheRootsAndTheImage_roots :
    (mountingRoots []).power.resetLow = false ∧
      (mountingRoots []).store.port = some { purpose := .mountRoots, op := .pageRead ⟨0, 1⟩, limit := 50 } ∧
      [PageRead.mk .uncorrectable []].length = (Run.mk 0 1).count ∧ (mountingRoots []).store.mount = .roots [] [] ∧
      newestRecord ([] ++ [PageRead.mk .uncorrectable []]) = none ∧ (mountingRoots []).store.startUp = false ∧
      (mountingRoots []).store.descriptor = some { chip with protect := true } ∧ (mountingRoots []).catalog.state = .empty ∧
      (mountingRoots []).catalog.pool = [] ∧ (mountingRoots []).catalog.liveImage = [] ∧
      (mountingRoots [⟨16, 16⟩]).store.mount = .roots [] [⟨16, 16⟩] := by decide

theorem witness_MountReadsTheRootsAndTheImage_image :
    (mountingImage []).power.resetLow = false ∧
      (mountingImage []).store.port = some { purpose := .mountImage, op := .pageRead ⟨128, 1⟩, limit := 50 } ∧
      (mountingImage []).store.mount = .image ⟨8, {}, [], []⟩ [] [] ∧
      (mountingImage [⟨144, 16⟩]).store.mount = .image ⟨8, {}, [], []⟩ [] [⟨144, 16⟩] ∧ [blankPage].all readable = true ∧
      [PageRead.mk .uncorrectable []].all readable = false ∧ (mountingImage []).store.descriptor = some chip ∧
      (mountingImage []).catalog.number = 0 ∧ [blankPage].length = (Run.mk 128 1).count := by decide

/-- The image of an empty catalog, and a root record that names it in unit 2, or names no image. -/
def emptyImage : List Byte := ({} : Catalog).imageBytes { glyphKey := 0, titles := [] }
def imageRecord : RootRecord :=
  { sequence := 9, image := ⟨[2], emptyImage.length, crc32 emptyImage⟩, settings := List.replicate 66 0, badUnits := [7] }

set_option maxRecDepth 100000 in
theorem witness_MountReadsTheRootsAndTheImage_records :
    newestRecord ([] ++ [⟨.clean, imageRecord.page⟩]) = some (imageRecord, 0) ∧
      newestRecord ([] ++ [⟨.clean, ({ imageRecord with image := {} } : RootRecord).page⟩]) =
        some ({ imageRecord with image := {} }, 0) ∧
      imageRecord.image.units ≠ [] ∧ imageReadable { chip with protect := true } imageRecord.image = true ∧
      chip.pagesPerUnit ≠ 0 ∧ (mountingRoots []).catalog.number = 0 ∧ (mountingRoots []).catalog.glyphKey = 0 ∧
      State.reset.store.startUp = true := by decide +kernel

/-- A root record whose image names a unit outside the store. -/
def lostRecord : RootRecord := { imageRecord with image := ⟨[60000], 16, 0⟩ }

set_option maxRecDepth 100000 in
theorem witness_MountReadsTheRootsAndTheImage_unreadable :
    newestRecord ([] ++ [⟨.clean, lostRecord.page⟩]) = some (lostRecord, 0) ∧ lostRecord.image.units ≠ [] ∧
      imageReadable { chip with protect := true } lostRecord.image = false ∧ (mountingRoots []).catalog.number = 0 := by
  decide +kernel

set_option maxRecDepth 100000 in
theorem witness_MountReadsTheRootsAndTheImage_newest :
    [blankPage, ⟨.clean, imageRecord.page⟩][1]?.bind rootRecordOf = some imageRecord ∧ rootRecordOf blankPage = none ∧
      (∃ b ∈ pageBytes ⟨.clean, imageRecord.page⟩, b ≠ 0xFF#8) ∧ readable ⟨.uncorrectable, []⟩ = false := by
  exact ⟨by decide +kernel, by decide +kernel, ⟨0, by decide +kernel, by decide⟩, by decide⟩

theorem witness_MountReadsTheRootsAndTheImage_loads :
    (buildCatalog imageRecord.image (([] ++ [PageRead.mk .clean emptyImage].flatMap pageBytes).take imageRecord.image.length)
        (mountingImage []).catalog).isSome = true ∧
      buildCatalog { imageRecord.image with check := 0 }
        (([] ++ [PageRead.mk .clean emptyImage].flatMap pageBytes).take imageRecord.image.length) (mountingImage []).catalog = none ∧
      [PageRead.mk .clean emptyImage].all readable = true := by decide +kernel

/-- An image whose glyph key names its one asset, and its mount at the last read. -/
def glyphImage : List Byte :=
  ({ pool := [{ stillAsset with kind := .glyphs, key := 9, length := 98312, extents := [⟨192, 25⟩], desc := {} }] } : Catalog).imageBytes
    { glyphKey := 9, titles := [] }
def glyphPart : ImagePart := ⟨[2], glyphImage.length, crc32 glyphImage⟩

set_option maxRecDepth 100000 in
theorem witness_MountReadsTheRootsAndTheImage_glyphs :
    let s := (mountingImage []).setStore { (mountingImage []).store with mount := .image { imageRecord with image := glyphPart } [] [] }
    let c := buildCatalog glyphPart (([] ++ [PageRead.mk .clean glyphImage].flatMap pageBytes).take glyphPart.length) s.catalog
    c.map (·.glyphKey) = some 9 ∧ ((c.bind fun c => c.liveRecord 9).map (·.uid)) = some 0 ∧
      ((after (.catalogImageReadDone [⟨.clean, glyphImage⟩]) s).catalog.glyphLoad.map fun g => (g.record, g.rest)) =
        some (0, [⟨208, 9⟩]) := by decide +kernel

/-- Waiting operations of three classes, one of them aged. -/
def waitingOps (age : Nat) : List WaitingOp :=
  [⟨.eraseBatch, .erase, .erase [4], age⟩, ⟨.still 3, .prefetch, .pageRead ⟨400, 2⟩, 1⟩,
    ⟨.laneUnits 0, .lane, .pageRead ⟨390, 1⟩, 0⟩]

theorem witness_PortIsGrantedByClassAndAge :
    ({ ready with store := { ready.store with arbiter := waitingOps 31 } } : State).choice =
        some (⟨.laneUnits 0, .lane, .pageRead ⟨390, 1⟩, 0⟩, 2) ∧
      ({ ready with store := { ready.store with arbiter := waitingOps 32 } } : State).choice =
        some (⟨.eraseBatch, .erase, .erase [4], 32⟩, 0) ∧
      (∃ x ∈ waitingOps 32, 32 ≤ x.passed) ∧ (∀ x ∈ waitingOps 31, x.passed < 32) ∧ ready.store.port = none := by decide +kernel

theorem witness_PortIsGrantedByClassAndAge_waiting :
    ({ ready with store := { ready.store with arbiter := waitingOps 0 } } : State).store.arbiter ≠ [] ∧
      ready.store.arbiter = [] ∧ (rootWriting).store.port.isSome = true := by decide

/-- A page program of a write stream, alone at the arbiter. -/
def asking (p : Purpose) (s : State) : State :=
  { s with store := { s.store with arbiter := [⟨p, .write, .pageProgram [], 0⟩] } }

/-- The part with a fill unit. -/
def filling (f : Option PagePos) (s : State) : State := { s with store := { s.store with fillUnit := f } }

/-- The part with its units in one state. -/
def unitsAre (k : UnitState) (s : State) : State := { s with store := { s.store with units := List.replicate 8 ⟨k, 0⟩ } }

theorem witness_PortIsGrantedByClassAndAge_programs :
    (asking .intakePage ready).choice = some (⟨.intakePage, .write, .pageProgram [], 0⟩, 0) ∧
      (asking .intakePage ready).store.descriptor = some chip ∧ (asking .rootPage ready).store.rootPos = some ⟨1, 3⟩ ∧
      (filling (some ⟨4, 63⟩) ready).store.fillUnit = some ⟨4, 63⟩ ∧ 63 < chip.pagesPerUnit ∧ ready.store.fillUnit = none ∧
      (ready.store.units[2]?).map (·.state) = some .freeClean ∧
      (∀ v, v < 2 → (ready.store.units[v]?).map (·.state) ≠ some .freeClean) ∧
      ((publishing ready).catalog.publish.map fun q => (q.units, q.nextPage)) = some ([], 0) ∧
      (∀ x ∈ (unitsAre .erasing ready).store.units, x.state ≠ .freeClean) ∧
      (∀ x ∈ (unitsAre .sealed ready).store.units, x.state ≠ .freeDirty ∧ x.state ≠ .erasing) ∧
      (withIntake { state := .open } ready).catalog.intake.state = .open := by decide

theorem witness_PortIsGrantedByClassAndAge_image_units :
    let s := fun k => publishing (unitsAre k (asking .imagePage ready))
    (s .sealed).choice = some (⟨.imagePage, .write, .pageProgram [], 0⟩, 0) ∧ (s .sealed).store.port = none ∧
      ((s .sealed).catalog.publish.map (·.units)) = some [] ∧ (∀ x ∈ (s .erasing).store.units, x.state ≠ .freeClean) ∧
      (∃ x ∈ (s .erasing).store.units, x.state = .freeDirty ∨ x.state = .erasing) ∧
      (∀ x ∈ (s .sealed).store.units, x.state ≠ .freeClean ∧ x.state ≠ .freeDirty ∧ x.state ≠ .erasing) ∧
      (after .portGrant (s .sealed)).catalog.publish = none := by decide

theorem witness_PortIsGrantedByClassAndAge_lanes_and_erases :
    let a : WaitingOp := ⟨.laneUnits 1, .lane, .pageRead ⟨390, 1⟩, 0⟩
    let b : WaitingOp := ⟨.laneHeader 0, .lane, .pageRead ⟨391, 1⟩, 0⟩
    let e : WaitingOp := ⟨.eraseBatch, .erase, .erase [4, 5], 0⟩
    let s : State := laneIs { playingLane with fill := 1 } ready
    ({ s with store := { s.store with arbiter := [b, a] } } : State).choice = some (a, 1) ∧
      ({ ready with store := { ready.store with arbiter := [e], batch := some ⟨[4, 5], false⟩ } } : State).choice = some (e, 0) := by
  decide

/-- The erase of units 4 and 5 on the port. -/
def erasing (unreported : List Nat) : State :=
  { onPort { purpose := .eraseBatch, op := .erase [4, 5], limit := 20, unreported := unreported } ready with
    store :=
      { (onPort { purpose := .eraseBatch, op := .erase [4, 5], limit := 20, unreported := unreported } ready).store with
        batch := some ⟨[4, 5], true⟩ } }

theorem witness_EraseReportsAndDeadline :
    (erasing [4, 5]).power.resetLow = false ∧ (erasing [4, 5]).store.batch = some ⟨[4, 5], true⟩ ∧
      (erasing [4, 5]).store.cleanWait = [] ∧ (erasing [4, 5]).store.heldBack = [] ∧ (erasing [4, 5]).store.mount = .none ∧
      [4, 5].length + (erasing [4, 5]).store.badUnits.length ≤ 256 ∧
      (∀ u ∈ [4, 5], u < (erasing [4, 5]).store.units.length) ∧ [4, 5].Nodup := by decide

theorem witness_EraseReportsAndDeadline_batch :
    let st := (unitsAre .freeDirty ready).store
    st.descriptor = some chip ∧ st.state = .online ∧ st.batch = none ∧ st.port = none ∧ st.arbiter = [] ∧
      ((List.range st.units.length).filter fun u => (st.units[u]?).map (·.state) = some .freeDirty).take chip.batchSize =
        [0, 1, 2, 3, 4, 5, 6, 7] ∧
      (st.eraser.batch.map (·.units)) = some [0, 1, 2, 3, 4, 5, 6, 7] ∧ (storeIs .readOnly ready).store.state ≠ .online := by
  decide

theorem witness_EraseReportsAndDeadline_waiting_pages :
    let wait := fun (w : CleanWait) (s : State) => ({ s with store := { s.store with cleanWait := [w] } } : State)
    let s := wait (.relocation false) (withIntake
      { state := .open, key := 5, record := 0, writer := { outstanding := true, failures := 1, reloc := some ⟨[384], [384], [], false⟩ } }
      (stocked (unitsAre .erasing (erasing [4, 5]))))
    let q : Publish := { tag := 4, number := 4, image := [], check := 0, writer := { reloc := some ⟨[], [], [], false⟩ } }
    (wait (.program ⟨.intakePage, .write, .pageProgram [], 3⟩) (erasing [4, 5])).store.cleanWait =
        .program ⟨.intakePage, .write, .pageProgram [], 3⟩ :: [] ∧
      s.power.resetLow = false ∧ s.store.state = .online ∧ s.store.port.map (·.orphan) = some false ∧
      s.store.cleanWait = [.relocation false] ∧
      (∀ v, v < 4 → (s.store.units[v]?).map (·.state) ≠ some .freeClean) ∧ s.store.heldBack = [] ∧ s.store.mount = .none ∧
      s.catalog.intake.writer.reloc.map (·.moved) = some [] ∧ q.writer.reloc.map (fun r => (r.src, r.moved)) = some ([], []) ∧
      (after (.eraseUnitReport 4 true) s).store.fillUnit = some ⟨4, 0⟩ := by decide

/-- A glyph load at its last read. -/
def glyphLoading : State :=
  onPort { purpose := .glyph, op := .pageRead ⟨385, 1⟩, limit := 50 }
    { stocked ready with
      catalog := { (stocked ready).catalog with glyphLoad := some { record := 0, rest := [], data := [] } } }

theorem witness_RelocationAndGlyphReads :
    glyphLoading.store.heldBack = [] ∧ glyphLoading.store.mount = .none ∧ readable blankPage = true ∧
      [blankPage].length = (Run.mk 385 1).count ∧ glyphLoading.catalog.record 0 = some stillAsset ∧ stillAsset.uid = 0 ∧
      stillAsset.inLive = true ∧ glyphLoading.catalog.glyphLoad = some { record := 0, rest := [], data := [] } := by decide

/-- A page program of a write stream on the port, in unit 6 of the part. -/
def programming (p : Purpose) (s : State) : State :=
  onPort { purpose := p, op := .pageProgram [], limit := 5, page := 385 } (filling (some ⟨6, 1⟩) s)

/-- An OPEN intake of record 0, whose page 384 stands in unit 6, with a page on the port. -/
def intakeProgram (k : Intake) : State :=
  programming .intakePage
    (withIntake k { stocked ready with catalog := { (stocked ready).catalog with
      pool := [{ stillAsset with extents := [⟨384, 1⟩], state := .filling, inLive := false }] } })

/-- R106: a record removed while the port finishes the program of an aborted intake releases its units at once. -/
theorem test_removal_beside_an_aborted_intake :
    let s := onPort { purpose := .intakePage, op := .pageProgram [], limit := 5, page := 385, orphan := true }
      { stocked ready with catalog := { (stocked ready).catalog with pool := [{ stillAsset with inLive := false }] } }
    let t := dropStaged 0 s
    t.catalog.pool = [] ∧ (t.store.units[6]?).map (·.holders) = some 0 ∧ t.store.port.map (·.releaseUnits) = some [] := by decide

/-- A publish with its page on the port, in unit 6. -/
def imageProgram (failures : Nat) : State :=
  let s := programming .imagePage (stocked ready)
  let p : Publish :=
    { tag := 4, number := 4, image := List.replicate 8192 0, check := 0, units := [6], nextPage := 1
      writer := { outstanding := true, failures := failures } }
  { s with catalog := { s.catalog with publish := some p } }

theorem witness_RelocationAndGlyphReads_programs :
    let s := intakeProgram { state := .open, key := 5, record := 0, writer := { outstanding := true } }
    s.store.port = some { purpose := .intakePage, op := .pageProgram [], limit := 5, page := 385 } ∧ s.power.resetLow = false ∧
      s.store.heldBack = [] ∧ s.store.mount = .none ∧ ProgramOutcome.fail ≠ .pass ∧ 6 = s.store.unitOfPage 385 ∧
      6 < s.store.units.length ∧ (s.store.units[2]?).map (·.state) = some .freeClean ∧ (2 : Nat) ≠ 6 ∧
      (∀ v, v < 2 → v ≠ 6 → (s.store.units[v]?).map (·.state) ≠ some .freeClean) ∧ s.store.badUnits.length < 256 ∧
      (s.catalog.record s.catalog.intake.record).isSome = true ∧ s.catalog.intake.writer.failures < 2 ∧
      s.catalog.intake.writer.reloc = none ∧ s.store.batch = none ∧ 256 ≤ (List.range 256).length ∧
      ((imageProgram 2).catalog.publish.map fun q => (q.writer.failures, q.writer.reloc)) = some (2, none) ∧
      (imageProgram 2).store.unitOfPage 385 = 6 ∧ s.store.fillUnit = some ⟨6, 1⟩ ∧ 1 + 1 < s.store.pagesPerUnit ∧
      ([] : List Nat).length < [384].length ∧ readable ⟨.uncorrectable, []⟩ = false := by decide +kernel

theorem witness_RelocationAndGlyphReads_more_glyph_reads :
    let s := glyphLoading.setCatalog { glyphLoading.catalog with glyphLoad := some { record := 0, rest := [⟨400, 2⟩], data := [] } }
    (s.catalog.glyphLoad.map (·.rest)) = some [⟨400, 2⟩] ∧ s.store.state = .online ∧ (storeIs .offline s).store.state ≠ .readOnly ∧
      [PageRead.mk .uncorrectable []].findIdx? (fun p => !readable p) = some 0 ∧ stillAsset.damaged = false ∧
      ((after (.glyphReadDone [blankPage]) s).store.arbiter.map (·.op)) = [.pageRead ⟨400, 2⟩] ∧
      (after (.glyphReadDone [blankPage]) (storeIs .offline s)).catalog.glyphLoad = none ∧
      ((after (.glyphReadDone [⟨.uncorrectable, []⟩]) s).catalog.record 0).map (·.damaged) = some true := by decide +kernel

theorem witness_RelocationAndGlyphReads_second_failure :
    let r : Relocation := ⟨[448, 449], [448, 449], [384], false⟩
    let s := intakeProgram { state := .open, key := 5, record := 0, writer := { outstanding := true, failures := 1, reloc := some r } }
    s.catalog.intake.writer.failures < 2 ∧ s.catalog.intake.writer.reloc = some r ∧ r.moved ++ r.src.drop r.moved.length = 384 :: [449] ∧
      (s.catalog.record s.catalog.intake.record).isSome = true ∧ s.store.unitOfPage 385 = 6 ∧ s.store.badUnits.length < 256 ∧
      (s.store.units[2]?).map (·.state) = some .freeClean := by decide +kernel

theorem witness_RelocationAndGlyphReads_end :
    let r : Relocation := ⟨[320], [320], [384], false⟩
    let base := intakeProgram { state := .open, key := 5, record := 0, writer := { outstanding := true, failures := 1, reloc := some r } }
    let a : Asset := { stillAsset with extents := [⟨320, 1⟩], state := .filling, inLive := false }
    let s := base.setCatalog { base.catalog with pool := [a] }
    let place := fun n : Nat => match (r.origin.zip r.moved).find? (·.1 == n) with | some x => x.2 | none => n
    let far := (List.range 16).map fun k => (⟨1000 + 2 * k, 1⟩ : Run)
    let long := far ++ [(⟨385, 1⟩ : Run)]
    s.store.port = some { purpose := .intakePage, op := .pageProgram [], limit := 5, page := 385 } ∧
      s.catalog.record s.catalog.intake.record = some a ∧ r.src.length ≤ r.moved.length ∧ s.store.fillUnit = some ⟨6, 1⟩ ∧
      1 < s.store.pagesPerUnit ∧ runPages [⟨384, 2⟩] = (runPages a.extents).map place ++ [385] ∧
      runPages long = (runPages far).map place ++ [385] ∧ 16 < long.length ∧ long.all (fun x => 0 < x.count) = true ∧
      long.IsChain (fun x y => x.first + x.count ≠ y.first) ∧
      (((after (.pageProgramDone .pass) s).catalog.record 0).map (·.extents)) = some [⟨384, 2⟩] := by decide +kernel

theorem witness_RelocationAndGlyphReads_image :
    let r : Relocation := ⟨[320, 321], [320, 321], [384], false⟩
    let s := imageProgram 1
    let m := s.setCatalog { s.catalog with publish := s.catalog.publish.map fun q => { q with writer := { q.writer with reloc := some r } } }
    (m.catalog.publish.bind (·.writer.reloc)) = some r ∧ r.moved.length < r.src.length ∧ m.store.heldBack = [] ∧
      m.store.mount = .none ∧ (m.catalog.publish.map (·.writer.failures)) = some 1 ∧ readable ⟨.uncorrectable, []⟩ = false ∧
      (onPort { purpose := .imageReadBack, op := .pageRead ⟨320, 1⟩, limit := 50 } m).store.port.map (·.purpose) =
        some .imageReadBack := by decide +kernel

theorem witness_StagesOpenAndAreDiscarded :
    ready.takes 1 ∧ ready.catalog.staged = none ∧ ready.catalog.publish = none ∧ (stocked ready).catalog.staged.isSome = true ∧
      (stocked ready).catalog.intake.state = .none ∧ ((stocked ready).catalog.pool.map (·.uid)).Nodup ∧
      (withIntake { state := .failed } (stocked ready)).catalog.intake.state = .failed ∧
      (publishing (stocked ready)).catalog.publish.isSome = true := by decide

theorem witness_TitlesArePutAndDropped :
    (stocked ready).takes 1 ∧ (stocked ready).catalog.staged = some { glyphKey := 0, titles := [{ titleA with clipKey := 0 }] } ∧
      (stocked ready).catalog.publish = none ∧ (∃ x ∈ [titleA], x.number = 1) ∧ (∀ x ∈ [titleA], x.number ≠ 65535) ∧
      [titleA].length < 2048 ∧ 2048 ≤ (List.replicate 2048 titleA).length ∧
      strictlyRising ([titleA, titleB].map (·.number)) = true ∧ (List.replicate 48 0#8).length ≤ 48 ∧
      48 < (List.replicate 49 0#8).length := by decide +kernel

theorem witness_TitleGetAndSetGlyphs :
    (stocked ready).takes 1 ∧ strictlyRising ((stocked ready).catalog.titles.map (·.number)) = true ∧ titleA ∈ [titleA, titleB] ∧
      1 < titleB.number ∧ (∀ y ∈ [titleA, titleB], 1 < y.number → titleB.number ≤ y.number) ∧
      (∀ x ∈ [titleA, titleB], x.number ≤ 65535) ∧ ready.catalog.staged = none := by decide

theorem witness_AssetsBegin :
    (stocked ready).takes 1 ∧ ((1 : Nat) ≤ 3 ∧ 67108864 ≤ 67108864) ∧ (stocked ready).catalog.publish = none ∧
      (stocked ready).catalog.intake.state = .none ∧ (stocked ready).store.state = .online ∧
      (stocked ready).catalog.pool.countP (·.inStaged) < 4096 ∧ (stocked ready).catalog.pool.length < 6144 ∧
      (∀ a ∈ (stocked ready).catalog.pool, a.uid < (stocked ready).catalog.nextUid) ∧
      ((stocked ready).catalog.pool.map (·.uid)).Nodup ∧
      (∀ a ∈ (stocked ready).catalog.pool, ∀ b ∈ (stocked ready).catalog.pool,
        a.inStaged = true → b.inStaged = true → a.key = b.key → a = b) ∧
      (4096 ≤ (List.replicate 4096 stillAsset).countP (·.inStaged) ∧
        ({ ready.catalog with pool := List.replicate 4096 stillAsset } : Catalog).stagedRecord 7 = none) := by decide +kernel

theorem witness_AssetsBegin_full_pool_and_replacement :
    let c : Catalog := { (stocked ready).catalog with pool := List.replicate 6144 clipAsset }
    6144 ≤ c.pool.length ∧ c.stagedRecord 5 = none ∧ c.pool.countP (·.inStaged) < 4096 ∧
      (stocked ready).catalog.stagedRecord 5 = some stillAsset ∧
      ({ (stocked ready).catalog with pool := [{ stillAsset with inLive := false }] } : Catalog).stagedRecord 5 =
        some { stillAsset with inLive := false } := by
  decide +kernel

/-- An OPEN intake of record 0 with the buffer nearly full. -/
def openIntake (fill : Nat) : State :=
  withIntake { state := .open, key := 5, record := 0, buffer := List.replicate fill 0 }
    { stocked ready with catalog := { (stocked ready).catalog with
        pool := [{ stillAsset with length := 65540, accepted := 65535, state := .filling, inLive := false }] } }

theorem witness_AssetDataIsTakenOrRefused :
    (openIntake 0).takes 1 ∧ (openIntake 0).catalog.intake.state = .open ∧
      (((openIntake 0).catalog.record 0).map fun a => (a.uid, a.accepted, a.length)) = some (0, 65535, 65540) ∧
      (65535 + 5 = 65540 ∧ 65535 + 6 > 65540 ∧ 65535 + 4 < 65540) ∧
      (withIntake { state := .failed, key := 5 } ready).catalog.intake.state = .failed ∧
      (withIntake { state := .finishing, key := 5 } ready).catalog.intake.state = .finishing ∧
      (∀ n : Nat, (List.replicate n 0#8).length = n) ∧ 65536 < 65535 + 2 ∧ 65535 + 1 ≤ 65536 :=
  ⟨by decide, by decide, by decide, by decide, by decide, by decide, fun _ => List.length_replicate, by decide, by decide⟩

theorem witness_AssetDataIsTakenOrRefused_asks :
    let s := withIntake { state := .open, key := 5, record := 0, buffer := List.replicate 4095 0 }
      { stocked ready with catalog := { (stocked ready).catalog with
        pool := [{ stillAsset with length := 5000, accepted := 4095, state := .filling, inLive := false }] } }
    let left := onPort { purpose := .intakePage, op := .pageProgram [], limit := 5, orphan := true } s
    s.catalog.intake.writer.outstanding = false ∧ (s.catalog.record 0).isSome = true ∧
      (after (.assetData 1 5 4095 [7]) s).store.arbiter.map (·.purpose) = [.intakePage] ∧
      (after (.assetData 1 5 4095 [7]) left).store.heldBack.map (·.purpose) = [.intakePage] := by decide +kernel

theorem witness_AssetDataIsTakenOrRefused_pages :
    let s := intakeProgram { state := .finishing, key := 5, record := 0, buffer := [1], writer := { outstanding := true } }
    s.store.port = some { purpose := .intakePage, op := .pageProgram [], limit := 5, page := 385 } ∧ s.store.heldBack = [] ∧
      s.store.mount = .none ∧ (s.catalog.record s.catalog.intake.record).map (·.extents) = some [⟨384, 1⟩] ∧
      s.catalog.intake.writer.reloc = none ∧ s.store.fillUnit = some ⟨6, 1⟩ ∧ 1 < s.store.pagesPerUnit ∧ 384 + 1 = 385 ∧
      s.catalog.intake.state = .finishing ∧ s.catalog.intake.buffer.drop 4096 = [] ∧ 385 / s.store.pagesPerUnit = 6 ∧
      (List.replicate 16 (Run.mk 0 1)).length = 16 ∧ (List.replicate 16 (Run.mk 0 1)).getLast? = some ⟨0, 1⟩ ∧ 0 + 1 ≠ 385 ∧
      headOf .still [1, 0, 0, 15, 0, 240, 0, 0] 100 = none ∧ (headOf .still [1, 0, 0, 240, 1, 0x68, 0, 0] 100).isSome = true ∧
      (headOf .clip [2, 0, 3, 0xC0, 2, 0x1C, 5, 0xDC, 0, 1, 0, 0] 22).isSome = true ∧
      (headOf .glyphs [3, 0, 1, 0, 16, 24, 0, 0] 98312).isSome = true ∧
      (List.replicate 8192 0#8).drop 4096 ≠ [] := by decide +kernel

theorem witness_PublishIsCheckedAndBegins :
    (stocked ready).takes 1 ∧ (stocked ready).catalog.staged.isSome = true ∧ (stocked ready).catalog.publish = none ∧
      (stocked ready).catalog.intake.state = .none ∧ (stocked ready).store.state = .online ∧
      (stocked ready).catalog.badReference { glyphKey := 0, titles := [{ titleA with clipKey := 0 }] } = none ∧
      (stocked ready).catalog.badReference { glyphKey := 0, titles := [titleA] } = some (1, 6) ∧
      (stocked ready).catalog.pool.countP (fun a => a.inLive && !a.inStaged && 0 < a.readers) ≤
        64 - (stocked ready).catalog.retiring.length ∧
      64 - (List.range 64).length < [{ clipAsset with readers := 1 }].countP (fun a => a.inLive && !a.inStaged && 0 < a.readers) ∧
      (stocked ready).store.port = none := by decide

theorem witness_PublishIsCheckedAndBegins_over_a_failed_intake :
    let s := withIntake { state := .failed, key := 5 } (stocked ready)
    s.takes 1 ∧ s.catalog.staged.isSome = true ∧ s.catalog.publish = none ∧ s.catalog.intake.state = .failed ∧
      s.store.state = .online := by
  decide

theorem witness_PublishIsCheckedAndBegins_behind_an_old_program :
    let p : PortOp := { purpose := .imagePage, op := .pageProgram [], limit := 5, orphan := true }
    let s := onPort p (stocked ready)
    s.takes 1 ∧ s.catalog.publish = none ∧ s.store.port = some p ∧ clientOf p.purpose = clientOf .imagePage ∧
      (after (.publish 1) s).store.heldBack.map (·.purpose) = [.imagePage] ∧ (after (.publish 1) s).store.arbiter = [] := by
  decide +kernel

theorem witness_SwitchMakesTheStageLive :
    (publishing (stocked ready)).catalog.publish.isSome = true ∧ (publishing (stocked ready)).catalog.staged.isSome = true ∧
      ((publishing (stocked ready)).catalog.pool.map (·.uid)).Nodup := by decide

/-- The root record of the publish in progress on the port. -/
def rootPublishing : State :=
  { publishing (stocked rootWriting) with
    store := { rootWriting.store with
      rootWrite := some { job := ⟨.publish, some ⟨[2], 16, 0⟩⟩, record := ⟨8, ⟨[2], 16, 0⟩, [], []⟩, failures := 0 } } }

theorem witness_SwitchMakesTheStageLive_programs :
    rootPublishing.power.resetLow = false ∧ rootPublishing.store.mount = .none ∧
      rootPublishing.store.port = some { purpose := .rootPage, op := .pageProgram [], limit := 5 } ∧
      rootPublishing.catalog.publish.isSome = true ∧ rootPublishing.catalog.staged.isSome = true ∧
      (rootPublishing.catalog.pool.map (·.uid)).Nodup ∧ (rootPublishing.store.rootWrite.map (·.job.client)) = some .publish ∧
      rootPublishing.store.rootPos = some ⟨1, 3⟩ ∧ (imageProgram 0).store.heldBack = [] ∧
      ((imageProgram 0).catalog.publish.map fun q => (q.writer.reloc, pagesFor q.image.length)) = some (none, 2) := by decide +kernel

/-- A switch with every kind of slot, a record of the previous generation in use, and a staged glyph set. -/
def switching (glyphLoad : Option GlyphLoad) : State :=
  let s := publishing (stocked ready)
  let glyph : Asset := { stillAsset with uid := 7, key := 9, kind := .glyphs, inLive := false, extents := [⟨386, 1⟩] }
  { s with
    catalog := { s.catalog with
      pool := [stillAsset, { clipAsset with readers := 1 }, glyph], liveImage := [7], glyphLoad := glyphLoad
      staged := some { glyphKey := 9, titles := [{ titleA with clipKey := 0 }] } }
    cache :=
      { slots := [{ state := .resident, ident := some ⟨5, 8⟩, stale := true }, { state := .resident, ident := some ⟨4, 8⟩ },
          { state := .resident, ident := some ⟨3, 8⟩ }, {}] ++ List.replicate 92 {}
        reuse := [0, 1], pins := [⟨.cell 0 0, 2⟩] } }

theorem witness_SwitchMakesTheStageLive_parts :
    let s := switching none
    let t := publishSwitch s
    s.catalog.publish.isSome = true ∧ s.catalog.staged.map (·.glyphKey) = some 9 ∧ (s.catalog.pool.map (·.uid)).Nodup ∧
      s.catalog.retiring = [] ∧ s.store.port = none ∧ s.catalog.glyphKey = 0 ∧ (s.cache.slot 0).stale = true ∧
      0 < s.cache.pinCount 2 ∧ s.cache.pinCount 1 = 0 ∧ s.catalog.liveImage.count 7 = 1 ∧
      (s.catalog.pool.find? fun a => a.inStaged && a.state == .complete && a.key == 9).map (·.uid) = some 7 ∧
      (switching (some ⟨7, [], []⟩)).catalog.glyphLoad = some ⟨7, [], []⟩ ∧
      (switching (some ⟨1, [], []⟩)).catalog.glyphs = none ∧
      (publishing (stocked ready)).catalog.staged.map (·.glyphKey) = some 0 ∧ t.catalog.retiring = [1] ∧
      (t.cache.slot 0).stale = false ∧ t.cache.slot 1 = {} ∧ (t.cache.slot 2).stale = true ∧ t.cache.reuse = [0] ∧
      (t.catalog.glyphLoad.map (·.record)) = some 7 ∧ (t.store.units[7]?).map (·.state) = some .freeDirty := by decide +kernel

theorem witness_SwitchMakesTheStageLive_after_a_relocation :
    let r : Relocation := ⟨[384], [384], [448], false⟩
    let s := imageProgram 1
    let m := s.setCatalog { s.catalog with publish := s.catalog.publish.map fun q =>
      { q with units := [5, 6], writer := { q.writer with reloc := some r } } }
    (m.catalog.publish.bind (·.writer.reloc)) = some r ∧ r.src.length ≤ r.moved.length ∧ m.store.heldBack = [] ∧
      m.store.port.map (·.releaseUnits) = some [] ∧ (m.catalog.publish.map (·.units)) = some [5, 6] ∧ [5, 6].Nodup := by
  decide +kernel

def sampleRecord : RootRecord :=
  { sequence := 4294967295, image := { units := [2, 3, 4, 5, 6, 7, 8, 65535], length := 16, check := 5 }
    settings := List.replicate 66 4294967295, badUnits := List.range' 65280 256 }

theorem witness_RootRecordsReadBack :
    0 < sampleRecord.sequence ∧ sampleRecord.sequence < 4294967296 ∧ sampleRecord.image.units.length ≤ 8 ∧
      (∀ u ∈ sampleRecord.image.units, u < 65536) ∧ sampleRecord.settings.length = 66 ∧
      (∀ v ∈ sampleRecord.settings, v < 4294967296) ∧ sampleRecord.badUnits.length ≤ 256 ∧
      (∀ u ∈ sampleRecord.badUnits, u < 65536) ∧ PageOutcome.corrected 3 ≠ .uncorrectable := by decide +kernel

theorem witness_PublishedImagesLoadBack :
    strictlyRising ([titleA, titleB].map (·.number)) = true ∧
      strictlyRising ((stocked ready).catalog.imageAssets.map (·.key)) = true ∧
      (stocked ready).catalog.imageAssets = [stillAsset] ∧ titleB.number < 65536 ∧ titleB.badge < 256 ∧ stillAsset.extents.length ≤ 16 ∧
      (∀ r ∈ stillAsset.extents, r.first < 4294967296 ∧ r.count < 65536) ∧ stillAsset.desc.width < 65536 := by decide

theorem witness_CacheInfoAndFlush : ready.takes 1 ∧ ready.cache.slots.length = 96 := by decide

/-- Slot 0 LOADING the still of `stillAsset`, and one more identity queued. -/
def loading : State :=
  { stocked ready with cache :=
      { slots := { state := .loading, ident := some ⟨5, 8⟩, cls := some .visible } :: List.replicate 95 {}
        queue := [⟨⟨5, 8⟩, .visible⟩]
        loads := [{ slot := 0, record := 0, length := 100, desc := stillAsset.desc, rest := []
                    data := [1, 0, 0, 16, 0, 16, 0, 0, 9, 9] }] } }

/-- The part as its store leaves service: a lane in each active state, a still load waiting for a read, an intake, a publish, a
settings save and a waiting batch, and the read of the glyph load at its second miss on the port. -/
def storeLeaving (k : Intake) : State :=
  let s := withIntake k (publishing loading)
  onPort { purpose := .glyph, op := .pageRead ⟨385, 1⟩, limit := 50, misses := 1 }
    { s with
      lanes := ⟨⟨playingLane, { playingLane with state := .priming, pendingTag := some 3 }, {}⟩, some 1, 2⟩
      store := { s.store with batch := some ⟨[4], false⟩ }
      power := { s.power with saveTag := some 6 } }

theorem witness_RemountBegins_leaves_service :
    let s : State := { loading with lanes := (storeLeaving {}).lanes, store := (storeLeaving {}).store }
    s.takes 1 ∧ s.store.state ≠ .mounting ∧ s.catalog.publish = none ∧ s.store.rootWrite = none ∧ s.store.rootQueue = [] ∧
      s.power.selfTest = none ∧ (s.lane 0).active = true ∧ (s.lane 1).pendingTag = some 3 ∧ (s.lane 2).active = false ∧
      s.link.helloSent = true ∧ s.link.occupancy < 24 ∧ s.cache.loads.map (·.slot) = [0] ∧
      (s.cache.slot 0).ident.isSome = true ∧ 0 ∉ s.cache.waitList ∧ s.cache.decoding ≠ some 0 ∧
      s.store.batch = some ⟨[4], false⟩ := by decide

theorem witness_DescriptorReadsEnd_out_of_service :
    let s := storeLeaving { state := .open, key := 5, record := 0 }
    let f := storeLeaving { state := .finishing, key := 5, record := 0, tag := 7 }
    let mounting := fun (step : MountStep) (first : Bool) => onPort { purpose := .mountRoots, op := .pageRead ⟨0, 1⟩, limit := 50, misses := 1 }
      { State.reset with store := { State.reset.store with mount := step, startUp := first, remountTag := some 9 } }
    s.power.resetLow = false ∧ s.store.port.map (·.misses) = some 1 ∧ s.store.port.bind (·.releaseReader) = none ∧
      s.store.mount = .none ∧ s.catalog.intake.state = .open ∧ f.catalog.intake.state = .finishing ∧
      s.catalog.publish.isSome = true ∧ s.power.saveTag = some 6 ∧ (s.lane 1).pendingTag = some 3 ∧ s.link.helloSent = true ∧
      s.link.occupancy < 24 ∧ (mounting (.roots [] []) true).store.mount = .roots [] [] ∧
      (mounting (.image ⟨8, {}, [], []⟩ [] []) false).store.startUp = false ∧
      (mounting (.roots [] []) true).power.settings = none ∧ State.reset.store.startUp = true ∧
      (mounting (.roots [] []) true).link.occupancy < 24 := by decide

theorem witness_StillLoadsBeginAndEnd :
    loading.power.resetLow = false ∧ loading.cache.loads.length < 2 ∧ loading.store.state = .online ∧
      loading.cache.clearWaiting = false ∧ loading.cache.queue = [⟨⟨5, 8⟩, .visible⟩] ∧ (⟨5, 8⟩ : Ident) ∉ loading.cache.failed ∧
      loading.catalog.isDamaged ⟨5, 8⟩ = false ∧ loading.catalog.liveStill ⟨5, 8⟩ = some stillAsset ∧
      1 < loading.cache.slots.length ∧ (loading.cache.slot 1).state = .free ∧ ∀ j, j < 1 → (loading.cache.slot j).state ≠ .free := by
  decide +kernel

theorem witness_StillLoadsBeginAndEnd_reads_and_decodes :
    let s := onPort { purpose := .still 0, op := .pageRead ⟨385, 1⟩, limit := 50 } loading
    let d : State := { loading with cache := { loading.cache with decoding := some 0 } }
    s.store.port = some { purpose := .still 0, op := .pageRead ⟨385, 1⟩, limit := 50 } ∧ s.store.mount = .none ∧
      [blankPage].all readable = true ∧ [blankPage].length = (Run.mk 385 1).count ∧
      (s.cache.loads.find? (·.slot == 0)).map (fun l => (l.slot, l.rest)) = some (0, []) ∧ d.cache.decoding = some 0 ∧
      (d.cache.slot 0).ident = some ⟨5, 8⟩ ∧ stillHeaderOk [1, 0, 0, 16, 0, 16, 0, 0, 9, 9] stillAsset.desc = true ∧
      smallPicture.width = stillAsset.desc.width ∧ smallPicture.height = stillAsset.desc.height ∧
      d.catalog.inLive ⟨5, 8⟩ = true ∧ ({ waitList := [0] } : StillCache).decoding = none ∧
      ({ clearWaiting := true } : StillCache).loads = [] := by decide +kernel

theorem witness_StillLoadsBeginAndEnd_bad_pictures :
    let d : State := { loading with cache := { loading.cache with decoding := some 0 } }
    d.cache.decoding = some 0 ∧ (d.cache.slot 0).ident = some ⟨5, 8⟩ ∧ 0 < d.cache.slots.length ∧
      stillHeaderOk [1, 0, 0, 16, 0, 17, 0, 0, 9, 9] stillAsset.desc = false ∧
      ({ smallPicture with width := 17 } : Picture).width ≠ stillAsset.desc.width ∧
      (after (.stillDecodeDone (some { smallPicture with width := 17 })) d).cache.failed = [⟨5, 8⟩] := by decide +kernel

theorem witness_StillLoadsBeginAndEnd_failed_list :
    let failed := (List.range 16).map fun k => (⟨100 + k, 9⟩ : Ident)
    let d : State := { loading with cache := { loading.cache with decoding := some 0, failed := failed } }
    (⟨5, 8⟩ : Ident) ∉ failed ∧ d.cache.failed = ⟨100, 9⟩ :: failed.drop 1 ∧ (failed.drop 1).length = 15 ∧
      loading.cache.failed.length < 16 ∧ (after (.stillDecodeDone none) d).cache.failed = failed.drop 1 ++ [⟨5, 8⟩] := by
  decide +kernel

theorem witness_StillLoadsBeginAndEnd_more_reads :
    let l : Load := { slot := 0, record := 0, length := 9000, desc := stillAsset.desc, rest := [⟨400, 2⟩], data := [] }
    let s := onPort { purpose := .still 0, op := .pageRead ⟨385, 1⟩, limit := 50 }
      { loading with cache := { loading.cache with loads := [l] } }
    s.cache.loads.find? (·.slot == 0) = some l ∧ (s.cache.slot 0).cls = some .visible ∧ s.store.heldBack = [] ∧
      s.store.state = .online ∧ (storeIs .offline s).store.state ≠ .readOnly ∧
      (after (.stillReadDone [blankPage]) s).store.arbiter.map (·.op) = [.pageRead ⟨400, 2⟩] ∧
      (after (.stillReadDone [blankPage]) (storeIs .offline s)).cache.loads = [] ∧
      (s.catalog.record l.record).map (·.damaged) = some false := by decide +kernel

/-- The identities of the live still, and of titles that have none. -/
def stillIdent : Ident := ⟨5, 8⟩
def goneIdent (k : Nat) : Ident := ⟨k, 9⟩

theorem witness_StillLoadsBeginAndEnd_offers :
    let c : StillCache := { queue := [⟨stillIdent, .visible⟩] ++ [⟨goneIdent 1, .prefetch⟩] }
    (∀ e ∈ [(⟨stillIdent, .visible⟩ : FetchEntry)], e.cls = .visible) ∧
      (∀ e ∈ [(⟨goneIdent 1, .prefetch⟩ : FetchEntry)], e.cls = .prefetch) ∧ c.slotOf (goneIdent 1) = none ∧
      c.slotOf (goneIdent 2) = none ∧ (∀ e ∈ c.queue, e.ident ≠ goneIdent 2) ∧ c.queue.length < 32 ∧
      (loading.cache.slotOf stillIdent).isSome = true ∧
      32 ≤ ((List.range 32).map fun k => (⟨goneIdent k, .prefetch⟩ : FetchEntry)).length ∧
      32 ≤ ((List.range 32).map fun k => (⟨goneIdent k, .visible⟩ : FetchEntry)).length := by
  decide +kernel

/-- Every slot RESIDENT, slot 3 at the head of the reuse list; the queue's heads may not be loaded. -/
def crowded (reuse : List Nat) : State :=
  { stocked ready with cache :=
      { slots := (List.range 96).map fun k => { state := .resident, ident := some ⟨1000 + k, 9⟩ }
        reuse := reuse, failed := [goneIdent 1]
        queue := [⟨goneIdent 1, .visible⟩, ⟨goneIdent 7, .visible⟩] ++ ⟨stillIdent, .visible⟩ :: [] } }

theorem witness_StillLoadsBeginAndEnd_evicts_and_removes :
    (crowded [3, 9]).power.resetLow = false ∧ (crowded [3, 9]).cache.loads.length < 2 ∧
      (∀ x ∈ [(⟨goneIdent 1, .visible⟩ : FetchEntry), ⟨goneIdent 7, .visible⟩], x.ident ∈ (crowded [3, 9]).cache.failed ∨
        (crowded [3, 9]).catalog.isDamaged x.ident = true ∨ (crowded [3, 9]).catalog.liveStill x.ident = none) ∧
      (∀ j, j < 96 → ((crowded [3, 9]).cache.slot j).state ≠ .free) ∧ (crowded [3, 9]).cache.reuse = 3 :: [9] ∧
      (crowded []).cache.reuse = [] ∧ (crowded []).cache.slots.length = 96 ∧
      (crowded []).catalog.liveStill stillIdent = some stillAsset ∧
      readRuns (takePages (pagesFor stillAsset.length) stillAsset.extents) = [⟨385, 1⟩] ∧ ready.store.port = none ∧
      2 ≤ (loading.cache.loads ++ loading.cache.loads).length ∧ loading.catalog.inLive (goneIdent 7) = false ∧
      [PageRead.mk .uncorrectable []].all readable = false := by
  decide +kernel

/-- A plan screen whose pending plan is sealed. -/
def sealedPlans : State := { ready with plans := ⟨{ sealMark := some ⟨.cut, 0, 9⟩ }, {}⟩ }

theorem witness_PlanEditsAreCheckedInCommon :
    sealedPlans.takes 1 ∧ (sealedPlans.plan 0).sealMark.isSome = true ∧ 0 = (0 : Fin 2).val ∧ 2 ≤ 2 := by decide

/-- The browse wall stands in the pending and the live plan of screen 0. -/
def walled : State := (lit .free).setPlan 0 { live := { wall := some browseWall }, pending := { wall := some browseWall } }

theorem witness_BackdropWallAndTitlesAreEdited :
    walled.takes 1 ∧ (walled.plan 0).sealMark = none ∧ (walled.plan 0).pending.wall = some browseWall ∧
      (200 ≤ browseWall.titles.length ∧ 200 + 0 ≤ browseWall.titles.length ∧ 0 ∉ [7] ∧ browseWall.titles.length - 0 + 312 ≤ 512) ∧
      (16 ≤ (880 - (6 - 1) * 8) / 6 ∧ 16 ≤ (680 - (4 - 1) * 8) / 4) ∧ ¬ 16 ≤ (100 - (6 - 1) * 8) / 6 ∧
      (ready.plan 0).pending.wall = none := by decide +kernel

theorem witness_ItemsWindowsAndRevertEdit :
    ready.takes 1 ∧ (ready.plan 1).sealMark = none ∧ (47 < 48 ∧ 2 < 3 ∧ (List.replicate 48 1#8).length ≤ 48) ∧
      48 < (List.replicate 49 1#8).length ∧ (3 ≤ 254 ∧ 254 ≠ 0xFF) := by decide

theorem witness_PresentIsCheckedAndSeals :
    walled.takes 1 ∧ walled.running 0 = true ∧ ready.running 0 = false ∧ (walled.plan 0).sealMark = none ∧
      6 * (4 + 1) + max 50 0 ≤ 80 ∧ 80 < 6 * (4 + 1) + max 51 0 ∧ (sealedPlans.plan 0).sealMark.isSome = true := by decide

/-- A wall whose content is shorter than its view. -/
def shortWall : Wall :=
  { rect := ⟨0, 0, 400, 300⟩, columns := 3, rows := 2, gap := 10, border := 2, focusColour := Rgb.white, titles := [1, 2] }

theorem witness_ScrollAndFocusAct_short_wall :
    1 ≤ shortWall.columns ∧ 1 ≤ shortWall.rows ∧ (shortWall.columns - 1) * shortWall.gap ≤ shortWall.rect.w ∧
      (shortWall.rows - 1) * shortWall.gap ≤ shortWall.rect.h ∧ shortWall.cellW = 126 ∧ shortWall.cellH = 145 ∧
      shortWall.viewW = 398 ∧ shortWall.viewH = 300 ∧ shortWall.contentH = 145 ∧ shortWall.contentH < shortWall.viewH ∧
      shortWall.scrollMax = 0 ∧ ({ shortWall with titles := [] } : Wall).contentH = 0 := by decide

theorem witness_ScrollAndFocusAct :
    walled.takes 1 ∧ (walled.plan 0).live.wall = some browseWall ∧ (walled.plan 1).live.wall = none ∧
      (511 < 512 ∧ 47 < 48) ∧ (0 ≤ browseWall.scrollMax ∧ 5160 ≤ browseWall.scrollMax) := by decide +kernel

theorem witness_ScrollAndFocusAct_at_vblank :
    walled.power.resetLow = false ∧ walled.running 0 = true ∧ (walled.screen 0).frameTimer = true ∧
      (walled.screen 0).back ≠ .composing := by
  decide

theorem witness_FadesStepAndTake :
    let p : PlanScreen := { transition := { fading := true, length := 8, step := 3, level := 191 }, sealMark := some ⟨.fade, 8, 2⟩ }
    p.transition.fading = true ∧ p.transition.length = 2 * 4 ∧ p.transition.step + 1 = 4 ∧
      (ready.plan 0).transition.fading = false ∧ (ready.plan 0).sealMark = none ∧ (sealedPlans.plan 0).sealMark.isSome = true := by
  decide

/-- A sealed plan over the browse wall with a cell record, its new wall of another geometry or with another first title. -/
def taking (w : Wall) : PlanScreen :=
  { live := { wall := some browseWall }, pending := { wall := some w }, sealMark := some ⟨.cut, 7, 9⟩
    cells := [⟨0, some 1, none, Rgb.black, .empty, false⟩, ⟨1, some 2, none, Rgb.black, .empty, false⟩] }

theorem witness_FadesStepAndTake_at_vblank :
    let s := walled.setPlan 0 (taking { browseWall with titles := [1, 7] })
    s.power.resetLow = false ∧ s.running 0 = true ∧ (s.screen 0).frameTimer = true ∧ (s.screen 0).back ≠ .composing ∧
      (s.plan 0).sealMark = some ⟨.cut, 7, 9⟩ ∧ ((transitionStep 0 s).plan 0).sealMark = none ∧
      ((transitionStep 0 s).plan 0).cells.map (·.index) = [0] ∧
      ((transitionStep 0 (walled.setPlan 0 (taking { browseWall with gap := 9 }))).plan 0).cells = [] ∧
      browseWall.gap ≠ 9 := by
  decide +kernel

theorem witness_PixelsAreScaledBlendedAndCorrected :
    139 < 140 ∧ 255 ≤ 255 ∧ rectHas ⟨-4, 0, 8, 8⟩ 3 7 = true ∧ rectHas ⟨-4, 0, 8, 8⟩ 4 7 = false ∧
      (2047 * 255 + 512 : Int).fdiv 1024 + 63 > 255 ∧ (-2048 * 255 + 512 : Int).fdiv 1024 - 64 < 0 := by decide

theorem witness_PixelsAreScaledBlendedAndCorrected_layers :
    let c : StillCache := { slots := [{ state := .resident, picture := some smallPicture }] }
    let x : PassContext :=
      { shot :=
          { plan := { wall := some browseWall, windows := ⟨some ⟨0, ⟨0, 0, 8, 8⟩⟩, none, none⟩
                      items := some centredItem :: List.replicate 47 none }
            position := 0, cells := [⟨0, .shown, some 0, Rgb.white⟩], posters := ⟨.black, .black, .black⟩
            focus := .wall 0, fade := 0, matrix := {} }
        views := [⟨⟨⟨.playing, .freeze, none⟩, ⟨.idle, .freeze, none⟩, ⟨.idle, .freeze, none⟩⟩, none⟩] }
    (c.slot 0).picture = some smallPicture ∧ x.shot.plan.wall = some browseWall ∧ x.views ≠ [] ∧
      (0 : Nat) < browseWall.titles.length ∧ (0 : Int) - 0 < browseWall.border ∧
      ((drawPass c x ⟨0, 0, 1920, 1080⟩ ⟨[], [], []⟩).ops.length) = 4 ∧ LaneState.ended ≠ .idle ∧
      (centredItem.glyphs.zipIdx.filter (·.1 ≠ 0)).length = 8 := by
  decide +kernel

theorem witness_VblanksBeginSwapOrMiss :
    (lit .free).power.resetLow = false ∧ ((lit .free).screen 1).state = .running ∧ ((lit .free).screen 1).frameTimer = true ∧
      ((lit .free).screen 1).back = .free ∧ ((lit .ready).screen 1).back = .ready ∧
      ((lit .composing).screen 1).back = .composing ∧
      ((openPass 1 (lit .composing)).compScreen 1).context.isSome = true := by decide

/-- The browse wall with a title that has a still, its slot RESIDENT and pinned, and a visible and a prefetch entry queued. -/
def resolving : State :=
  { (walled.setPlan 0 { walled.plan 0 with
      cells := [⟨0, some 1, some stillIdent, ⟨1, 2, 3⟩, .shown, true⟩, ⟨5, some 6, none, Rgb.black, .empty, false⟩] }) with
    catalog := (stocked ready).catalog
    cache :=
      { slots := { state := .resident, ident := some stillIdent, picture := some smallPicture } :: List.replicate 95 {}
        pins := [⟨.cell 0 0, 0⟩], queue := [⟨goneIdent 1, .visible⟩] ++ [⟨goneIdent 2, .prefetch⟩] } }

theorem witness_VblanksBeginSwapOrMiss_resolution :
    (resolving.cache.pins.map (·.place)).Nodup ∧ resolving.cache.queue = [⟨goneIdent 1, .visible⟩] ++ [⟨goneIdent 2, .prefetch⟩] ∧
      (∀ e ∈ [(⟨goneIdent 1, .visible⟩ : FetchEntry)], e.cls = .visible) ∧
      (∀ e ∈ [(⟨goneIdent 2, .prefetch⟩ : FetchEntry)], e.cls = .prefetch) ∧
      ((resolutionStep 0 resolving).plan 0).cells.length = 24 ∧
      ((resolutionStep 0 resolving).plan 0).cells.head? = some ⟨0, some 1, some stillIdent, ⟨1, 2, 3⟩, .shown, true⟩ ∧
      (resolutionStep 0 resolving).cache.queue = [] ∧ (resolving.cache.slot 0).state = .resident ∧
      resolving.cache.slotOf stillIdent = some 0 := by
  decide +kernel

theorem witness_VblanksBeginSwapOrMiss_snapshot :
    (resolving.plan 0).cells[0]? = some ⟨0, some 1, some stillIdent, ⟨1, 2, 3⟩, .shown, true⟩ ∧
      (resolving.plan 0).cells[1]?.map (·.appearance) = some .empty ∧
      (⟨some stillIdent, true, some ⟨1, 2, 3⟩, true⟩ : Poster).ident.bind resolving.cache.slotOf = some 0 ∧
      (resolving.cache.slot 0).state = .resident := by decide +kernel

/-- Screen 1 in a step of its panel sequence. -/
def sequencing (st : ScreenState) (q : SeqStep) (wanted : Bool) : State :=
  ready.setScreen 1 { ready.screen 1 with state := st, sequence := some q, wantedOn := wanted }

theorem witness_PanelSequencesRun :
    ((sequencing .waking .wake20 true).screen 1).state = .waking ∧
      ((sequencing .waking .wake100 false).screen 1).sequence = some .wake100 ∧
      ((sequencing .sleeping .sleep50 false).screen 1).sequence = some .sleep50 ∧
      ((sequencing .sleeping .sleep20 true).screen 1).wantedOn = true ∧ ready.takes 1 := by decide

theorem witness_PanelSequencesRun_reports :
    let s := sequencing .waking .wake100 true
    let u : State := s.setPower { s.power with changing := true, reached := ⟨true, false⟩, setPowerTag := some 7 }
    let d : State := (sequencing .sleeping .sleep20 false).setPower { s.power with changing := true, reached := ⟨false, false⟩ }
    (u.screen 1).state = .waking ∧ (u.screen 1).sequence = some .wake100 ∧ (u.screen 1).wantedOn = true ∧
      u.power.changing = true ∧ u.power.reached.get (1 - 1) = true ∧ u.power.setPowerTag = some 7 ∧
      (d.screen 1).wantedOn = false ∧ (d.screen 1).sequence = some .sleep20 ∧ d.power.reached.get (1 - 1) = false ∧
      s.power.changing = false := by decide

theorem witness_LanePlayIsCheckedAndPrimes :
    let s : State := { lit .free with catalog := (stocked ready).catalog }
    s.takes 1 ∧ (3 = EndAction.clear.code) ∧ (s.lane 2).state = .idle ∧
      s.catalog.titles.find? (·.number == 1) = some titleA ∧ titleA.clipKey ≠ 0 ∧
      s.catalog.pool.find? (fun a => a.inLive && a.key == 6) = some clipAsset ∧ clipAsset.damaged = false ∧ s.running 1 = true ∧
      s.store.state = .online ∧ (∀ x ∈ s.catalog.titles, x.number = 65535 → x.clipKey = 0) ∧ ready.running 1 = false ∧
      ((laneIs playingLane s).lane 0).state = .playing := by decide

theorem witness_LanePlayIsCheckedAndPrimes_header_read :
    readRuns (takePages (pagesFor (12 + 10 * clipAsset.desc.units)) clipAsset.extents) = [⟨384, 1⟩] ∧
      (lit .free).store.port = none := by decide

theorem witness_LaneStopAndStatus :
    ready.takes 1 ∧ (ready.lane 0).state = .idle ∧ ((laneIs playingLane ready).lane 0).state = .playing ∧
      ((laneIs { playingLane with state := .held } ready).lane 0).state = .held ∧
      ((laneIs { playingLane with state := .priming, pendingTag := some 3 } ready).lane 0).pendingTag = some 3 := by decide

theorem witness_LaneStopAndStatus_releases :
    let p : PortOp := { purpose := .laneUnits 0, op := .pageRead ⟨384, 1⟩, limit := 50 }
    let s := onPort p (laneIs playingLane (stocked ready))
    let o := onPort { p with orphan := true, releaseReader := some 1 } (stocked ready)
    s.takes 1 ∧ (s.lane 0).clip = some 1 ∧ s.catalog.record 1 = some clipAsset ∧ s.store.port = some p ∧ p.orphan = false ∧
      clientOf p.purpose = .lane 0 ∧ (laneIs playingLane (stocked ready)).store.port = none ∧
      o.store.port = some { p with orphan := true, releaseReader := some 1 } ∧ o.store.mount = .none ∧
      [blankPage].length = (Run.mk 384 1).count ∧ [blankPage].all readable = true ∧ o.power.resetLow = false ∧
      clientOf (.laneHeader 0) = .lane 0 := by decide

/-- The first page of the clip of `clipAsset`: its header and its two index entries (R201). -/
def clipHeadPage : PageRead :=
  ⟨.clean, [2, 0, 0, 16, 0, 16, 0x0E, 0xA6, 0, 2, 0, 0, 0, 0, 0, 0, 0, 0, 0, 100, 0, 0, 0, 0, 0, 100, 0, 0, 0, 50, 1, 7]⟩

theorem witness_LaneReadsFillTheRing_header :
    let s := onPort { purpose := .laneHeader 0, op := .pageRead ⟨384, 1⟩, limit := 50 }
      (laneIs { playingLane with state := .priming, index := [], header := some { rest := [], data := [] } } (stocked ready))
    s.power.resetLow = false ∧ s.store.port = some { purpose := .laneHeader 0, op := .pageRead ⟨384, 1⟩, limit := 50 } ∧
      s.store.mount = .none ∧ (s.lane 0).header = some { rest := [], data := [] } ∧ (s.lane 0).clip = some 1 ∧
      s.store.heldBack = [] ∧ s.catalog.record 1 = some clipAsset ∧ [clipHeadPage].length = (Run.mk 384 1).count ∧
      [clipHeadPage].all readable = true ∧ clipHeaderOk (pageBytes clipHeadPage) clipAsset.desc = true ∧
      clipIndexOk (pageBytes clipHeadPage) 2 4096 ((List.range 2).map (unitEntryAt (pageBytes clipHeadPage))) = true := by
  decide +kernel

theorem witness_LaneReadsFillTheRing_refused_header :
    clipHeaderOk [] clipAsset.desc = false ∧ [PageRead.mk .uncorrectable []].all readable = false ∧
      clipIndexOk (pageBytes clipHeadPage) 2 100 ((List.range 2).map (unitEntryAt (pageBytes clipHeadPage))) = false ∧
      ({ rest := [⟨386, 1⟩], data := [] } : HeaderRead).rest = ⟨386, 1⟩ :: [] := by
  decide +kernel

theorem witness_LaneReadsFillTheRing_refused_header_is_told :
    ready.link.helloSent = true ∧ ready.link.occupancy < 39 ∧ 0 < clipAsset.desc.units ∧
      playingLane.index.length = 2 := by decide

theorem witness_LaneReadsFillTheRing_issue :
    clipIndex ≠ [] ∧ (laneIs playingLane (stocked ready)).catalog.record 1 = some clipAsset ∧ playingLane.mayRead = true ∧
      playingLane.clip = some 1 ∧ playingLane.readPos.unit < playingLane.index.length ∧ playingLane.fill + 150 ≤ 524287 ∧
      524287 < ({ playingLane with fill := 524138 } : Lane).fill + 150 ∧ playingLane.desc.units = playingLane.index.length ∧
      playingLane.endAction ≠ .loop := by decide

theorem witness_LaneReadsFillTheRing_wraps :
    (requestUnits (clipIndex.drop 0)).length = 2 ∧ 0 + 2 = clipAsset.desc.units ∧
      ({ playingLane with endAction := .loop, loops := 1 } : Lane).endAction = .loop ∧ 1 ≤ 255 ∧ clipAsset.inLive = true ∧
      ({ playingLane with endAction := .loop, loops := 0 } : Lane).loops = 0 ∧ 0 + 1 < 2 ^ 40 ∧
      ({ clipAsset with inLive := false } : Asset).inLive = false ∧
      readRuns (takePages (pagesFor (12 + 20 + 150) - 0) (dropPages 0 clipAsset.extents)) = [⟨384, 1⟩] ∧
      (stocked ready).store.port = none := by
  decide +kernel

theorem witness_LaneReadsFillTheRing_read :
    let r : Lane := { playingLane with request := some { start := 32, stop := 182, nextPage := 0, rest := [], data := [] } }
    let s := onPort { purpose := .laneUnits 0, op := .pageRead ⟨384, 1⟩, limit := 50 } (laneIs r (stocked ready))
    s.store.port = some { purpose := .laneUnits 0, op := .pageRead ⟨384, 1⟩, limit := 50 } ∧ (s.lane 0).request.isSome = true ∧
      (s.lane 0).clip = some 1 ∧ (s.lane 0).state = .playing ∧ (s.lane 0).skipping = false ∧
      (∀ e ∈ (s.lane 0).index, e.corrupt = false) ∧ s.store.mount = .none := by decide

theorem witness_LaneReadsFillTheRing_more_reads :
    let q : LaneRequest := { start := 32, stop := 182, nextPage := 0, rest := [⟨400, 1⟩], data := [] }
    let r : Lane := { playingLane with request := some q, ring := [⟨0, 0, 100, false, []⟩, ⟨1, 0, 50, false, []⟩] }
    let s := onPort { purpose := .laneUnits 0, op := .pageRead ⟨384, 1⟩, limit := 50 } (laneIs r (stocked ready))
    (s.lane 0).request = some q ∧ q.rest = ⟨400, 1⟩ :: [] ∧ s.store.heldBack = [] ∧ (s.lane 0).ring[1]? = some ⟨1, 0, 50, false, []⟩ ∧
      (s.lane 0).index[1]? = some ⟨100, 50, false, 7, false⟩ ∧ readable ⟨.uncorrectable, []⟩ = false ∧
      s.catalog.record 1 = some clipAsset ∧ ({ r with state := .starved } : Lane).state = .starved ∧
      ({ r with state := .priming } : Lane).decodePos.pass = 0 := by
  decide

/-- The playing lane with its first unit in the ring. -/
def fedLane : Lane :=
  { playingLane with ring := [{ unit := 0, pass := 0, length := 100, arrived := true, bytes := [] }], fill := 100 }

theorem witness_ClipUnitsAreDecodedInTurn :
    (laneIs fedLane ready).power.resetLow = false ∧ (laneIs fedLane ready).lanes.decoding = none ∧
      ((turnOrder 2).find? fun m => ((laneIs fedLane ready).lane m).eligible) = some 0 ∧ fedLane.eligible = true ∧
      fedLane.headUnit = some { unit := 0, pass := 0, length := 100, arrived := true, bytes := [] } ∧
      smallPicture.width = fedLane.desc.width ∧ fedLane.index[0]? = some ⟨0, 100, true, 0, false⟩ ∧ fedLane.skipped < 65535 ∧
      ({ fedLane with state := .starved, stallTimer := some 3000 } : Lane).stallTimer.isSome = true := by decide +kernel

/-- A lane whose decode position holds a corrupt unit, with a clean KEY after it. -/
def skippingLane : Lane :=
  { fedLane with
    index := [⟨0, 100, true, 0, true⟩, ⟨100, 50, true, 7, false⟩], decodePos := ⟨0, 0⟩
    ring := [⟨0, 0, 100, true, []⟩, ⟨1, 0, 50, true, []⟩], fill := 150 }

theorem witness_ClipUnitsAreDecodedInTurn_skips :
    let s := laneIs skippingLane (stocked ready)
    let k := laneIs { skippingLane with decodePos := ⟨1, 0⟩, ring := [⟨1, 0, 50, true, []⟩], skipping := true } (stocked ready)
    let f := laneIs { playingLane with state := .priming, decodePos := ⟨0, 1⟩, pendingTag := some 3 } (stocked ready)
    s.lanes.decoding ≠ some 0 ∧ (s.lane 0).decodePos.pass + 1 < 2 ^ 40 ∧ (s.lane 0).headUnit = some ⟨0, 0, 100, true, []⟩ ∧
      (s.lane 0).index[0]? = some ⟨0, 100, true, 0, true⟩ ∧ (s.lane 0).state = .playing ∧
      (k.lane 0).headUnit = some ⟨1, 0, 50, true, []⟩ ∧ (k.lane 0).index[1]? = some ⟨100, 50, true, 7, false⟩ ∧
      (k.lane 0).skipping = true ∧ (f.lane 0).state = .priming ∧ (f.lane 0).ready = false ∧ (f.lane 0).queue = [] ∧
      0 < (f.lane 0).decodePos.pass ∧ (f.lane 0).pendingTag = some 3 ∧ f.link.occupancy < 40 ∧
      (laneIs playingLane ready).lanes.decoding = none ∧ playingLane.headUnit = none ∧
      f.catalog.record 1 = some clipAsset ∧ smallPicture.height ≠ 3 := by decide +kernel

theorem witness_ClipUnitsAreDecodedInTurn_with_the_decoder_in_use :
    let shown : LanePicture := ⟨7, 0, 26250, 0, smallPicture⟩
    let r : Lane := { fedLane with state := .starved, queue := [shown], stallTimer := some 3000 }
    let s : State := { laneIs r ready with lanes := { (laneIs r ready).lanes with decoding := some 0 } }
    let p : State := laneIs { r with state := .priming, pendingTag := some 3 } s
    s.lanes.decoding = some 0 ∧ (s.lane 0).headUnit = fedLane.ring.head? ∧ (s.lane 0).active = true ∧
      (s.lane 0).queue = [shown] ∧ (s.lane 0).ready = false ∧ (s.lane 0).stallTimer.isSome = true ∧
      (p.lane 0).state = .priming ∧ p.lanes.decoding = some 0 ∧ (p.lane 0).pendingTag = some 3 ∧ p.link.helloSent = true ∧
      p.link.occupancy < 40 ∧ 0 * 2 * 3750 + 0 * 3750 < 2 ^ 48 := by
  decide +kernel

/-- 04_trailer_lanes.md, a starvation episode: the lane before VBLANK 15. -/
def starvingLane : Lane := { playingLane with clock := 21000, decodePos := ⟨6, 0⟩, desc := { clipAsset.desc with units := 2880 } }

theorem witness_PlayingLanesShowTheDuePicture :
    starvingLane.state = .playing ∧ starvingLane.clock + 1500 < 2 ^ 48 ∧ starvingLane.queue = [] ∧ starvingLane.pastEnd = false ∧
      displayTime starvingLane.desc starvingLane.decodePos ≤ starvingLane.clock + 1500 ∧
      ({ starvingLane with queue := [⟨6, 0, 22500, 7, smallPicture⟩] } : Lane).queue ≠ [] := by decide

/-- The last picture of a clip of two units is due; reading has stopped and the decode position has passed the final pass. -/
def endingLane (e : EndAction) : Lane :=
  { playingLane with
    clock := 6000, endAction := e, readingStopped := true, finalPass := some 0, endReason := some .clipEnd, decodePos := ⟨0, 1⟩
    queue := [⟨1, 0, 3750, 7, smallPicture⟩] }

theorem witness_PlayingLanesShowTheDuePicture_ends :
    (endingLane .poster).pastEnd = true ∧ (endingLane .poster).endTime = 7500 ∧ 7500 ≤ (endingLane .poster).clock + 1500 ∧
      (endingLane .poster).queue.drop ((endingLane .poster).queue.takeWhile fun p => p.time ≤ 7500).length = [] ∧
      (endingLane .loop).endAction = .loop ∧ (endingLane .clear).endAction = .clear ∧
      ({ endingLane .freeze with queue := [] } : Lane).queue = [] := by
  decide +kernel

theorem witness_PlayingLanesShowTheDuePicture_times :
    let r := endingLane .poster
    r.finalPass = some 0 ∧ (0 + 1) * r.desc.units * r.desc.period < 2 ^ 48 ∧ r.readingStopped = true ∧ 0 < r.decodePos.pass ∧
      1 * r.desc.units * r.desc.period + 1 * r.desc.period < 2 ^ 48 ∧ displayTime r.desc ⟨1, 1⟩ = 11250 := by decide +kernel

theorem witness_PlayingLanesShowTheDuePicture_begins :
    let shown : LanePicture := ⟨0, 0, 0, 7, smallPicture⟩
    let r : Lane := { playingLane with state := .priming, ready := true, queue := [shown, ⟨1, 0, 3750, 0, smallPicture⟩], pendingTag := some 3 }
    let s := laneIs r (lit .free)
    s.power.resetLow = false ∧ s.running 0 = true ∧ (s.screen 0).frameTimer = true ∧ (s.lane 0).clockScreen = 0 ∧
      (s.lane 0).ready = true ∧ (s.lane 0).queue = shown :: [⟨1, 0, 3750, 0, smallPicture⟩] ∧ (s.lane 0).pendingTag = some 3 ∧
      ({ r with state := .starved } : Lane).ready = true := by
  decide +kernel

theorem witness_LightModeAndStatus : ready.takes 1 ∧ 1 < 2 ∧ 1 = (1 : Fin 2).val := by decide

theorem witness_SamplesAreReadAndProcessed :
    ready.power.resetLow = false ∧ ready.light.sampleTimer = true ∧ ready.light.port = .idle ∧
      [some (5 : Int)].length < 2 ∧ ({ ready.light with port := .sample [some 12000, none] } : Light).port = .sample [some 12000, none] ∧
      ready.light.ambient.state ≠ .fault ∧ ready.light.ambient.misses < 7 ∧
      ({ ready.light.ambient with misses := 7 } : Sensor).misses = 7 := by decide

theorem witness_SamplesAreReadAndProcessed_faults :
    let s : State := { ready with light := { ready.light with port := .sample [none, none]
                                                              ambient := { state := .fault, misses := 8 }
                                                              temps := ⟨{ state := .fault, misses := 8 }, { misses := 7 }⟩ } }
    s.light.port = .sample [none, none] ∧ s.light.ambient.state = .fault ∧ (s.light.temps.get 0).state = .fault ∧
      (s.light.temps.get 1).misses = 7 ∧ (s.light.temps.get 1).state ≠ .fault ∧ (ready.light.temps.get 0).misses < 7 := by
  decide

theorem witness_CapsTargetsAndOutputsFollowTheirTables :
    ascending ([(0, 6554), (500, 13107), (5000, 32768)].map (·.1)) = true ∧ (500 ≤ 500 ∧ 500 < 5000) ∧
      ({} : LightScreen).manual = false ∧ curveValid ({} : LightScreen).curve = true ∧ ([12000] : List Nat) ≠ [] ∧
      (61 : Int) ≥ 60 ∧ (28671 : Nat) ≤ 28671 := by decide

/-! ### One step of the part -/

/-- 05_scanout_and_panels.md 5.9, time 2: a VBLANK swaps a READY buffer in and begins the next pass. -/
theorem test_vblank_swaps :
    ((after (.vblank 0 true) (lit .ready)).screen 0).front1 = true ∧ ((after (.vblank 0 true) (lit .ready)).screen 0).back = .composing ∧
      ((after (.vblank 0 true) (lit .ready)).screen 0).passCount = 1 := by decide +kernel
/-- 5.9, time 3: a missed frame. -/
theorem test_vblank_counts_a_missed_frame :
    ((after (.vblank 0 true) (lit .composing)).screen 0).missed = 1 ∧ ((after (.vblank 0 true) (lit .composing)).screen 0).passCount = 0 := by
  decide +kernel
/-- 5.10, 120 ms: the timer of WAKING expires with wanted power OFF. -/
theorem test_power_up_end_unwanted :
    ((after (.powerUpEnd 1) (sequencing .waking .wake100 false)).screen 1).state = .sleeping := by decide
/-- 5.10, 190 ms: the timer of SLEEPING expires with wanted power ON. -/
theorem test_power_down_end_wanted :
    ((after (.powerDownEnd 1) (sequencing .sleeping .sleep20 true)).screen 1).state = .waking := by decide
/-- 04_trailer_lanes.md, VBLANK 15 of the starvation episode. -/
theorem test_vblank_starves :
    ((after (.vblank 0 true) (laneIs starvingLane (lit .composing))).lane 0).state = .starved ∧
      ((after (.vblank 0 true) (laneIs starvingLane (lit .composing))).lane 0).stallTimer = some 3000 := by decide +kernel
/-- The same episode, VBLANK 17: the lane has recovered and acts at once. -/
theorem test_vblank_recovers :
    let r : Lane := { starvingLane with state := .starved, ready := true, queue := [⟨6, 0, 22500, 0, smallPicture⟩, ⟨7, 0, 26250, 0, smallPicture⟩] }
    ((after (.vblank 0 true) (laneIs r (lit .composing))).lane 0).clock = 22500 ∧
      ((after (.vblank 0 true) (laneIs r (lit .composing))).lane 0).queue.map (·.unit) = [7] := by decide +kernel
/-- 11_formats_and_codes.md 11.5: LANE_PLAY of a PLAYING lane is answered C0h with BUSY alone. -/
theorem test_lane_play_busy :
    (after (.lanePlay 9 0 1 2 0 2001 3000) (laneIs playingLane ready)).link.sending =
      some { kind := 0xC0, tag := 9, payload := [7] } := by decide +kernel
/-- 01_screen_plans.md 1.11: the reply of the SCROLL gives target 344 and maximum 5,160. -/
theorem test_scroll_reply :
    (after (.scroll 1 0 16 344) walled).link.sending =
      some { kind := 0xB8, tag := 1, payload := [0, 0, 0, 1, 0x58, 0, 0, 0x14, 0x28] } := by decide +kernel
/-- 1.11, pass 1: the position has moved to 16 and the records are 0..29. -/
theorem test_pass_start_scrolls :
    let s := walled.setPlan 0 { walled.plan 0 with scroll := { position := 0, target := 344, speed := 16 } }
    ((after (.vblank 0 true) s).plan 0).scroll.position = 16 ∧ ((after (.vblank 0 true) s).plan 0).cells.length = 30 := by
  decide +kernel
/-- 07_the_media_store.md, two erase batches: the deadline leaves the silent unit BAD and listed, and the port free. -/
theorem test_erase_deadline :
    (after .eraseDeadline (erasing [5])).store.badUnits = [5] ∧ (after .eraseDeadline (erasing [5])).store.port = none := by decide
theorem test_echo : (after (.echo 1 [0x55]) ready).link.sending = some { kind := 0x81, tag := 1, payload := [0, 0x55] } := by decide
theorem test_tag_zero : (after (.status 0) ready).link.sending = some { kind := 0x82, tag := 0, payload := [4] } := by decide
theorem test_congested_link_takes_no_request : after (.status 1) congested = congested := by decide +kernel
/-- 10_the_command_link.md, a congested link: the notice that is dropped sets the flag. -/
theorem test_notice_dropped : (notice 0xE2 [] congested).link.noticesDropped = true := by decide
theorem test_standby_sleeps_both_panels :
    ((after (.setPower 1 2) (lit .free)).screen 0).state = .sleeping ∧ (after (.setPower 1 2) (lit .free)).power.setPowerTag = some 1 := by
  decide +kernel
theorem test_setting_put_width_product :
    (after (.settingPut 1 0x50 1920) ready).link.sending = some { kind := 0x8C, tag := 1, payload := [0, 0x50, 0, 0, 7, 0x80] } ∧
      (after (.settingPut 1 0x53 1081) (after (.settingPut 1 0x54 1920) ready)).link.outbound =
        [{ kind := 0x8C, tag := 1, payload := [4] }] := by decide +kernel
theorem test_stage_open_twice_is_busy :
    (after (.stageOpen 2 0) (after (.stageOpen 1 0) ready)).link.outbound = [{ kind := 0x98, tag := 2, payload := [7] }] := by decide
theorem test_publish_incomplete :
    (after (.publish 1) { stocked ready with catalog := { (stocked ready).catalog with
      staged := some { glyphKey := 0, titles := [titleA] } } }).link.sending =
      some { kind := 0xA1, tag := 1, payload := [15, 0, 1, 0, 0, 0, 6] } := by decide +kernel
theorem test_decode_done_makes_the_slot_resident :
    let s : State := { loading with cache := { loading.cache with decoding := some 0 } }
    ((after (.stillDecodeDone (some smallPicture)) s).cache.slot 0).state = .resident := by decide +kernel
theorem test_descriptor_begins_the_root_reads :
    (after (.descriptorReadDone chipPage) State.reset).store.descriptor = some chip := by decide +kernel
theorem test_second_descriptor_miss_is_absent :
    (after .descriptorReadTimeout (after .descriptorReadTimeout State.reset)).store.state = .absent := by decide +kernel
theorem test_timebase_limits : [8954, 8955, 9045, 9046].map timebaseCode = [10, 0, 0, 9] := by decide
theorem test_header_read_primes :
    let s := onPort { purpose := .laneHeader 0, op := .pageRead ⟨384, 1⟩, limit := 50 }
      (laneIs { playingLane with state := .priming, index := [], header := some { rest := [], data := [] } } (stocked ready))
    ((after (.laneHeaderReadDone 0 [clipHeadPage]) s).lane 0).index = clipIndex := by decide +kernel

end Sys2Proof.Tests
end

section
/-!
The reset values of every block after a reset with a start-up (R24, R42, R62, R88, R102, R128, R150, R164, R171, R181, R194).
-/

namespace Sys2Proof.Machine

open Sys2Proof

@[simp] theorem Two.get_same {α : Type} (a : α) (i : Fin 2) : Two.get ⟨a, a⟩ i = a := by
  match i with
  | 0 => rfl
  | 1 => rfl

/-! ### What a start-up takes from the state after reset (R169, R171) -/

section StartUp

variable (causes : List ResetCause) (s : State)

@[simp] theorem startUp_link : (startUp causes s).link = {} := rfl
@[simp] theorem startUp_plan (i : Fin 2) : (startUp causes s).plan i = {} := Two.get_same _ i
@[simp] theorem startUp_compScreen (i : Fin 2) : (startUp causes s).compScreen i = {} := Two.get_same _ i
@[simp] theorem startUp_cache : (startUp causes s).cache = {} := rfl
@[simp] theorem startUp_lane (l : Fin 3) : (startUp causes s).lane l = {} := by
  match l with
  | 0 => rfl
  | 1 => rfl
  | 2 => rfl
@[simp] theorem startUp_store : (startUp causes s).store = State.reset.store := rfl
@[simp] theorem startUp_catalog : (startUp causes s).catalog = {} := rfl
@[simp] theorem startUp_light : (startUp causes s).light = {} := rfl
@[simp] theorem startUp_lightOf (i : Fin 2) : (startUp causes s).lightOf i = {} := Two.get_same _ i
@[simp] theorem startUp_power : (startUp causes s).power = { causes := causes } := rfl

/-- A screen after a reset is as at the first power-on but for the counter of its unspecified contents (R102, log entry 9). -/
theorem startUp_screen (i : Fin 2) : ∃ n, (startUp causes s).screen i =
    { active := if i = 0 then defaultTiming0 else defaultTiming1
      entries := if i = 0 then defaultTiming0 else defaultTiming1
      buffers := ⟨.unspecified n, .unspecified n⟩, spoils := n } := by
  match i with
  | 0 => exact ⟨s.screens.s0.spoils + 1, rfl⟩
  | 1 => exact ⟨s.screens.s1.spoils + 1, rfl⟩

end StartUp

/-- Every slot of the cache after a reset is FREE (R62). -/
theorem slot_reset {k : Nat} (h : k < 96) : ({} : StillCache).slot k = {} := by
  have hk : k < (List.replicate 96 ({} : Slot)).length := by simpa using h
  rw [StillCache.slot, List.getD_eq_getElem _ _ hk, List.getElem_replicate]

/-- The default curve is R155's, its five breakpoints alone. -/
theorem curve_reset : ({} : LightScreen).curve = [(0, 6554), (500, 13107), (5000, 32768), (20000, 52428), (60000, 65535)] := by
  decide

/-- Settles O3: each block is read off the state after reset. -/
theorem startUpLeavesEveryBlockAtItsResetValues : Obligations.StartUpLeavesEveryBlockAtItsResetValues := by
  refine ⟨fun causes s i l => ?_, fun causes s i => ?_⟩
  · intro t empty
    obtain ⟨n, hscreen⟩ := startUp_screen causes s i
    refine ⟨startUp_plan causes s i, startUp_compScreen causes s i, fun k hk => slot_reset hk, by simp [t], by simp [t],
      ⟨rfl, rfl⟩, ?_⟩
    simp [t, hscreen, defaultTiming0, defaultTiming1]
  · intro t
    exact ⟨by simp [t], by simp [t, State.reset], by simp [t, curve_reset, Light.filteredLux], by simp [t], by simp [t]⟩

end Sys2Proof.Machine
end

section
/-!
The edit requests and PRESENT of the Plan Unit (R3 to R9): one equation for each way an edit request can end, then the statements.
-/

namespace Sys2Proof.Machine

open Sys2Proof

/-! ### Screen numbers and answers at once -/

@[simp] theorem screenOf_val (i : Fin 2) : screenOf i.val = some i := dif_pos i.isLt

theorem screenOf_eq_none {n : Nat} (h : 2 ≤ n) : screenOf n = none := dif_neg (by omega)

@[simp] theorem laneOf_val (l : Fin 3) : laneOf l.val = some l := dif_pos l.isLt

theorem laneOf_eq_none {n : Nat} (h : 3 ≤ n) : laneOf n = none := dif_neg (by omega)

/-- An owner that replies at once leaves one message more, whatever it has changed outside the Link and what passes see. -/
theorem seenSince_reply_holdPlace (kind tag : Nat) (st : Status) (data : List Byte) {s t : State} (h : t.shows = s.shows) :
    (reply kind tag st data (holdPlace t)).seenSince s = answered kind tag st data t := by
  rw [reply_holdPlace, State.seenSince_of_shows s (by rw [answered_shows, h])]

/-! ### The ends of an edit request (R3) -/

section Edits

variable {kind tag n : Nat} {i : Fin 2} {s : State} {rule : Plan → Except Status Plan}
  {run : Host.Outcome State Fault Refusal}

/-- An edit of a screen that is none is refused (R3). -/
theorem edit_no_screen (h : run = .next ((editPlan kind tag n rule (holdPlace s)).seenSince s)) (hn : 2 ≤ n) :
    run = .next (answered kind tag .badParam [] s) := by
  rw [h, editPlan, screenOf_eq_none hn, seenSince_reply_holdPlace _ _ _ _ rfl]

/-- An edit of a sealed pending plan is refused (R3). -/
theorem edit_sealed (h : run = .next ((editPlan kind tag i rule (holdPlace s)).seenSince s))
    (hp : (s.plan i).sealMark.isSome = true) : run = .next (answered kind tag .sealed [] s) := by
  simp [h, editPlan, hp, seenSince_reply_holdPlace]

/-- An edit that its own rule refuses changes nothing (R3). -/
theorem edit_refused {st : Status} (h : run = .next ((editPlan kind tag i rule (holdPlace s)).seenSince s))
    (hp : (s.plan i).sealMark = none) (hr : rule (s.plan i).pending = .error st) :
    run = .next (answered kind tag st [] s) := by
  simp [h, editPlan, hp, hr, seenSince_reply_holdPlace]

/-- An edit that its own rule accepts replaces the pending plan (R3). -/
theorem edit_accepted {plan : Plan} (h : run = .next ((editPlan kind tag i rule (holdPlace s)).seenSince s))
    (hp : (s.plan i).sealMark = none) (hr : rule (s.plan i).pending = .ok plan) :
    run = .next (answered kind tag .ok [] (s.setPlan i { s.plan i with pending := plan })) := by
  have hedit : editPlan kind tag i rule (holdPlace s) =
      reply kind tag .ok [] (holdPlace (s.setPlan i { s.plan i with pending := plan })) := by
    simp only [editPlan, screenOf_val, holdPlace_plan, hp, hr, Option.isSome_none, Bool.false_eq_true, if_false]
    rfl
  rw [h, hedit, seenSince_reply_holdPlace _ _ _ _ (State.shows_setPlan s i _)]

end Edits

/-! ### What each edit request hands to the common checks -/

section Requests

variable {s : State} {tag : Nat} (h : s.takes tag) (n : Nat)
include h

theorem exec_planBackdrop (colour : Rgb) : exec (.planBackdrop tag n colour) s =
    .next ((editPlan 0x30 tag n (backdropRule colour) (holdPlace s)).seenSince s) := request_of_takes h

theorem exec_planWall (presence : Nat) (rect : Rect) (cols rows gap border : Nat) (focus : Rgb) :
    exec (.planWall tag n presence rect cols rows gap border focus) s =
      .next ((editPlan 0x31 tag n (wallRule presence rect cols rows gap border focus) (holdPlace s)).seenSince s) :=
  request_of_takes h

theorem exec_planTitles (start count : Nat) (titles : List Nat) : exec (.planTitles tag n start count titles) s =
    .next ((editPlan 0x32 tag n (titlesRule start count titles) (holdPlace s)).seenSince s) := request_of_takes h

theorem exec_planItem (index : Nat) (rect : Rect) (normal lit : Fill) (text : Rgb) (al scale : Nat) (glyphs : List Byte) :
    exec (.planItem tag n index rect normal lit text al scale glyphs) s =
      .next ((editPlan 0x33 tag n (itemRule index rect normal lit text al scale glyphs) (holdPlace s)).seenSince s) :=
  request_of_takes h

theorem exec_planItemClear (index : Nat) : exec (.planItemClear tag n index) s =
    .next ((editPlan 0x34 tag n (itemClearRule index) (holdPlace s)).seenSince s) := request_of_takes h

theorem exec_planWindow (window lane : Nat) (rect : Rect) : exec (.planWindow tag n window lane rect) s =
    .next ((editPlan 0x35 tag n (windowRule window lane rect) (holdPlace s)).seenSince s) := request_of_takes h

/-- PLAN_REVERT's rule for a screen that is one gives the live plan (R8). -/
theorem exec_planRevert (i : Fin 2) : exec (.planRevert tag i) s =
    .next ((editPlan 0x36 tag i (fun _ => .ok (s.plan i).live) (holdPlace s)).seenSince s) := by
  have howner : planRevertOwner tag i (holdPlace s) =
      editPlan 0x36 tag i (fun _ => .ok (s.plan i).live) (holdPlace s) := by
    simp [planRevertOwner]
  rw [← howner]
  exact request_of_takes h

/-- PLAN_REVERT is an edit request like the others, whatever its screen (R3, R8). -/
theorem exec_planRevert_edit : ∃ rule, exec (.planRevert tag n) s =
    .next ((editPlan 0x36 tag n rule (holdPlace s)).seenSince s) := by
  cases hn : screenOf n with
  | some i => exact ⟨fun _ => .ok (s.plan i).live, by
      rw [exec, execPlanRevert, request_of_takes h, planRevertOwner, hn]; rfl⟩
  | none => exact ⟨fun p => .ok p, by rw [exec, execPlanRevert, request_of_takes h, planRevertOwner, hn]⟩

end Requests

/-- Settles O44: every edit request runs through the common checks, whatever its own rule. -/
theorem planEditsAreCheckedInCommon : Obligations.PlanEditsAreCheckedInCommon := by
  intro s tag n c kind h hc
  have hedit : ∃ rule, exec c s = .next ((editPlan kind tag n rule (holdPlace s)).seenSince s) := by
    rcases hc with ⟨_, rfl, rfl⟩ | ⟨_, _, _, _, _, _, _, rfl, rfl⟩ | ⟨_, _, _, rfl, rfl⟩ |
      ⟨_, _, _, _, _, _, _, _, rfl, rfl⟩ | ⟨_, rfl, rfl⟩ | ⟨_, _, _, rfl, rfl⟩ | ⟨rfl, rfl⟩
    · exact ⟨_, exec_planBackdrop h n _⟩
    · exact ⟨_, exec_planWall h n _ _ _ _ _ _ _⟩
    · exact ⟨_, exec_planTitles h n _ _ _⟩
    · exact ⟨_, exec_planItem h n _ _ _ _ _ _ _ _⟩
    · exact ⟨_, exec_planItemClear h n _⟩
    · exact ⟨_, exec_planWindow h n _ _ _⟩
    · exact exec_planRevert_edit h n
  obtain ⟨rule, hrun⟩ := hedit
  refine ⟨edit_no_screen hrun, ?_⟩
  rintro i rfl hsealed
  exact edit_sealed hrun hsealed

/-! ### The edits' own rules (R4 to R7) -/

/-- The fields of a present wall are in range, its cells at least 16 by 16 (R4). -/
theorem wallRule_present {rect : Rect} {cols rows gap border : Nat} {focus : Rgb} {p : Plan}
    (h : 1 ≤ cols ∧ cols ≤ 8 ∧ 1 ≤ rows ∧ rows ≤ 6 ∧ gap ≤ 32 ∧ 2 ≤ border ∧ border ≤ 8 ∧ 1 ≤ rect.w ∧ 1 ≤ rect.h ∧
      16 ≤ (rect.w - (cols - 1) * gap) / cols ∧ 16 ≤ (rect.h - (rows - 1) * gap) / rows) :
    wallRule 1 rect cols rows gap border focus p =
      .ok { p with wall := some ⟨rect, cols, rows, gap, border, focus, (p.wall.map (·.titles)).getD []⟩ } := by
  rw [wallRule, if_neg (by decide), if_pos rfl]
  exact if_pos h

theorem wallRule_outOfRange {rect : Rect} {cols rows gap border : Nat} {focus : Rgb} {p : Plan}
    (h : ¬ (1 ≤ cols ∧ cols ≤ 8 ∧ 1 ≤ rows ∧ rows ≤ 6 ∧ gap ≤ 32 ∧ 2 ≤ border ∧ border ≤ 8 ∧ 1 ≤ rect.w ∧ 1 ≤ rect.h ∧
      16 ≤ (rect.w - (cols - 1) * gap) / cols ∧ 16 ≤ (rect.h - (rows - 1) * gap) / rows)) :
    wallRule 1 rect cols rows gap border focus p = .error .badParam := by
  rw [wallRule, if_neg (by decide), if_pos rfl]
  exact if_neg h

theorem wallRule_unknownPresence {presence : Nat} {rect : Rect} {cols rows gap border : Nat} {focus : Rgb} {p : Plan}
    (h : 2 ≤ presence) : wallRule presence rect cols rows gap border focus p = .error .badParam := by
  rw [wallRule, if_neg (by omega), if_neg (by omega)]

/-- A title range of the list is replaced by numbers that are titles, up to 512 in all (R5). -/
theorem titlesRule_accepted {start count : Nat} {new : List Nat} {p : Plan} {w : Wall} (hw : p.wall = some w)
    (h0 : 0 ∉ new) (h : start ≤ w.titles.length ∧ start + count ≤ w.titles.length ∧
      w.titles.length - count + new.length ≤ 512) :
    titlesRule start count new p =
      .ok { p with wall := some { w with titles := w.titles.take start ++ new ++ w.titles.drop (start + count) } } := by
  simp [titlesRule, hw, h0, h]

theorem titlesRule_outOfRange {start count : Nat} {new : List Nat} {p : Plan} {w : Wall} (hw : p.wall = some w)
    (h : w.titles.length < start ∨ w.titles.length < start + count ∨ 0 ∈ new ∨
      512 < w.titles.length - count + new.length) : titlesRule start count new p = .error .badParam := by
  by_cases h0 : 0 ∈ new
  · simp [titlesRule, h0]
  · have hr : ¬ (start ≤ w.titles.length ∧ start + count ≤ w.titles.length ∧
        w.titles.length - count + new.length ≤ 512) := by
      simp only [h0, false_or] at h
      omega
    rw [titlesRule, if_neg h0, hw]
    exact if_neg hr

theorem titlesRule_no_wall {start count : Nat} {new : List Nat} {p : Plan} (hw : p.wall = none) (h0 : 0 ∉ new) :
    titlesRule start count new p = .error .noSuch := by
  simp [titlesRule, hw, h0]

/-- Settles O45: each of the three rules in its cases, carried over by the ends of an edit request. -/
theorem backdropWallAndTitlesAreEdited : Obligations.BackdropWallAndTitlesAreEdited := by
  intro s tag i h hseal old put bad
  refine ⟨fun colour => edit_accepted (exec_planBackdrop h i colour) hseal rfl,
    fun presence rect cols rows gap border focus => ?_, fun start count new => ?_⟩
  · have hrun := exec_planWall h i presence rect cols rows gap border focus
    refine ⟨?_, fun hp => edit_refused hrun hseal (wallRule_unknownPresence hp), ?_⟩
    · rintro rfl
      exact edit_accepted hrun hseal rfl
    · rintro rfl
      refine ⟨fun hin => edit_accepted hrun hseal ?_, fun hout => edit_refused hrun hseal (wallRule_outOfRange hout)⟩
      rw [wallRule_present hin]
      cases (s.plan i).pending.wall <;> rfl
  · have hrun := exec_planTitles h i start count new
    refine ⟨fun h0 hw => edit_refused hrun hseal (titlesRule_no_wall hw h0),
      fun w hw => ⟨?_, fun hout => edit_refused hrun hseal (titlesRule_outOfRange hw hout)⟩⟩
    rintro ⟨hs, hc, h0, hn⟩
    have hl : (w.titles.take start).length = start := by simp [hs]
    refine ⟨w.titles.take start ++ new ++ w.titles.drop (start + count),
      edit_accepted hrun hseal (titlesRule_accepted hw h0 ⟨hs, hc, hn⟩), ?_, ?_, ?_⟩
    · simp [hl]
    · simp [hl]
    · simp [hl]

/-- The alignment of a code below 3 (R196). -/
theorem alignment_ofCode {al : Nat} (h : al < 3) :
    Alignment.ofCode al = some (if al = 0 then .left else if al = 1 then .center else .right) := by
  interval_cases al <;> rfl

theorem alignment_ofCode_none {al : Nat} (h : 3 ≤ al) : Alignment.ofCode al = none := by
  match al, h with
  | _ + 3, _ => rfl

theorem itemRule_accepted {index : Nat} {rect : Rect} {normal lit : Fill} {text : Rgb} {al scale : Nat}
    {glyphs : List Byte} {p : Plan}
    (h : index < 48 ∧ 1 ≤ rect.w ∧ 1 ≤ rect.h ∧ (scale = 1 ∨ scale = 2) ∧ glyphs.length ≤ 48) (ha : al < 3) :
    itemRule index rect normal lit text al scale glyphs p = .ok { p with items := p.items.set index (some
      { rect := rect, normal := normal, lit := lit, text := text, glyphs := glyphs, scale := scale
        alignment := if al = 0 then .left else if al = 1 then .center else .right }) } := by
  rw [itemRule, alignment_ofCode ha]
  exact if_pos h

theorem itemRule_outOfRange {index : Nat} {rect : Rect} {normal lit : Fill} {text : Rgb} {al scale : Nat}
    {glyphs : List Byte} {p : Plan}
    (h : 48 ≤ index ∨ rect.w = 0 ∨ rect.h = 0 ∨ 3 ≤ al ∨ (scale ≠ 1 ∧ scale ≠ 2) ∨ 48 < glyphs.length) :
    itemRule index rect normal lit text al scale glyphs p = .error .badParam := by
  by_cases ha : al < 3
  · rw [itemRule, alignment_ofCode ha]
    exact if_neg (by omega)
  · rw [itemRule, alignment_ofCode_none (by omega)]

theorem windowRule_none (w : Fin 3) (rect : Rect) (p : Plan) :
    windowRule w.val 0xFF rect p = .ok { p with windows := p.windows.set w none } := by
  simp [windowRule]

theorem windowRule_lane (w l : Fin 3) {rect : Rect} {p : Plan} (hw : 1 ≤ rect.w) (hh : 1 ≤ rect.h) :
    windowRule w.val l.val rect p = .ok { p with windows := p.windows.set w (some ⟨l, rect⟩) } := by
  have hl : l.val ≠ 0xFF := by omega
  simp [windowRule, hl, hw, hh]

theorem windowRule_outOfRange {window lane : Nat} {rect : Rect} {p : Plan}
    (h : 3 ≤ window ∨ (3 ≤ lane ∧ lane ≠ 0xFF) ∨ (lane ≠ 0xFF ∧ (rect.w = 0 ∨ rect.h = 0))) :
    windowRule window lane rect p = .error .badParam := by
  by_cases hw : window < 3
  · have hl : lane ≠ 0xFF := by omega
    rw [windowRule, dif_pos hw]
    simp only [hl, if_false]
    by_cases hlane : 3 ≤ lane
    · simp [laneOf_eq_none hlane]
    · have hr : ¬ (1 ≤ rect.w ∧ 1 ≤ rect.h) := by omega
      rw [show laneOf lane = some ⟨lane, by omega⟩ from dif_pos (by omega)]
      exact if_neg hr
  · rw [windowRule, dif_neg hw]

/-- Settles O46: the rules of items and windows in their cases, and the live plan for PLAN_REVERT. -/
theorem itemsWindowsAndRevertEdit : Obligations.ItemsWindowsAndRevertEdit := by
  intro s tag i h hseal old put bad
  refine ⟨fun index rect normal lit text al scale glyphs => ?_, fun index => ?_, fun window lane rect => ?_,
    edit_accepted (exec_planRevert h i) hseal rfl⟩
  · have hrun := exec_planItem h i index rect normal lit text al scale glyphs
    refine ⟨?_, fun hout => edit_refused hrun hseal (itemRule_outOfRange hout)⟩
    rintro ⟨hi, hw, hh, ha, hs, hg⟩
    exact edit_accepted hrun hseal (itemRule_accepted ⟨hi, hw, hh, hs, hg⟩ ha)
  · have hrun := exec_planItemClear h i index
    exact ⟨fun hi => edit_accepted hrun hseal (if_pos hi), fun hi => edit_refused hrun hseal (if_neg (by omega))⟩
  · have hrun := exec_planWindow h i window lane rect
    refine ⟨?_, fun hout => edit_refused hrun hseal (windowRule_outOfRange hout)⟩
    rintro w rfl
    refine ⟨?_, ?_⟩
    · rintro rfl
      exact edit_accepted hrun hseal (windowRule_none w rect _)
    · rintro l rfl hw hh
      exact edit_accepted hrun hseal (windowRule_lane w l hw hh)

/-! ### PRESENT (R9) -/

/-- A FADE's length as R9 gives it: clamped to 2..64, an odd length in between made even. -/
theorem fadeLength_eq (n : Nat) : fadeLength n = if n ≤ 2 then 2 else if 64 ≤ n then 64 else n + n % 2 := by
  rw [fadeLength]
  split
  · rw [max_eq_left (by omega)]
  · split
    · rw [min_eq_left (by omega), max_eq_right (by omega)]
    · rw [min_eq_right (by omega), max_eq_right (by omega)]

section Present

variable {s : State} {tag kind length : Nat} (h : s.takes tag)
include h

theorem exec_present (n : Nat) : exec (.present tag n kind length) s =
    .next ((presentOwner tag n kind length (holdPlace s)).seenSince s) := request_of_takes h

/-- A PRESENT whose owner answers at once with a status is refused with it. -/
theorem present_refused {n : Nat} {st : Status}
    (ho : presentOwner tag n kind length (holdPlace s) = reply 0x37 tag st [] (holdPlace s)) :
    exec (.present tag n kind length) s = .next (answered 0x37 tag st [] s) := by
  rw [exec_present h, ho, seenSince_reply_holdPlace _ _ _ _ rfl]

/-- A PRESENT of an unsealed plan on a RUNNING screen within the budget seals the plan and leaves its place held (R9). -/
theorem present_seals {i : Fin 2} (hk : kind < 2) (hs : (s.plan i).sealMark = none) (hr : s.running i = true)
    (hb : budgetSum (s.plan i) (s.plan (otherScreen i)) ≤ 80) :
    exec (.present tag i kind length) s = .next ((holdPlace s).setPlan i { s.plan i with
      sealMark := some (if kind = 0 then ⟨.cut, length, tag⟩ else ⟨.fade, fadeLength length, tag⟩) }) := by
  have hk' : ¬ 2 ≤ kind := by omega
  have hb' : ¬ 80 < budgetSum (s.plan i) (s.plan (otherScreen i)) := by omega
  have howner : presentOwner tag i kind length (holdPlace s) = (holdPlace s).setPlan i { s.plan i with
      sealMark := some (if kind = 0 then ⟨.cut, length, tag⟩ else ⟨.fade, fadeLength length, tag⟩) } := by
    simp [presentOwner, hk', hs, hr, hb']
  rw [exec_present h, howner, State.seenSince_of_shows s (State.shows_setPlan (holdPlace s) i _)]

end Present

/-- Settles O47: the checks of PRESENT in their order, then the seal. -/
theorem presentIsCheckedAndSeals : Obligations.PresentIsCheckedAndSeals := by
  intro s tag n kind length h req cells
  refine ⟨fun hbad => present_refused h ?_, ?_⟩
  · by_cases hn : 2 ≤ n
    · rw [presentOwner, screenOf_eq_none hn]
    · have hk : 2 ≤ kind := by omega
      rw [presentOwner, show screenOf n = some ⟨n, by omega⟩ from dif_pos (by omega)]
      exact if_pos hk
  · rintro i rfl hk p o sum
    have hk' : ¬ 2 ≤ kind := by omega
    have hcount : cells = cellCount := by
      funext w
      cases w <;> rfl
    have hsum : budgetSum (s.plan i) (s.plan (otherScreen i)) = sum := by
      simp only [sum, hcount]
      rfl
    refine ⟨fun hs => present_refused h ?_, fun hs hr => present_refused h ?_, fun hs hr => ⟨fun hb => present_refused h ?_,
      fun hb => ?_⟩⟩
    · simp [presentOwner, hk', show (s.plan i).sealMark.isSome = true from hs]
    · simp [presentOwner, hk', show (s.plan i).sealMark = none from hs, hr]
    · have hb' : 80 < budgetSum (s.plan i) (s.plan (otherScreen i)) := hsum ▸ hb
      simp [presentOwner, hk', show (s.plan i).sealMark = none from hs, hr, hb']
    · have hseals := present_seals (length := length) h hk hs hr (hsum ▸ hb)
      refine ⟨?_, ?_⟩
      · rintro rfl
        exact hseals
      · rintro rfl
        rw [← fadeLength_eq]
        exact hseals

end Sys2Proof.Machine
end

section
/-!
The Plan Unit's own motion: the transition step and the take (R11, R12), the scroll advance (R13), what a pass start leaves of a
plan (R10), and what a VBLANK leaves of the plans and the screens (R97).
-/

namespace Sys2Proof.Machine

open Sys2Proof

/-! ### Writing twice, and writing back what is there -/

@[simp] theorem State.setPlan_setPlan (s : State) (i : Fin 2) (p q : PlanScreen) :
    (s.setPlan i p).setPlan i q = s.setPlan i q := by
  simp [State.setPlan]

theorem otherScreen_ne (i : Fin 2) : otherScreen i ≠ i := by
  revert i; decide

theorem State.plan_setPlan_other (s : State) {i j : Fin 2} (p : PlanScreen) (h : j ≠ i) :
    (s.setPlan i p).plan j = s.plan j := Two.get_set_other _ _ h

@[simp] theorem State.setPlan_self (s : State) (i : Fin 2) : s.setPlan i (s.plan i) = s := by
  simp [State.setPlan, State.plan]

@[simp] theorem State.setScreen_setScreen (s : State) (i : Fin 2) (c d : Screen) :
    (s.setScreen i c).setScreen i d = s.setScreen i d := by
  simp [State.setScreen]

/-! ### Messages are not lost -/

/-- The Link changes from `a` to `b` without losing a message on its way to the host. -/
def Link.keeps (a b : Link) : Prop := a.queued <+: b.queued

theorem Link.keeps_refl (a : Link) : a.keeps a := List.prefix_refl _

theorem Link.keeps.trans {a b c : Link} (h : a.keeps b) (h' : b.keeps c) : a.keeps c := List.IsPrefix.trans h h'

theorem Link.keeps.mem {a b : Link} (h : a.keeps b) {m : LinkMsg} (hm : m ∈ a.queued) : m ∈ b.queued := h.subset hm

theorem Link.keeps_fillPlace (a : Link) (m : LinkMsg) : a.keeps (a.fillPlace m) :=
  ⟨[m], (Link.queued_fillPlace a m).symm⟩

theorem notice_keeps (kind : Nat) (payload : List Byte) (s : State) : s.link.keeps (notice kind payload s).link := by
  rw [Link.keeps, notice_queued]
  split
  · exact List.prefix_append _ _
  · exact List.prefix_refl _

/-! ### The take (R12) -/

/-- A plan record after a take (R12). -/
def PlanScreen.taken (p : PlanScreen) : PlanScreen :=
  { p with
    live := p.pending
    sealMark := none
    scroll := takeScroll p.live.wall p.pending.wall p.scroll
    cells := takeCells p.live.wall p.pending.wall p.cells }

theorem take_of_seal {i : Fin 2} {s : State} {m : Seal} (h : (s.plan i).sealMark = some m) :
    take i s = (s.setPlan i (s.plan i).taken).setLink (s.link.fillPlace (replyMsg 0x37 m.tag .ok [] .nothing)) := by
  rw [take, h]
  rfl

theorem take_of_no_seal {i : Fin 2} {s : State} (h : (s.plan i).sealMark = none) : take i s = s := by
  rw [take, h]

/-- A take after the transition record has been written. -/
theorem take_setPlan {i : Fin 2} {s : State} {p : PlanScreen} {m : Seal} (h : p.sealMark = some m) :
    take i (s.setPlan i p) =
      (s.setPlan i p.taken).setLink (s.link.fillPlace (replyMsg 0x37 m.tag .ok [] .nothing)) := by
  rw [take_of_seal (m := m) (by simpa using h)]
  simp

theorem takeScroll_speed (a b : Option Wall) (r : ScrollRec) : (takeScroll a b r).speed = r.speed := by
  unfold takeScroll; split <;> rfl

theorem takeScroll_other {a b : Option Wall} (r : ScrollRec) (h : a.isSome ≠ b.isSome) :
    takeScroll a b r = { r with position := 0, target := 0, down := true } := if_pos h

theorem takeScroll_alike {a b : Option Wall} (r : ScrollRec) (h : a.isSome = b.isSome) :
    takeScroll a b r = { r with position := min r.position (scrollMaxOf b), target := min r.target (scrollMaxOf b) } :=
  if_neg (not_not.2 h)

theorem takeCells_other {a b : Option Wall} (cells : List Cell) (h : a.isSome ≠ b.isSome) : takeCells a b cells = [] := by
  cases a <;> cases b <;> simp_all [takeCells]

theorem mem_takeCells {a b : Wall} {cells : List Cell}
    (h : a.rect = b.rect ∧ a.columns = b.columns ∧ a.rows = b.rows ∧ a.gap = b.gap) (c : Cell) :
    c ∈ takeCells (some a) (some b) cells ↔
      c ∈ cells ∧ c.index < b.titles.length ∧ a.titles[c.index]? = b.titles[c.index]? := by
  simp [takeCells, if_pos h]

theorem takeCells_sublist (a b : Wall) (cells : List Cell) : (takeCells (some a) (some b) cells).Sublist cells := by
  unfold takeCells
  dsimp only
  split
  · exact List.filter_sublist
  · exact List.nil_sublist _

/-! ### The transition step (R11) -/

/-- A plan record's transition after the step of a pass start, before a take (R11). -/
def PlanScreen.nextTransition (p : PlanScreen) : Transition :=
  let t := p.transition
  if t.fading then
    { t with step := t.step + 1, level := fadeLevel t.length (t.step + 1), fading := t.step + 1 < t.length }
  else
    match p.sealMark with
    | none => { t with level := 0 }
    | some m =>
      match m.kind with
      | .cut => { t with level := 0 }
      | .fade => { fading := true, length := m.length, step := 1, level := fadeLevel m.length 1 }

/-- The transition step makes a take: in the middle of a FADE, or at once for a CUT (R11). -/
def PlanScreen.takesNow (p : PlanScreen) : Bool :=
  if p.transition.fading then p.transition.step + 1 == p.transition.length / 2
  else
    match p.sealMark with
    | none => false
    | some m =>
      match m.kind with
      | .cut => true
      | .fade => m.length / 2 == 1

/-- The transition step writes the transition record and then makes a take, where one is due (R11). -/
theorem transitionStep_eq (i : Fin 2) (s : State) :
    transitionStep i s =
      let s' := s.setPlan i { s.plan i with transition := (s.plan i).nextTransition }
      if (s.plan i).takesNow then take i s' else s' := by
  unfold transitionStep PlanScreen.nextTransition PlanScreen.takesNow
  dsimp only
  cases hf : (s.plan i).transition.fading with
  | true => simp
  | false =>
    cases hs : (s.plan i).sealMark with
    | none => simp
    | some m =>
      cases hk : m.kind with
      | cut => simp [hk]
      | fade => simp [hk]

/-- A plan record after the transition step (R11, R12). -/
def PlanScreen.stepped (p : PlanScreen) : PlanScreen :=
  let q := { p with transition := p.nextTransition }
  if p.takesNow && p.sealMark.isSome then q.taken else q

@[simp] theorem PlanScreen.stepped_focus (p : PlanScreen) : p.stepped.focus = p.focus := by
  unfold PlanScreen.stepped; dsimp only; split <;> rfl

/-- The transition step changes the screen's plan record and the Link; a take's PRESENT is answered OK (R11, R12). -/
theorem transitionStep_frame (i : Fin 2) (s : State) :
    ∃ l, transitionStep i s = (s.setPlan i (s.plan i).stepped).setLink l ∧ s.link.keeps l ∧
      ∀ m : Seal, (s.plan i).sealMark = some m → (s.plan i).stepped.sealMark = none →
        replyMsg 0x37 m.tag .ok [] .nothing ∈ l.queued := by
  have hstep := transitionStep_eq i s
  cases hs : (s.plan i).sealMark with
  | none =>
    refine ⟨s.link, ?_, Link.keeps_refl _, by simp⟩
    rw [hstep]
    simp only [PlanScreen.stepped, hs, Option.isSome_none, Bool.and_false, Bool.false_eq_true, if_false]
    split
    · rw [take_of_no_seal (by simp)]; rfl
    · rfl
  | some m =>
    cases ht : (s.plan i).takesNow with
    | true =>
      refine ⟨s.link.fillPlace (replyMsg 0x37 m.tag .ok [] .nothing), ?_, Link.keeps_fillPlace _ _, ?_⟩
      · rw [hstep]
        simp only [PlanScreen.stepped, ht, hs, Option.isSome_some, Bool.and_true, if_true]
        exact take_setPlan rfl
      · rintro _ ⟨⟩ -
        simp [Link.queued_fillPlace]
    | false =>
      refine ⟨s.link, ?_, Link.keeps_refl _, ?_⟩
      · rw [hstep]
        simp [PlanScreen.stepped, ht]
        rfl
      · intro _ _ hn
        simp [PlanScreen.stepped, ht, hs] at hn

/-! ### The scroll advance (R13) -/

/-- A plan record after the scroll advance (R13). -/
def PlanScreen.scrolled (p : PlanScreen) : PlanScreen :=
  if p.live.wall.isSome then { p with scroll := p.scroll.advance } else p

theorem scrollAdvance_eq (i : Fin 2) (s : State) : scrollAdvance i s = s.setPlan i (s.plan i).scrolled := by
  cases h : (s.plan i).live.wall with
  | some w => simp [scrollAdvance, PlanScreen.scrolled, h]
  | none => simp [scrollAdvance, PlanScreen.scrolled, h]

/-! The scroll advance leaves every other field of a plan record alone (R13). -/

@[simp] theorem PlanScreen.scrolled_live (p : PlanScreen) : p.scrolled.live = p.live := by
  unfold PlanScreen.scrolled; split <;> rfl
@[simp] theorem PlanScreen.scrolled_pending (p : PlanScreen) : p.scrolled.pending = p.pending := by
  unfold PlanScreen.scrolled; split <;> rfl
@[simp] theorem PlanScreen.scrolled_sealMark (p : PlanScreen) : p.scrolled.sealMark = p.sealMark := by
  unfold PlanScreen.scrolled; split <;> rfl
@[simp] theorem PlanScreen.scrolled_transition (p : PlanScreen) : p.scrolled.transition = p.transition := by
  unfold PlanScreen.scrolled; split <;> rfl
@[simp] theorem PlanScreen.scrolled_focus (p : PlanScreen) : p.scrolled.focus = p.focus := by
  unfold PlanScreen.scrolled; split <;> rfl

theorem ScrollRec.advance_up {r : ScrollRec} (h : r.position < r.target) :
    r.advance = { r with position := min r.target (r.position + r.speed), down := true } := if_pos h

theorem ScrollRec.advance_down {r : ScrollRec} (h : r.target < r.position) :
    r.advance = { r with position := max r.target (r.position - r.speed), down := false } := by
  rw [ScrollRec.advance, if_neg (by omega), if_pos h]

theorem ScrollRec.advance_stay {r : ScrollRec} (h : r.position = r.target) : r.advance = r := by
  rw [ScrollRec.advance, if_neg (by omega), if_neg (by omega)]

theorem ScrollRec.advance_target (r : ScrollRec) : r.advance.target = r.target := by
  unfold ScrollRec.advance; split
  · rfl
  · split <;> rfl

theorem ScrollRec.advance_speed (r : ScrollRec) : r.advance.speed = r.speed := by
  unfold ScrollRec.advance; split
  · rfl
  · split <;> rfl

/-- The scroll advance stays between the position and the target (R13). -/
theorem ScrollRec.advance_le {r : ScrollRec} {n : Nat} (hp : r.position ≤ n) (ht : r.target ≤ n) :
    r.advance.position ≤ n := by
  rcases lt_trichotomy r.position r.target with h | h | h
  · rw [ScrollRec.advance_up h]; dsimp only; omega
  · rw [ScrollRec.advance_stay h]; exact hp
  · rw [ScrollRec.advance_down h]; dsimp only; omega

/-! ### What a pass start leaves of a plan (R10) -/

/-- A plan record with the records and wanted sets of a pass (R16 to R20). -/
def PlanScreen.withRecords (p : PlanScreen) (cells : List Cell) (posters : Three (Option Poster))
    (visible prefetch : List Ident) : PlanScreen :=
  { p with cells := cells, posters := posters, wantedVisible := visible, wantedPrefetch := prefetch, reResolve := false }

@[simp] theorem PlanScreen.withRecords_live (p : PlanScreen) (cells : List Cell) (posters : Three (Option Poster))
    (v w : List Ident) : (p.withRecords cells posters v w).live = p.live := rfl
@[simp] theorem PlanScreen.withRecords_pending (p : PlanScreen) (cells : List Cell) (posters : Three (Option Poster))
    (v w : List Ident) : (p.withRecords cells posters v w).pending = p.pending := rfl
@[simp] theorem PlanScreen.withRecords_sealMark (p : PlanScreen) (cells : List Cell) (posters : Three (Option Poster))
    (v w : List Ident) : (p.withRecords cells posters v w).sealMark = p.sealMark := rfl
@[simp] theorem PlanScreen.withRecords_transition (p : PlanScreen) (cells : List Cell) (posters : Three (Option Poster))
    (v w : List Ident) : (p.withRecords cells posters v w).transition = p.transition := rfl
@[simp] theorem PlanScreen.withRecords_focus (p : PlanScreen) (cells : List Cell) (posters : Three (Option Poster))
    (v w : List Ident) : (p.withRecords cells posters v w).focus = p.focus := rfl
@[simp] theorem PlanScreen.withRecords_scroll (p : PlanScreen) (cells : List Cell) (posters : Three (Option Poster))
    (v w : List Ident) : (p.withRecords cells posters v w).scroll = p.scroll := rfl

/-- The resolution step changes the screen's records and wanted sets and the cache alone (R16 to R20). -/
theorem resolutionStep_frame (i : Fin 2) (s : State) : ∃ cells posters v w cache,
    resolutionStep i s = (s.setPlan i ((s.plan i).withRecords cells posters v w)).setCache cache :=
  ⟨_, _, _, _, _, rfl⟩

/-- The appearance step after the resolution step changes the records once more (R21). -/
theorem appearanceStep_withRecords (i : Fin 2) (s : State) (p : PlanScreen) (cells : List Cell)
    (posters : Three (Option Poster)) (v w : List Ident) (cache : StillCache) :
    appearanceStep i ((s.setPlan i (p.withRecords cells posters v w)).setCache cache) =
      (s.setPlan i (p.withRecords (cells.map fun c =>
        { c with appearance := nextAppearance (c.ident.bind cache.stateOf == some .resident) c.appearance })
        posters v w)).setCache cache := by
  simp only [appearanceStep, State.setPlan, State.setCache, State.plan, Two.get_set_same, Two.set_set]
  rfl

/-- The Plan Unit's work at a pass start: the transition step, the scroll advance, new records and wanted sets, and the cache
(R10). -/
theorem passStartWork_frame (i : Fin 2) (s : State) : ∃ cells posters v w cache l,
    passStartWork i s =
      ((s.setPlan i ((s.plan i).stepped.scrolled.withRecords cells posters v w)).setCache cache).setLink l ∧
      s.link.keeps l ∧
      ∀ m : Seal, (s.plan i).sealMark = some m → (s.plan i).stepped.sealMark = none →
        replyMsg 0x37 m.tag .ok [] .nothing ∈ l.queued := by
  obtain ⟨l, hstep, hkeep, hreply⟩ := transitionStep_frame i s
  obtain ⟨cells, posters, v, w, cache, hres⟩ := resolutionStep_frame i (scrollAdvance i (transitionStep i s))
  have hwrites : ∀ p q r : PlanScreen, ((((s.setPlan i p).setLink l).setPlan i q).setPlan i r).setCache cache =
      ((s.setPlan i r).setCache cache).setLink l := fun p q r => by
    simp [State.setPlan, State.setCache, State.setLink]
  rw [passStartWork, hres, appearanceStep_withRecords, scrollAdvance_eq, hstep, hwrites]
  simp only [State.plan_setPlan, State.plan_setLink]
  exact ⟨_, posters, v, w, cache, l, rfl, hkeep, hreply⟩

/-- A screen record as a pass begins: a READY buffer has become the front (R97, R98). -/
def Screen.begun (c : Screen) : Screen :=
  { c with
    front1 := if c.back = .ready then !c.front1 else c.front1
    back := .composing
    passCount := (c.passCount + 1) % 4294967296 }

theorem passBegin_eq (i : Fin 2) (s : State) : passBegin i s = openPass i (passStartWork i (s.setScreen i
    { s.screen i with back := .composing, passCount := ((s.screen i).passCount + 1) % 4294967296 })) := rfl

/-- Scanout begins a pass unless one is in progress (R97). -/
theorem scanoutVblank_begins {i : Fin 2} {s : State} (h : (s.screen i).back ≠ .composing) :
    scanoutVblank i s = openPass i (passStartWork i (s.setScreen i (s.screen i).begun)) := by
  cases hb : (s.screen i).back with
  | composing => exact absurd hb h
  | free => simp [scanoutVblank, Screen.begun, passBegin_eq, hb]
  | ready => simp [scanoutVblank, Screen.begun, passBegin_eq, hb]

/-- Scanout counts a missed frame while a pass is in progress (R100). -/
theorem scanoutVblank_misses {i : Fin 2} {s : State} (h : (s.screen i).back = .composing) :
    scanoutVblank i s = s.setScreen i { s.screen i with missed := min 65535 ((s.screen i).missed + 1) } := by
  simp [scanoutVblank, h]

/-- What Scanout leaves at a VBLANK that begins a pass (R10, R25, R97, R98). -/
theorem scanoutVblank_frame {i : Fin 2} {s : State} (h : (s.screen i).back ≠ .composing) :
    ∃ cells posters v w cache l x, scanoutVblank i s = { s with
        screens := s.screens.set i (s.screen i).begun
        plans := s.plans.set i ((s.plan i).stepped.scrolled.withRecords cells posters v w)
        cache := cache, link := l
        comp := s.comp.set i { s.compScreen i with context := some x } } ∧ s.link.keeps l ∧
      ∀ m : Seal, (s.plan i).sealMark = some m → (s.plan i).stepped.sealMark = none →
        replyMsg 0x37 m.tag .ok [] .nothing ∈ l.queued := by
  obtain ⟨cells, posters, v, w, cache, l, hwork, hkeep, hreply⟩ :=
    passStartWork_frame i (s.setScreen i (s.screen i).begun)
  rw [scanoutVblank_begins h, hwork]
  exact ⟨cells, posters, v, w, cache, l, _, rfl, hkeep, hreply⟩

/-! ### The lanes' work at a VBLANK (R77 to R82) -/

/-- From `s` to `t` only the lanes, the Catalog, the store and the Link have changed, and no message is lost. -/
def LaneWork (s t : State) : Prop :=
  ∃ ls c st l, t = { s with lanes := ls, catalog := c, store := st, link := l } ∧ s.link.keeps l

theorem LaneWork.refl (s : State) : LaneWork s s := ⟨s.lanes, s.catalog, s.store, s.link, rfl, Link.keeps_refl _⟩

theorem LaneWork.trans {s t u : State} (h : LaneWork s t) (h' : LaneWork t u) : LaneWork s u := by
  obtain ⟨ls, c, st, l, rfl, hk⟩ := h
  obtain ⟨ls', c', st', l', rfl, hk'⟩ := h'
  exact ⟨ls', c', st', l', rfl, hk.trans hk'⟩

theorem laneWork_ite {c : Prop} [Decidable c] {s t u : State} (ht : LaneWork s t) (hu : LaneWork s u) :
    LaneWork s (if c then t else u) := by
  split
  · exact ht
  · exact hu

theorem laneWork_setLane (l : Fin 3) (r : Lane) (s : State) : LaneWork s (s.setLane l r) :=
  ⟨_, s.catalog, s.store, s.link, rfl, Link.keeps_refl _⟩

theorem laneWork_notice (kind : Nat) (payload : List Byte) (s : State) : LaneWork s (notice kind payload s) := by
  have hkeep := notice_keeps kind payload s
  obtain ⟨l, h⟩ := notice_link kind payload s
  rw [h] at hkeep ⊢
  exact ⟨s.lanes, s.catalog, s.store, l, rfl, hkeep⟩

theorem laneWork_teardown (l : Fin 3) (goal : LaneState) (keepShow : Bool) (s : State) :
    LaneWork s (teardown l goal keepShow s) := by
  unfold teardown
  dsimp only
  split
  · rename_i uid _ _
    obtain ⟨c, st, h⟩ := releaseReader_frame uid _
    exact ⟨_, c, st, s.link, by rw [h]; rfl, Link.keeps_refl _⟩
  · exact ⟨_, s.catalog, _, s.link, rfl, Link.keeps_refl _⟩

theorem laneWork_answerPlay (l : Fin 3) (status : Status) (data : List Byte) (s : State) :
    LaneWork s (answerPlay l status data s) := by
  unfold answerPlay
  split
  · exact ⟨_, s.catalog, s.store, _, rfl, Link.keeps_fillPlace _ _⟩
  · exact LaneWork.refl s

theorem laneWork_cueNotice (l : Fin 3) (passed : Bool) (p : LanePicture) (s : State) :
    LaneWork s (cueNotice l passed p s) := by
  unfold cueNotice
  split
  · exact LaneWork.refl s
  · exact laneWork_notice _ _ s

theorem laneWork_clipEnd (l : Fin 3) (s : State) : LaneWork s (clipEnd l s) := by
  have hended : LaneWork s (laneEndedNotice l (s.lane l).endReason
      (s.setLane l { s.lane l with endedReason := (s.lane l).endReason })) :=
    (laneWork_setLane l _ s).trans (laneWork_notice _ _ _)
  unfold clipEnd
  dsimp only
  split
  · exact hended.trans (laneWork_teardown _ _ _ _)
  · exact hended.trans ((laneWork_setLane _ _ _).trans (laneWork_teardown _ _ _ _))
  · exact hended.trans (laneWork_teardown _ _ _ _)
  · exact hended.trans (laneWork_teardown _ _ _ _)

theorem laneWork_foldl {α : Type} (f : State → α → State) (hf : ∀ s x, LaneWork s (f s x)) (xs : List α) (s : State) :
    LaneWork s (xs.foldl f s) := by
  induction xs generalizing s with
  | nil => exact LaneWork.refl s
  | cons x xs ih => exact (hf s x).trans (ih (f s x))

theorem laneWork_enterPlaying (l : Fin 3) (s : State) : LaneWork s (enterPlaying l s) := by
  unfold enterPlaying
  dsimp only
  split
  · exact (laneWork_setLane _ _ _).trans ((laneWork_cueNotice _ _ _ _).trans (laneWork_answerPlay _ _ _ _))
  · exact LaneWork.refl s

theorem laneWork_playStep (f : Nat) (l : Fin 3) (s : State) : LaneWork s (playStep f l s) := by
  have hpassed : ∀ (ps : List LanePicture) (u : State), LaneWork u (ps.foldl (fun s p => cueNotice l true p s) u) :=
    fun ps u => laneWork_foldl _ (fun s p => laneWork_cueNotice l true p s) ps u
  have hshown : ∀ (o : Option LanePicture) (u : State),
      LaneWork u (match o with | some p => cueNotice l false p u | none => u) := fun o u => by
    cases o with
    | none => exact LaneWork.refl u
    | some p => exact laneWork_cueNotice _ _ _ _
  unfold playStep
  refine laneWork_ite (laneWork_setLane _ _ _) (laneWork_ite ?_ ?_)
  · exact (laneWork_setLane _ _ _).trans ((hpassed _ _).trans ((hshown _ _).trans (laneWork_clipEnd _ _)))
  · exact (laneWork_setLane _ _ _).trans ((hpassed _ _).trans (hshown _ _))

theorem laneWork_laneVblank (f : Nat) (l : Fin 3) (s : State) : LaneWork s (laneVblank f l s) := by
  unfold laneVblank
  dsimp only
  split
  · exact laneWork_playStep _ _ _
  · split
    · exact laneWork_enterPlaying _ _
    · exact LaneWork.refl s
  · split
    · exact (laneWork_setLane _ _ _).trans (laneWork_playStep _ _ _)
    · exact LaneWork.refl s
  · exact LaneWork.refl s

/-- The lanes' work at a VBLANK changes the lanes, the Catalog, the store and the Link alone (R77 to R82). -/
theorem laneWork_lanesVblank (i : Fin 2) (s : State) : LaneWork s (lanesVblank i s) := by
  refine laneWork_foldl _ (fun s l => ?_) _ s
  split
  · exact laneWork_laneVblank _ _ _
  · exact LaneWork.refl s

/-! ### A VBLANK (R97) -/

/-- What the open passes see of a command (R35, R39). -/
theorem compScreen_seenSince (t s : State) (i : Fin 2) : (t.seenSince s).compScreen i = { t.compScreen i with
    context := (t.compScreen i).context.map fun x => if t.shows = s.shows then x else x.see t.shows } := by
  unfold State.seenSince
  by_cases h : t.shows = s.shows
  · simp [h]
  · simp only [if_neg h]
    match i with
    | 0 => rfl
    | 1 => rfl

theorem context_isSome_seenSince (t s : State) (i : Fin 2) :
    ((t.seenSince s).compScreen i).context.isSome = (t.compScreen i).context.isSome := by
  simp [compScreen_seenSince]

/-- A VBLANK of a RUNNING screen whose frame timer runs is the lanes' work and Scanout's, in the order given (R97). -/
theorem exec_vblank {s : State} {i : Fin 2} (hl : s.power.resetLow = false) (hr : s.running i = true)
    (hf : (s.screen i).frameTimer = true) (lanesFirst : Bool) :
    exec (.vblank i lanesFirst) s = .next ((eraserStep (if lanesFirst then scanoutVblank i (lanesVblank i s)
      else lanesVblank i (scanoutVblank i s))).seenSince s) := by
  have hstep := live_of_live (act := vblankStep i lanesFirst) hl
  rw [vblankStep, if_pos ⟨hr, hf⟩] at hstep
  exact hstep

/-- A VBLANK that begins a pass: the two works in either order leave the screen begun, its plan stepped and scrolled with new
records, and a pass context open; the other screen is untouched (R10, R25, R97, R98). -/
theorem vblank_begins {s : State} {i : Fin 2} (hl : s.power.resetLow = false) (hr : s.running i = true)
    (hf : (s.screen i).frameTimer = true) (hb : (s.screen i).back ≠ .composing) (lanesFirst : Bool) :
    ∃ t cells posters v w, exec (.vblank i lanesFirst) s = .next t ∧
      t.plans = s.plans.set i ((s.plan i).stepped.scrolled.withRecords cells posters v w) ∧
      t.screens = s.screens.set i (s.screen i).begun ∧ (t.compScreen i).context.isSome = true ∧
      ∀ m : Seal, (s.plan i).sealMark = some m → (s.plan i).stepped.sealMark = none →
        replyMsg 0x37 m.tag .ok [] .nothing ∈ t.link.queued := by
  have hexec := exec_vblank hl hr hf lanesFirst
  cases lanesFirst with
  | true =>
    obtain ⟨ls, c, st, l, hlanes, hkeep⟩ := laneWork_lanesVblank i s
    have hb' : ((lanesVblank i s).screen i).back ≠ .composing := by rw [hlanes]; exact hb
    obtain ⟨cells, posters, v, w, cache, l', x, hscan, -, hreply⟩ := scanoutVblank_frame hb'
    rw [if_pos rfl, hscan, hlanes] at hexec
    rw [hlanes] at hreply
    refine ⟨_, cells, posters, v, w, hexec, by simp; rfl, by simp; rfl, ?_, ?_⟩
    · rw [context_isSome_seenSince]
      simp [State.compScreen]
    · intro m hm hn
      simpa using hreply m hm hn
  | false =>
    obtain ⟨cells, posters, v, w, cache, l', x, hscan, -, hreply⟩ := scanoutVblank_frame hb
    obtain ⟨ls, c, st, l, hlanes, hkeep⟩ := laneWork_lanesVblank i (scanoutVblank i s)
    rw [if_neg (by decide), hlanes, hscan] at hexec
    rw [hscan] at hkeep
    refine ⟨_, cells, posters, v, w, hexec, by simp, by simp, ?_, ?_⟩
    · rw [context_isSome_seenSince]
      simp [State.compScreen]
    · intro m hm hn
      simpa using hkeep.mem (hreply m hm hn)

end Sys2Proof.Machine
end

section
/-!
SCROLL, FOCUS and the wall's quantities (R2, R13 to R15), and the transition step with its take (R10 to R12): the statements.
-/

namespace Sys2Proof.Machine

open Sys2Proof

/-! ### The quantities of a wall (R2) -/

section Wall

variable (w : Wall)

/-- The rows cover the titles, and the last row begins before their end (R2). -/
theorem Wall.rowsTotal_cover (hc : 1 ≤ w.columns) : w.titles.length ≤ w.rowsTotal * w.columns ∧
    (0 < w.titles.length → (w.rowsTotal - 1) * w.columns < w.titles.length) := by
  have hle := Nat.div_mul_le_self (w.titles.length + w.columns - 1) w.columns
  have hlt := Nat.lt_div_mul_add (a := w.titles.length + w.columns - 1) (b := w.columns) (by omega)
  rw [← Wall.rowsTotal] at hle hlt
  refine ⟨by omega, fun _ => ?_⟩
  rw [Nat.sub_mul, Nat.one_mul]
  omega

theorem Wall.rowsTotal_pos (hc : 1 ≤ w.columns) (hn : 0 < w.titles.length) : 0 < w.rowsTotal := by
  have hcover := (w.rowsTotal_cover hc).1
  by_contra h
  rw [show w.rowsTotal = 0 by omega, Nat.zero_mul] at hcover
  omega

theorem Wall.rowsTotal_of_empty (hc : 1 ≤ w.columns) (hn : w.titles.length = 0) : w.rowsTotal = 0 := by
  rw [Wall.rowsTotal, hn]
  exact Nat.div_eq_of_lt (by omega)

/-- Cells of the size R2 gives, with the gaps between them, fit the length they are cut from. -/
theorem gapped_le {n gap total : Nat} (h : (n - 1) * gap ≤ total) :
    n * ((total - (n - 1) * gap) / n) + (n - 1) * gap ≤ total := by
  have hmul := Nat.mul_div_le (total - (n - 1) * gap) n
  omega

/-- The size of a cell as an integer quotient (R2). -/
theorem cellSize_eq {n gap total : Nat} (hn : 1 ≤ n) (h : (n - 1) * gap ≤ total) :
    (((total - (n - 1) * gap) / n : Nat) : Int) = ((total : Int) - ((n : Int) - 1) * gap).fdiv n := by
  rw [Int.fdiv_eq_ediv_of_nonneg _ (by omega)]
  push_cast [Nat.cast_sub h, Nat.cast_sub hn]
  rfl

/-- The content's height, gaps between the rows counted (R2). -/
theorem Wall.contentH_eq (hc : 1 ≤ w.columns) (hn : 0 < w.titles.length) :
    (w.contentH : Int) = (w.rowsTotal : Int) * w.pitch - w.gap := by
  have hne : w.titles ≠ [] := List.length_pos_iff.1 hn
  have hgap : w.gap ≤ w.rowsTotal * w.pitch :=
    le_trans (Nat.le_add_left _ _) (Nat.le_mul_of_pos_left w.pitch (w.rowsTotal_pos hc hn))
  rw [Wall.contentH, if_neg hne, Nat.cast_sub hgap, Nat.cast_mul]

end Wall

/-! ### SCROLL and FOCUS (R14, R15) -/

section Requests

variable {s : State} {tag n : Nat} (h : s.takes tag)
include h

/-- A request whose owner answers at once on a state that shows the same. -/
theorem request_answered {kind : Nat} {st : Status} {data : List Byte} {owner : State → State} {t : State}
    (hs : t.shows = s.shows) (ho : owner (holdPlace s) = reply kind tag st data (holdPlace t)) :
    request kind tag owner s = .next (answered kind tag st data t) := by
  rw [request_of_takes h, ho, seenSince_reply_holdPlace _ _ _ _ hs]

theorem exec_scroll_no_screen (speed target : Nat) (hn : 2 ≤ n) :
    exec (.scroll tag n speed target) s = .next (answered 0x38 tag .badParam [] s) :=
  request_answered h rfl (by rw [scrollOwner, screenOf_eq_none hn])

theorem exec_focus_no_screen (kind index : Nat) (hn : 2 ≤ n) :
    exec (.focus tag n kind index) s = .next (answered 0x39 tag .badParam [] s) :=
  request_answered h rfl (by rw [focusOwner, screenOf_eq_none hn])

theorem exec_scroll_no_wall (i : Fin 2) (speed target : Nat) (hw : (s.plan i).live.wall = none) :
    exec (.scroll tag i speed target) s = .next (answered 0x38 tag .noSuch [] s) :=
  request_answered h rfl (by simp [scrollOwner, hw])

theorem exec_scroll_wall (i : Fin 2) (speed target : Nat) {w : Wall} (hw : (s.plan i).live.wall = some w) :
    exec (.scroll tag i speed target) s =
      .next (answered 0x38 tag .ok (beBytes 4 (min target w.scrollMax) ++ beBytes 4 w.scrollMax)
        (s.setPlan i { s.plan i with scroll :=
          { (s.plan i).scroll with target := min target w.scrollMax, speed := max 1 (min speed 64) } })) := by
  refine request_answered h (State.shows_setPlan s i _) ?_
  simp only [scrollOwner, screenOf_val, holdPlace_plan, hw, Nat.min_comm 64 speed]
  rfl

theorem exec_focus_set (i : Fin 2) {kind index : Nat} {f : Focus} (hf : focusOf kind index = some f) :
    exec (.focus tag i kind index) s = .next (answered 0x39 tag .ok [] (s.setPlan i { s.plan i with focus := f })) := by
  refine request_answered h (State.shows_setPlan s i _) ?_
  simp only [focusOwner, screenOf_val, hf]
  rfl

theorem exec_focus_outOfRange (i : Fin 2) {kind index : Nat} (hf : focusOf kind index = none) :
    exec (.focus tag i kind index) s = .next (answered 0x39 tag .badParam [] s) :=
  request_answered h rfl (by simp [focusOwner, hf])

end Requests

theorem focusOf_inRange {kind index : Nat} {f : Focus}
    (h : kind = 0 ∧ f = .none ∨ kind = 1 ∧ index < 512 ∧ f = .wall index ∨ kind = 2 ∧ index < 48 ∧ f = .item index) :
    focusOf kind index = some f := by
  rcases h with ⟨rfl, rfl⟩ | ⟨rfl, hi, rfl⟩ | ⟨rfl, hi, rfl⟩
  · rfl
  · simp [focusOf, hi]
  · simp [focusOf, hi]

theorem focusOf_outOfRange {kind index : Nat} (h : 3 ≤ kind ∨ kind = 1 ∧ 512 ≤ index ∨ kind = 2 ∧ 48 ≤ index) :
    focusOf kind index = none := by
  rw [focusOf, if_neg (by omega), if_neg (by omega), if_neg (by omega)]

/-- Settles O48: the wall's quantities, the two requests in their cases, and the advance that a pass start makes. -/
theorem scrollAndFocusAct : Obligations.ScrollAndFocusAct := by
  refine ⟨fun w hc hr hw hh => ?_, fun s tag n speed target kind index h => ⟨fun hn => ?_, ?_⟩,
    fun s i lanesFirst hl hrun hf hb => ?_, fun s i => ⟨fun hw => ?_, fun w hw => ?_⟩⟩
  · intro n
    obtain ⟨hcover, hlast⟩ := w.rowsTotal_cover hc
    refine ⟨cellSize_eq hc hw, cellSize_eq hr hh, rfl, ?_, gapped_le hw, ?_, gapped_le hh, hcover, hlast,
      w.rowsTotal_of_empty hc, fun hn => ?_, w.contentH_eq hc, ?_⟩
    · rw [Wall.viewW]; push_cast [Nat.cast_sub hc]; rfl
    · rw [Wall.viewH]; push_cast [Nat.cast_sub hr]; rfl
    · exact if_pos (List.length_eq_zero_iff.1 hn)
    · rw [Wall.scrollMax]; omega
  · exact ⟨exec_scroll_no_screen h speed target hn, exec_focus_no_screen h kind index hn⟩
  · rintro i rfl
    exact ⟨exec_scroll_no_wall h i speed target, fun w hw => exec_scroll_wall h i speed target hw,
      fun f hf => exec_focus_set h i (focusOf_inRange hf), fun hf => exec_focus_outOfRange h i (focusOf_outOfRange hf)⟩
  · obtain ⟨t, cells, posters, v, w, hexec, hplans, -⟩ := vblank_begins hl hrun hf hb lanesFirst
    obtain ⟨l, hstep, -⟩ := transitionStep_frame i s
    have hplan : t.plan i = (s.plan i).stepped.scrolled.withRecords cells posters v w := by
      rw [State.plan, hplans, Two.get_set_same]
    refine ⟨t, hexec, ?_, ?_⟩
    · simp [hplan, scrollAdvance_eq, hstep]
    · simp [hplan]
  · rw [scrollAdvance, hw]
  · refine ⟨(s.plan i).scroll.advance, ?_, ScrollRec.advance_target _, ScrollRec.advance_speed _, fun hup => ?_,
      fun hdown => ?_, ScrollRec.advance_stay, fun hp ht => ScrollRec.advance_le hp ht⟩
    · rw [scrollAdvance, hw]
    · rw [ScrollRec.advance_up hup]; exact ⟨rfl, rfl⟩
    · rw [ScrollRec.advance_down hdown]; exact ⟨rfl, rfl⟩

/-! ### Fade levels (R11) -/

section FadeLevel

variable {n k : Nat}

theorem fadeLevel_before (h : k < n) : fadeLevel (2 * n) k = 255 * k / n := by
  have hhalf : 2 * n / 2 = n := by omega
  simp only [fadeLevel, hhalf, if_pos h]

theorem fadeLevel_middle : fadeLevel (2 * n) n = 255 := by
  have hhalf : 2 * n / 2 = n := by omega
  simp only [fadeLevel, hhalf, lt_irrefl, if_false, if_true]

theorem fadeLevel_after (h : n < k) (h2 : k < 2 * n) : fadeLevel (2 * n) k = 255 - 255 * (k - n) / n := by
  have hhalf : 2 * n / 2 = n := by omega
  simp only [fadeLevel, hhalf]
  rw [if_neg (by omega), if_neg (by omega), if_pos h2]

theorem fadeLevel_end (hn : 1 ≤ n) : fadeLevel (2 * n) (2 * n) = 0 := by
  have hhalf : 2 * n / 2 = n := by omega
  simp only [fadeLevel, hhalf]
  rw [if_neg (by omega), if_neg (by omega), if_neg (by omega)]

end FadeLevel

/-! ### The transition step in its cases (R11) -/

section Transition

variable {s : State} {i : Fin 2}

/-- A step of a running FADE writes the step and the level, and makes the take at half (R11). -/
theorem transitionStep_fading {n k : Nat} (hf : (s.plan i).transition.fading = true)
    (hlen : (s.plan i).transition.length = 2 * n) (hk : (s.plan i).transition.step + 1 = k) :
    transitionStep i s =
      let s' := s.setPlan i { s.plan i with transition :=
        { fading := k < 2 * n, length := 2 * n, step := k, level := fadeLevel (2 * n) k } }
      if k = n then take i s' else s' := by
  have hhalf : 2 * n / 2 = n := by omega
  rw [transitionStep_eq]
  simp [PlanScreen.nextTransition, PlanScreen.takesNow, hf, hlen, hk, hhalf]

theorem transitionStep_cut {m : Seal} (hf : (s.plan i).transition.fading = false) (hs : (s.plan i).sealMark = some m)
    (hk : m.kind = .cut) : transitionStep i s =
      take i (s.setPlan i { s.plan i with transition := { (s.plan i).transition with level := 0 } }) := by
  rw [transitionStep_eq]
  simp [PlanScreen.nextTransition, PlanScreen.takesNow, hf, hs, hk]

theorem transitionStep_fade {m : Seal} {n : Nat} (hf : (s.plan i).transition.fading = false)
    (hs : (s.plan i).sealMark = some m) (hk : m.kind = .fade) (hlen : m.length = 2 * n) :
    transitionStep i s =
      let s' := s.setPlan i { s.plan i with transition :=
        { fading := true, length := 2 * n, step := 1, level := fadeLevel (2 * n) 1 } }
      if n = 1 then take i s' else s' := by
  have hhalf : 2 * n / 2 = n := by omega
  rw [transitionStep_eq]
  simp [PlanScreen.nextTransition, PlanScreen.takesNow, hf, hs, hk, hlen, hhalf]

theorem transitionStep_idle (hf : (s.plan i).transition.fading = false) (hs : (s.plan i).sealMark = none) :
    transitionStep i s = s.setPlan i { s.plan i with transition := { (s.plan i).transition with level := 0 } } := by
  rw [transitionStep_eq]
  simp [PlanScreen.nextTransition, PlanScreen.takesNow, hf, hs]

end Transition

/-- Settles O49: a VBLANK carries the transition step over, the step in its cases, and the take. -/
theorem fadesStepAndTake : Obligations.FadesStepAndTake := by
  refine ⟨fun s i lanesFirst hl hrun hf hb => ?_, fun s i => ⟨fun n k hf hlen hn hk => ?_, fun hf => ⟨?_, ?_⟩, ?_⟩⟩
  · obtain ⟨t, cells, posters, v, w, hexec, hplans, -, -, hreply⟩ := vblank_begins hl hrun hf hb lanesFirst
    obtain ⟨l, hstep, -⟩ := transitionStep_frame i s
    have hstepped : (transitionStep i s).plan i = (s.plan i).stepped := by simp [hstep]
    have hplan : t.plan i = (s.plan i).stepped.scrolled.withRecords cells posters v w := by
      rw [State.plan, hplans, Two.get_set_same]
    refine ⟨t, hexec, by simp [hplan, hstepped], by simp [hplan, hstepped], by simp [hplan, hstepped],
      by simp [hplan, hstepped], fun m hm hn => hreply m hm (hstepped ▸ hn), fun j hj => ?_⟩
    rw [State.plan, hplans, Two.get_set_other _ _ hj]
    rfl
  · have hstep := transitionStep_fading hf hlen hk
    refine ⟨fun h => ?_, fun h => ?_, fun h h2 => ?_, fun h => ?_⟩
    · rw [hstep, fadeLevel_before h, if_neg (by omega), decide_eq_true (show k < 2 * n by omega)]
    · subst h
      rw [hstep, fadeLevel_middle, if_pos rfl, decide_eq_true (by omega)]
    · rw [hstep, fadeLevel_after h h2, if_neg (by omega), decide_eq_true h2]
    · rw [h] at hstep ⊢
      rw [hstep, fadeLevel_end hn, if_neg (by omega), decide_eq_false (by omega)]
  · exact transitionStep_idle hf
  · refine fun m hm => ⟨transitionStep_cut hf hm, fun n hk hlen hn => ?_⟩
    have hstep := transitionStep_fade hf hm hk hlen
    refine ⟨fun h => ?_, fun h => ?_⟩
    · rw [hstep, fadeLevel_before (by omega), if_neg (by omega)]
    · subst h
      exact hstep
  · intro m hm
    refine ⟨_, _, take_of_seal hm, takeScroll_speed _ _ _, fun h => ?_, fun h => ?_, fun ha hb => ?_, fun a b ha hb => ?_⟩
    · rw [takeScroll_other _ h, takeCells_other _ h]
      exact ⟨rfl, rfl, rfl, rfl⟩
    · rw [takeScroll_alike _ h]
      exact ⟨rfl, rfl, rfl⟩
    · rw [ha, hb, takeCells]
    · rw [ha, hb]
      refine ⟨fun h => ⟨takeCells_sublist a b _, mem_takeCells h⟩, fun h => ?_⟩
      rw [takeCells]
      exact if_neg (by tauto)

end Sys2Proof.Machine
end

section
/-!
The Still Cache at a pass start: what a pin adjustment leaves of pins, slots and the reuse list (R44 to R46, R19), and what the
offers leave of the fetch queue (R20, R47 to R50).
-/

namespace Sys2Proof.Machine

open Sys2Proof

/-! ### Slots -/

theorem StillCache.slot_lt_of_resident {c : StillCache} {k : Nat} (h : (c.slot k).state = .resident) :
    k < c.slots.length := by
  by_contra hk
  rw [StillCache.slot, List.getD_eq_default _ _ (by omega)] at h
  cases h

theorem StillCache.slot_setSlot {c : StillCache} {k : Nat} (hk : k < c.slots.length) (v : Slot) (j : Nat) :
    (c.setSlot k v).slot j = if j = k then v else c.slot j := by
  simp only [StillCache.slot, StillCache.setSlot, List.getD_eq_getElem?_getD, List.getElem?_set]
  by_cases hj : j = k
  · subst hj; simp [hk]
  · simp [hj, Ne.symm hj]

theorem StillCache.slot_congr {c d : StillCache} (h : d.slots = c.slots) (k : Nat) : d.slot k = c.slot k := by
  rw [StillCache.slot, h, StillCache.slot]

theorem StillCache.pinCount_congr {c d : StillCache} (h : d.pins = c.pins) (k : Nat) : d.pinCount k = c.pinCount k := by
  rw [StillCache.pinCount, h, StillCache.pinCount]

theorem StillCache.slotOf_congr {c d : StillCache} (h : d.slots = c.slots) (x : Ident) : d.slotOf x = c.slotOf x := by
  rw [StillCache.slotOf, h, StillCache.slotOf]

/-! ### The slots examined at the end of an adjustment (R45, R46) -/

/-- With the pin counts `before` an adjustment, a RESIDENT slot has lost its last pin by it. -/
abbrev StillCache.lostLast (before : Nat → Nat) (c : StillCache) (k : Nat) : Prop :=
  0 < before k ∧ c.pinCount k = 0 ∧ (c.slot k).state = .resident

/-- A slot has gained its first pin by an adjustment. -/
abbrev StillCache.gainedFirst (before : Nat → Nat) (c : StillCache) (k : Nat) : Prop := before k = 0 ∧ 0 < c.pinCount k

/-- One slot examined: its own record and place in the reuse list, nothing else (R45, R46). -/
theorem StillCache.examine_spec (before : Nat → Nat) (k : Nat) (c : StillCache) :
    ∃ slots reuse, c.examine (before k) k = { c with slots := slots, reuse := reuse } ∧
      (∀ j, (c.examine (before k) k).slot j =
        if j = k ∧ c.lostLast before k ∧ (c.slot k).stale = true then {} else c.slot j) ∧
      reuse = c.reuse.filter (fun j => ¬ (j = k ∧ c.gainedFirst before k)) ++
        (if c.lostLast before k ∧ (c.slot k).stale = false then [k] else []) := by
  by_cases hg : c.gainedFirst before k
  · have hl : ¬ c.lostLast before k := fun h => by have := h.1; have := hg.1; omega
    have hex : c.examine (before k) k = { c with reuse := c.reuse.filter (· != k) } := if_pos hg
    refine ⟨c.slots, c.reuse.filter (· != k), hex, fun j => ?_, ?_⟩
    · simp [hl, hex, StillCache.slot]
    · simp [hl, hg, bne, beq_eq_decide]
  · by_cases hl : c.lostLast before k
    · have hk := StillCache.slot_lt_of_resident hl.2.2
      cases hs : (c.slot k).stale with
      | true =>
        have hex : c.examine (before k) k = c.freeSlot k := by
          rw [StillCache.examine, if_neg hg, if_pos hl, if_pos hs]
        refine ⟨_, c.reuse, hex, fun j => ?_, by simp [hg]⟩
        rw [hex, StillCache.freeSlot, StillCache.slot_setSlot hk]
        exact if_congr ⟨fun h => ⟨h, hl, rfl⟩, fun h => h.1⟩ rfl rfl
      | false =>
        have hex : c.examine (before k) k = { c with reuse := c.reuse ++ [k] } := by
          rw [StillCache.examine, if_neg hg, if_pos hl, if_neg (by simp [hs])]
        refine ⟨c.slots, _, hex, fun j => ?_, by simp [hg, hl]⟩
        simp [hex, StillCache.slot]
    · have hex : c.examine (before k) k = c := by rw [StillCache.examine, if_neg hg, if_neg hl]
      exact ⟨c.slots, c.reuse, hex, fun j => by simp [hl, hex], by simp [hg, hl]⟩

/-- The first `n` slots examined in ascending order, each by what stood before (R45, R46). -/
theorem StillCache.examineAll_spec (before : Nat → Nat) (c : StillCache) (n : Nat) :
    let d := (List.range n).foldl (fun (d : StillCache) k => d.examine (before k) k) c
    (∃ slots reuse, d = { c with slots := slots, reuse := reuse }) ∧
      (∀ j, d.slot j = if j < n ∧ c.lostLast before j ∧ (c.slot j).stale = true then {} else c.slot j) ∧
      d.reuse = c.reuse.filter (fun j => ¬ (j < n ∧ c.gainedFirst before j)) ++
        (List.range n).filter (fun j => c.lostLast before j ∧ (c.slot j).stale = false) := by
  induction n with
  | zero => exact ⟨⟨c.slots, c.reuse, rfl⟩, by simp, by simp⟩
  | succ n ih =>
    obtain ⟨⟨slots, reuse, hd⟩, hslot, hreuse⟩ := ih
    simp only [List.range_succ, List.foldl_append, List.foldl_cons, List.foldl_nil]
    generalize (List.range n).foldl (fun (d : StillCache) k => d.examine (before k) k) c = d at hd hslot hreuse ⊢
    have hpin : ∀ j, d.pinCount j = c.pinCount j := StillCache.pinCount_congr (by rw [hd])
    have hn : d.slot n = c.slot n := by rw [hslot]; simp
    have hlost : d.lostLast before n ↔ c.lostLast before n := by
      rw [StillCache.lostLast, hpin, hn]
    have hgained : d.gainedFirst before n ↔ c.gainedFirst before n := by
      rw [StillCache.gainedFirst, hpin]
    obtain ⟨slots', reuse', hex, hslot', hreuse'⟩ := StillCache.examine_spec before n d
    simp only [hlost, hgained, hn] at hslot' hreuse'
    refine ⟨⟨slots', reuse', by rw [hex, hd]⟩, fun j => ?_, ?_⟩
    · rw [hslot', hslot]
      by_cases hj : j = n
      · subst hj; simp
      · have hlt : j < n + 1 ↔ j < n := by omega
        simp [hj, hlt]
    · have hfresh : ((List.range n).filter fun j => c.lostLast before j ∧ (c.slot j).stale = false).filter
          (fun j => ¬ (j = n ∧ c.gainedFirst before n)) =
          (List.range n).filter fun j => c.lostLast before j ∧ (c.slot j).stale = false := by
        refine List.filter_eq_self.2 fun j hj => ?_
        have hlt := List.mem_range.1 (List.mem_filter.1 hj).1
        simp only [decide_eq_true_eq]
        omega
      have hold : (c.reuse.filter fun j => ¬ (j < n ∧ c.gainedFirst before j)).filter
          (fun j => ¬ (j = n ∧ c.gainedFirst before n)) =
          c.reuse.filter fun j => ¬ (j < n + 1 ∧ c.gainedFirst before j) := by
        rw [List.filter_filter]
        refine List.filter_congr fun j _ => ?_
        by_cases hj : j = n
        · subst hj; simp
        · have hlt : j < n + 1 ↔ j < n := by omega
          simp [hj, hlt]
      have hlast : (List.range n ++ [n]).filter (fun j => c.lostLast before j ∧ (c.slot j).stale = false) =
          (List.range n).filter (fun j => c.lostLast before j ∧ (c.slot j).stale = false) ++
            if c.lostLast before n ∧ (c.slot n).stale = false then [n] else [] := by
        rw [List.filter_append]
        simp [List.filter_singleton]
      rw [hex, hreuse', hreuse, List.filter_append, hold, hfresh, hlast, List.append_assoc]

/-- What a pin adjustment leaves: new pins, and each slot and the reuse list as its counts before and after say (R44 to R46). -/
theorem StillCache.adjust_spec (unpins : List Place) (pins : List (Place × Ident)) (c : StillCache) :
    let d := c.adjust unpins pins
    let freed := fun k => 0 < c.pinCount k ∧ d.pinCount k = 0 ∧ (c.slot k).state = .resident
    (∃ slots reuse, d = { c with
      pins := pins.foldl c.enterPin (c.pins.filter fun p => p.place ∉ unpins), slots := slots, reuse := reuse }) ∧
      (∀ k, d.slot k = if k < 96 ∧ freed k ∧ (c.slot k).stale = true then {} else c.slot k) ∧
      d.reuse = c.reuse.filter (fun k => ¬ (k < 96 ∧ c.pinCount k = 0 ∧ 0 < d.pinCount k)) ++
        (List.range 96).filter (fun k => freed k ∧ (c.slot k).stale = false) := by
  intro d freed
  obtain ⟨⟨slots, reuse, hd⟩, hslot, hreuse⟩ := StillCache.examineAll_spec c.pinCount
    { c with pins := pins.foldl c.enterPin (c.pins.filter fun p => p.place ∉ unpins) } 96
  have hpin : ∀ k, StillCache.pinCount { c with
      pins := pins.foldl c.enterPin (c.pins.filter fun p => p.place ∉ unpins) } k = d.pinCount k :=
    fun k => (StillCache.pinCount_congr (by rw [show d = _ from hd]) k).symm
  simp only [StillCache.lostLast, StillCache.gainedFirst, hpin] at hslot hreuse
  exact ⟨⟨slots, reuse, hd⟩, hslot, hreuse⟩

theorem StillCache.adjustScreen_frame (i : Fin 2) (places : List (Place × Ident)) (c : StillCache) :
    ∃ pins slots reuse, c.adjustScreen i places = { c with pins := pins, slots := slots, reuse := reuse } := by
  unfold StillCache.adjustScreen
  obtain ⟨⟨slots, reuse, hd⟩, -⟩ := StillCache.adjust_spec _ _ c
  exact ⟨_, slots, reuse, hd⟩

/-! ### The pins of a pass start (R19, R44) -/

theorem StillCache.pinOf_isSome (c : StillCache) (place : Place) :
    (c.pinOf place).isSome = true ↔ ∃ k, (⟨place, k⟩ : Pin) ∈ c.pins := by
  simp only [StillCache.pinOf, Option.isSome_map, List.find?_isSome, beq_iff_eq]
  constructor
  · rintro ⟨⟨_, k⟩, hm, rfl⟩; exact ⟨k, hm⟩
  · rintro ⟨k, hm⟩; exact ⟨_, hm, rfl⟩

theorem StillCache.mem_of_pinOf {c : StillCache} {place : Place} {k : Nat} (h : c.pinOf place = some k) :
    (⟨place, k⟩ : Pin) ∈ c.pins := by
  simp only [StillCache.pinOf, Option.map_eq_some_iff] at h
  obtain ⟨⟨_, _⟩, hf, rfl⟩ := h
  have hp := List.find?_some hf
  simp only [beq_iff_eq] at hp
  subst hp
  exact List.mem_of_find?_eq_some hf

/-- The pins entered by an adjustment, each place at most once (R44). -/
theorem StillCache.mem_enterPins (c : StillCache) (l : List (Place × Ident)) (hn : (l.map (·.1)).Nodup) (pins : List Pin)
    (place : Place) (k : Nat) : (⟨place, k⟩ : Pin) ∈ l.foldl c.enterPin pins ↔
      (∃ x, (place, x) ∈ l ∧ c.slotOf x = some k) ∨
        (∀ x, (place, x) ∈ l → c.slotOf x = none) ∧ (⟨place, k⟩ : Pin) ∈ pins := by
  induction l generalizing pins with
  | nil => simp
  | cons p l ih =>
    obtain ⟨q, y⟩ := p
    obtain ⟨hq, hn⟩ := List.nodup_cons.1 hn
    have hother : ∀ x, (q, x) ∉ l := fun x hx => hq (List.mem_map_of_mem (f := (·.1)) hx)
    rw [List.foldl_cons, ih hn]
    by_cases hplace : place = q
    · subst hplace
      cases hy : c.slotOf y with
      | none => simp [StillCache.enterPin, hother, hy]
      | some j => simp [StillCache.enterPin, hother, hy, eq_comm]
    · cases hy : c.slotOf y with
      | none => simp [StillCache.enterPin, hplace, hy]
      | some j => simp [StillCache.enterPin, hplace, hy]

/-- After a pass start's adjustment a place of the screen is pinned to the slot of what it shows, and no other place of the screen is
pinned; the other screen's pins stay (R19, R44). -/
theorem StillCache.mem_adjustScreen_pins (i : Fin 2) (places : List (Place × Ident)) (c : StillCache)
    (hn : (places.map (·.1)).Nodup) (hi : ∀ p ∈ places, p.1.screen = i) (hpins : (c.pins.map (·.place)).Nodup)
    (place : Place) (k : Nat) : (⟨place, k⟩ : Pin) ∈ (c.adjustScreen i places).pins ↔
      place.screen ≠ i ∧ (⟨place, k⟩ : Pin) ∈ c.pins ∨ ∃ x, (place, x) ∈ places ∧ c.slotOf x = some k := by
  unfold StillCache.adjustScreen
  generalize hheld : places.filter (fun p => (c.slotOf p.2).isSome) = held
  have hmem : ∀ x, (place, x) ∈ held ↔ (place, x) ∈ places ∧ (c.slotOf x).isSome = true := fun x => by
    rw [← hheld, List.mem_filter]
  have hheldN : (held.map (·.1)).Nodup := hheld ▸ hn.sublist (List.filter_sublist.map _)
  have hone : ∀ {x y : Ident}, (place, x) ∈ held → (place, y) ∈ held → x = y := fun hx hy =>
    congrArg Prod.snd (List.inj_on_of_nodup_map hheldN hx hy rfl)
  obtain ⟨⟨_, _, hd⟩, -⟩ := StillCache.adjust_spec
    ((c.pins.filter fun pin => pin.place.screen = i ∧
      !(held.any fun p => p.1 == pin.place && c.slotOf p.2 == some pin.slot)).map (·.place))
    (held.filter fun p => c.pinOf p.1 != c.slotOf p.2) c
  dsimp only at hd ⊢
  rw [hd, StillCache.mem_enterPins _ _ (hheldN.sublist (List.filter_sublist.map _))]
  generalize hgone : (c.pins.filter fun pin => pin.place.screen = i ∧
      !(held.any fun p => p.1 == pin.place && c.slotOf p.2 == some pin.slot)).map (·.place) = gone
  have hleaves : (⟨place, k⟩ : Pin) ∈ c.pins →
      (place ∈ gone ↔ place.screen = i ∧ ∀ x, (place, x) ∈ held → c.slotOf x ≠ some k) := fun hp => by
    rw [← hgone]
    constructor
    · rintro hg
      obtain ⟨⟨_, j⟩, hpin, rfl⟩ := List.mem_map.1 hg
      obtain ⟨hpin, hcond⟩ := List.mem_filter.1 hpin
      obtain rfl : j = k := congrArg Pin.slot (List.inj_on_of_nodup_map hpins hpin hp rfl)
      simp only [decide_eq_true_eq, Bool.not_eq_true', List.any_eq_false] at hcond
      exact ⟨hcond.1, fun x hx hk => hcond.2 _ hx (by simp [hk])⟩
    · rintro ⟨hscreen, hnone⟩
      refine List.mem_map.2 ⟨⟨place, k⟩, List.mem_filter.2 ⟨hp, ?_⟩, rfl⟩
      simp only [hscreen, decide_eq_true_eq, Bool.not_eq_true', List.any_eq_false, true_and]
      rintro ⟨q, x⟩ hx hsame
      simp only [Bool.and_eq_true, beq_iff_eq] at hsame
      obtain ⟨rfl, hk⟩ := hsame
      exact hnone x hx hk
  simp only [List.mem_filter, decide_eq_true_eq, bne_iff_ne]
  by_cases hscreen : place.screen = i
  · constructor
    · rintro (⟨x, ⟨hx, -⟩, hk⟩ | ⟨-, hp, hg⟩)
      · exact .inr ⟨x, ((hmem x).1 hx).1, hk⟩
      · rw [hleaves hp] at hg
        obtain ⟨x, hx, hk⟩ : ∃ x, (place, x) ∈ held ∧ c.slotOf x = some k := by
          by_contra hno
          exact hg ⟨hscreen, fun x hx hk => hno ⟨x, hx, hk⟩⟩
        exact .inr ⟨x, ((hmem x).1 hx).1, hk⟩
    · rintro (⟨hne, -⟩ | ⟨x, hx, hk⟩)
      · exact absurd hscreen hne
      · have hheldx : (place, x) ∈ held := (hmem x).2 ⟨hx, by simp [hk]⟩
        by_cases hpin : c.pinOf place = some k
        · have hp := StillCache.mem_of_pinOf hpin
          refine .inr ⟨fun y hy => absurd ?_ hy.2, hp, fun hg => ((hleaves hp).1 hg).2 x hheldx hk⟩
          rw [hone hy.1 hheldx, hpin, hk]
        · exact .inl ⟨x, ⟨hheldx, by rw [hk]; exact hpin⟩, hk⟩
  · have hnone : ∀ x, (place, x) ∉ held := fun x hx => hscreen (hi _ ((hmem x).1 hx).1)
    constructor
    · rintro (⟨x, ⟨hx, -⟩, -⟩ | ⟨-, hp, -⟩)
      · exact absurd hx (hnone x)
      · exact .inl ⟨hscreen, hp⟩
    · rintro (⟨-, hp⟩ | ⟨x, hx, -⟩)
      · exact .inr ⟨fun y hy => absurd hy.1 (hnone y), hp, fun hg => hscreen ((hleaves hp).1 hg).1⟩
      · exact absurd (hi _ hx) hscreen

/-! ### The fetch queue (R47 to R50) -/

/-- A queue holds its VISIBLE entries ahead of its PREFETCH entries (R47). -/
def classed (q : List FetchEntry) : Prop :=
  ∃ vs ps, q = vs ++ ps ∧ (∀ e ∈ vs, e.cls = .visible) ∧ ∀ e ∈ ps, e.cls = .prefetch

/-- A queue is full of VISIBLE entries: no offer changes it (R48, R49). -/
def fullVisible (q : List FetchEntry) : Prop := (∀ e ∈ q, e.cls = .visible) ∧ 32 ≤ q.length

theorem isVisible_iff (e : FetchEntry) : isVisible e = true ↔ e.cls = .visible := by simp [isVisible]

theorem isVisible_of_prefetch {e : FetchEntry} (h : e.cls = .prefetch) : isVisible e = false := by
  rw [isVisible, h]; rfl

theorem classed_filter {q : List FetchEntry} (h : classed q) (p : FetchEntry → Bool) : classed (q.filter p) := by
  obtain ⟨vs, ps, rfl, hv, hp⟩ := h
  exact ⟨vs.filter p, ps.filter p, List.filter_append .., fun e he => hv e (List.mem_filter.1 he).1,
    fun e he => hp e (List.mem_filter.1 he).1⟩

/-- A VISIBLE entry joins between the two classes (R47). -/
theorem joinVisible_append {vs ps : List FetchEntry} (hv : ∀ e ∈ vs, e.cls = .visible) (hp : ∀ e ∈ ps, e.cls = .prefetch)
    (x : Ident) : joinVisible (vs ++ ps) x = (vs ++ [⟨x, .visible⟩]) ++ ps := by
  have hv' : ∀ e ∈ vs, isVisible e = true := fun e he => (isVisible_iff e).2 (hv e he)
  have htake : ps.takeWhile isVisible = [] := by
    cases ps with
    | nil => rfl
    | cons e ps => simp [isVisible_of_prefetch (hp e (by simp))]
  have hdrop : ps.dropWhile isVisible = ps := by
    cases ps with
    | nil => rfl
    | cons e ps => simp [isVisible_of_prefetch (hp e (by simp))]
  simp [joinVisible, List.takeWhile_append_of_pos hv', List.dropWhile_append_of_pos hv', htake, hdrop]

theorem classed_joinVisible {q : List FetchEntry} (h : classed q) (x : Ident) : classed (joinVisible q x) := by
  obtain ⟨vs, ps, rfl, hv, hp⟩ := h
  refine ⟨vs ++ [⟨x, .visible⟩], ps, joinVisible_append hv hp x, fun e he => ?_, hp⟩
  rcases List.mem_append.1 he with he | he
  · exact hv e he
  · rw [List.mem_singleton.1 he]

theorem mem_joinVisible {q : List FetchEntry} (x : Ident) (e : FetchEntry) :
    e ∈ joinVisible q x ↔ e ∈ q ∨ e = ⟨x, .visible⟩ := by
  have hq : e ∈ q ↔ e ∈ q.takeWhile isVisible ∨ e ∈ q.dropWhile isVisible := by
    rw [← List.mem_append, List.takeWhile_append_dropWhile]
  simp only [joinVisible, List.mem_append, List.mem_singleton, hq]
  tauto

/-- What a VISIBLE offer leaves of the queue (R48). -/
structure VisibleOffered (blocked : Bool) (x : Ident) (q q' : List FetchEntry) : Prop where
  classed : classed q'
  mem : ∀ e ∈ q', e ∈ q ∨ e = ⟨x, .visible⟩
  visible : ∀ e ∈ q, e.cls = .visible → e ∈ q'
  full : fullVisible q → q' = q
  offered : blocked = false → ⟨x, .visible⟩ ∈ q' ∨ fullVisible q'

theorem StillCache.offerVisible_spec (barred : Bool) (x : Ident) (c : StillCache) (h : classed c.queue) :
    ∃ q, c.offerVisible barred x = { c with queue := q } ∧
      VisibleOffered (barred || (c.slotOf x).isSome) x c.queue q := by
  unfold StillCache.offerVisible
  cases hb : (barred || (c.slotOf x).isSome) with
  | true => exact ⟨c.queue, rfl, h, fun e he => .inl he, fun e he _ => he, fun _ => rfl, by simp⟩
  | false =>
    obtain ⟨vs, ps, hq, hv, hp⟩ := id h
    cases hf : c.queue.find? (·.ident == x) with
    | some e =>
      have he : e ∈ c.queue := List.mem_of_find?_eq_some hf
      have hx : e.ident = x := by simpa using List.find?_some hf
      by_cases hvis : isVisible e = true
      · have hcls := (isVisible_iff e).1 hvis
        have hex : (⟨x, .visible⟩ : FetchEntry) = e := by rw [← hx, ← hcls]
        exact ⟨c.queue, by simp [hvis], h, fun e he => .inl he, fun e he _ => he, fun _ => rfl, fun _ => .inl (hex ▸ he)⟩
      · refine ⟨joinVisible (c.queue.filter (·.ident != x)) x, by simp [hvis], classed_joinVisible (classed_filter h _) x, fun d hd => ?_, fun d hd hcls => ?_,
          fun hfull => absurd ((isVisible_iff e).2 (hfull.1 e he)) hvis, fun _ => .inl ((mem_joinVisible x _).2 (.inr rfl))⟩
        · exact ((mem_joinVisible x d).1 hd).imp_left fun hd => (List.mem_filter.1 hd).1
        · have hdv : d ∈ vs := by
            rw [hq] at hd
            exact (List.mem_append.1 hd).resolve_right fun hd => by rw [hp d hd] at hcls; cases hcls
          have hne : d.ident ≠ x := fun hdx => by
            rw [hq, List.find?_append] at hf
            have hsome : (vs.find? (·.ident == x)).isSome = true := List.find?_isSome.2 ⟨d, hdv, by simpa using hdx⟩
            obtain ⟨e', he'⟩ := Option.isSome_iff_exists.1 hsome
            rw [he'] at hf
            obtain rfl : e' = e := by simpa using hf
            exact hvis ((isVisible_iff _).2 (hv _ (List.mem_of_find?_eq_some he')))
          exact (mem_joinVisible x d).2 (.inl (List.mem_filter.2 ⟨hd, by simpa using hne⟩))
    | none =>
      by_cases hlen : c.queue.length < 32
      · exact ⟨_, by simp [hlen], classed_joinVisible h x, fun d hd => (mem_joinVisible x d).1 hd,
          fun d hd _ => (mem_joinVisible x d).2 (.inl hd), fun hfull => absurd hfull.2 (by omega),
          fun _ => .inl ((mem_joinVisible x _).2 (.inr rfl))⟩
      · cases hany : c.queue.any fun e => !isVisible e with
        | false =>
          have hall : ∀ e ∈ c.queue, e.cls = .visible := fun e he => by
            have := List.any_eq_false.1 hany e he
            exact (isVisible_iff e).1 (by simpa using this)
          exact ⟨c.queue, by simp [hlen], h, fun e he => .inl he, fun e he _ => he, fun _ => rfl,
            fun _ => .inr ⟨hall, by omega⟩⟩
        | true =>
          obtain ⟨e, he, hnv⟩ := List.any_eq_true.1 hany
          have hne : e.cls ≠ .visible := fun hcls => by simp [(isVisible_iff e).2 hcls] at hnv
          have hps : ps ≠ [] := fun hnil => by
            rw [hq, hnil, List.append_nil] at he
            exact hne (hv e he)
          have hdrop : c.queue.dropLast = vs ++ ps.dropLast := by rw [hq, List.dropLast_append_of_ne_nil hps]
          have hp' : ∀ e ∈ ps.dropLast, e.cls = .prefetch := fun e he => hp e (List.mem_of_mem_dropLast he)
          refine ⟨_, by simp [hlen], classed_joinVisible ⟨vs, ps.dropLast, hdrop, hv, hp'⟩ x, fun d hd => ?_,
            fun d hd hcls => (mem_joinVisible x d).2 (.inl ?_), fun hfull => absurd (hfull.1 e he) hne,
            fun _ => .inl ((mem_joinVisible x _).2 (.inr rfl))⟩
          · exact ((mem_joinVisible x d).1 hd).imp_left List.mem_of_mem_dropLast
          · rw [hq] at hd
            rw [hdrop]
            exact List.mem_append_left _ ((List.mem_append.1 hd).resolve_right fun hd => by rw [hp d hd] at hcls; cases hcls)

/-- The VISIBLE offers of a pass start, one after the other (R20, R48). -/
theorem StillCache.offerAllVisible_spec (barred : Ident → Bool) (xs : List Ident) (c : StillCache) (h : classed c.queue) :
    ∃ q, xs.foldl (fun (c : StillCache) x => c.offerVisible (barred x) x) c = { c with queue := q } ∧ classed q ∧
      (∀ e ∈ q, e ∈ c.queue ∨ e.ident ∈ xs) ∧ (∀ e ∈ c.queue, e.cls = .visible → e ∈ q) ∧
      (fullVisible c.queue → q = c.queue) ∧
      ∀ x ∈ xs, barred x = false → c.slotOf x = none → ⟨x, .visible⟩ ∈ q ∨ fullVisible q := by
  induction xs generalizing c with
  | nil => exact ⟨c.queue, rfl, h, fun e he => .inl he, fun e he _ => he, fun _ => rfl, by simp⟩
  | cons x xs ih =>
    obtain ⟨q₁, hq₁, o⟩ := StillCache.offerVisible_spec (barred x) x c h
    obtain ⟨q, hq, hc, hmem, hvis, hfull, hoff⟩ := ih { c with queue := q₁ } o.classed
    refine ⟨q, by rw [List.foldl_cons, hq₁, hq], hc, fun e he => ?_, fun e he hcls => hvis e (o.visible e he hcls) hcls,
      fun hf => ?_, fun y hy hbar hslot => ?_⟩
    · rcases hmem e he with he | he
      · exact (o.mem e he).imp_right fun hx => by simp [hx]
      · exact .inr (List.mem_cons_of_mem _ he)
    · have hstay := o.full hf
      rw [hfull (by rw [hstay]; exact hf), hstay]
    · rcases List.mem_cons.1 hy with rfl | hy
      · rcases o.offered (by simp [hbar, hslot]) with hin | hf
        · exact .inl (hvis _ hin rfl)
        · exact .inr (by rw [hfull hf]; exact hf)
      · exact hoff y hy hbar hslot

/-- A PREFETCH offer joins the tail where there is room, and takes nothing away (R49). -/
theorem StillCache.offerPrefetch_spec (barred : Bool) (x : Ident) (c : StillCache) (h : classed c.queue) :
    ∃ tail, c.offerPrefetch barred x = { c with queue := c.queue ++ tail } ∧ classed (c.queue ++ tail) ∧
      (∀ e ∈ tail, e.ident = x) ∧ (barred = false → c.slotOf x = none →
        (∃ e ∈ c.queue ++ tail, e.ident = x) ∨ 32 ≤ (c.queue ++ tail).length) := by
  unfold StillCache.offerPrefetch
  cases hb : (barred || (c.slotOf x).isSome) with
  | true =>
    refine ⟨[], by simp, by simpa using h, by simp, fun hbar hslot => ?_⟩
    simp [hbar, hslot] at hb
  | false =>
    cases hf : c.queue.find? (·.ident == x) with
    | some e =>
      have hx : e.ident = x := by simpa using List.find?_some hf
      exact ⟨[], by simp, by simpa using h, by simp,
        fun _ _ => .inl ⟨e, by simpa using List.mem_of_find?_eq_some hf, hx⟩⟩
    | none =>
      by_cases hlen : c.queue.length < 32
      · obtain ⟨vs, ps, hq, hv, hp⟩ := h
        refine ⟨[⟨x, .prefetch⟩], by simp [hlen], ⟨vs, ps ++ [⟨x, .prefetch⟩], by simp [hq], hv, fun e he => ?_⟩, by simp,
          fun _ _ => .inl ⟨⟨x, .prefetch⟩, by simp, rfl⟩⟩
        rcases List.mem_append.1 he with he | he
        · exact hp e he
        · rw [List.mem_singleton.1 he]
      · exact ⟨[], by simp [hlen], by simpa using h, by simp, fun _ _ => .inr (by simpa using hlen)⟩

/-- The PREFETCH offers of a pass start, one after the other (R20, R49). -/
theorem StillCache.offerAllPrefetch_spec (barred : Ident → Bool) (xs : List Ident) (c : StillCache) (h : classed c.queue) :
    ∃ tail, xs.foldl (fun (c : StillCache) x => c.offerPrefetch (barred x) x) c = { c with queue := c.queue ++ tail } ∧
      classed (c.queue ++ tail) ∧ (∀ e ∈ tail, e.ident ∈ xs) ∧
      ∀ x ∈ xs, barred x = false → c.slotOf x = none →
        (∃ e ∈ c.queue ++ tail, e.ident = x) ∨ 32 ≤ (c.queue ++ tail).length := by
  induction xs generalizing c with
  | nil => exact ⟨[], by simp, by simpa using h, by simp, by simp⟩
  | cons x xs ih =>
    obtain ⟨t₁, ht₁, hc₁, hmem₁, hoff₁⟩ := StillCache.offerPrefetch_spec (barred x) x c h
    obtain ⟨t₂, ht₂, hc₂, hmem₂, hoff₂⟩ := ih { c with queue := c.queue ++ t₁ } hc₁
    simp only [List.append_assoc] at ht₂ hc₂ hoff₂
    refine ⟨t₁ ++ t₂, by rw [List.foldl_cons, ht₁, ht₂], hc₂, fun e he => ?_, fun y hy hbar hslot => ?_⟩
    · rcases List.mem_append.1 he with he | he
      · simp [hmem₁ e he]
      · exact List.mem_cons_of_mem _ (hmem₂ e he)
    · rcases List.mem_cons.1 hy with rfl | hy
      · rcases hoff₁ hbar hslot with ⟨e, he, hx⟩ | hlen
        · exact .inl ⟨e, by rw [← List.append_assoc]; exact List.mem_append_left _ he, hx⟩
        · exact .inr (by simp only [List.length_append] at hlen ⊢; omega)
      · exact hoff₂ y hy hbar hslot

/-! ### The wanted identities, each once -/

theorem foldl_distinct_spec (l acc : List Ident) (h : acc.Nodup) :
    (l.foldl (fun acc i => if i ∈ acc then acc else acc ++ [i]) acc).Nodup ∧
      ∀ x, x ∈ l.foldl (fun acc i => if i ∈ acc then acc else acc ++ [i]) acc ↔ x ∈ acc ∨ x ∈ l := by
  induction l generalizing acc with
  | nil => exact ⟨h, by simp⟩
  | cons a l ih =>
    by_cases ha : a ∈ acc
    · obtain ⟨hn, hm⟩ := ih acc h
      refine ⟨by simpa [ha] using hn, fun x => ?_⟩
      rw [List.foldl_cons, if_pos ha, hm, List.mem_cons]
      constructor
      · rintro (hx | hx)
        · exact .inl hx
        · exact .inr (.inr hx)
      · rintro (hx | rfl | hx)
        · exact .inl hx
        · exact .inl ha
        · exact .inr hx
    · have h' : (acc ++ [a]).Nodup := List.nodup_append.2 ⟨h, List.nodup_singleton a, fun x hx y hy =>
        fun hxy => ha (by rw [← List.mem_singleton.1 hy, ← hxy]; exact hx)⟩
      obtain ⟨hn, hm⟩ := ih (acc ++ [a]) h'
      refine ⟨by simpa [ha] using hn, fun x => ?_⟩
      rw [List.foldl_cons, if_neg ha, hm, List.mem_append, List.mem_singleton, List.mem_cons, or_assoc]

theorem distinct_nodup (l : List Ident) : (distinct l).Nodup := (foldl_distinct_spec l [] List.nodup_nil).1

@[simp] theorem mem_distinct (l : List Ident) (x : Ident) : x ∈ distinct l ↔ x ∈ l := by
  rw [distinct, (foldl_distinct_spec l [] List.nodup_nil).2]
  simp

/-- What a pass start's offers leave of the queue: wanted identities only, VISIBLE first, each wanted one queued that has no slot
and is not barred, unless the queue is full (R20, R48 to R50). -/
theorem fetchOffers_spec (i : Fin 2) (s : State) (h : classed s.cache.queue) :
    let p := s.plan i
    let o := s.plan (otherScreen i)
    ∃ q, fetchOffers i s = s.setCache { s.cache with queue := q } ∧ classed q ∧
      (∀ e ∈ q, e.ident ∈ p.wantedVisible ++ p.wantedPrefetch ++ o.wantedVisible ++ o.wantedPrefetch) ∧
      (∀ x ∈ p.wantedVisible, s.barred x = false → s.cache.slotOf x = none →
        ⟨x, .visible⟩ ∈ q ∨ 32 ≤ q.length) ∧
      ∀ x ∈ p.wantedPrefetch, x ∉ p.wantedVisible → x ∉ o.wantedVisible → s.barred x = false → s.cache.slotOf x = none →
        (∃ e ∈ q, e.ident = x) ∨ 32 ≤ q.length := by
  intro p o
  have hclassed := classed_filter h fun e =>
    e.ident ∈ p.wantedVisible ++ p.wantedPrefetch ++ o.wantedVisible ++ o.wantedPrefetch
  obtain ⟨q₁, hq₁, hc₁, hmem₁, -, -, hoff₁⟩ := StillCache.offerAllVisible_spec s.barred p.wantedVisible
    (s.cache.withdrawUnwanted (p.wantedVisible ++ p.wantedPrefetch ++ o.wantedVisible ++ o.wantedPrefetch)) hclassed
  obtain ⟨tail, htail, hc, hmem, hoff⟩ := StillCache.offerAllPrefetch_spec s.barred
    (p.wantedPrefetch.filter fun x => x ∉ p.wantedVisible ∧ x ∉ o.wantedVisible)
    { s.cache with queue := q₁ } hc₁
  refine ⟨q₁ ++ tail, ?_, hc, fun e he => ?_, fun x hx hbar hslot => ?_, fun x hx hxv hxo hbar hslot => ?_⟩
  · rw [fetchOffers]
    dsimp only
    rw [hq₁]
    exact congrArg s.setCache htail
  · rcases List.mem_append.1 he with he | he
    · rcases hmem₁ e he with he | he
      · simpa using (List.mem_filter.1 he).2
      · simp [he]
    · have hw := (List.mem_filter.1 (hmem e he)).1
      simp [hw]
  · rcases hoff₁ x hx hbar hslot with hin | hfull
    · exact .inl (List.mem_append_left _ hin)
    · have hlen := hfull.2
      exact .inr (by rw [List.length_append]; omega)
  · exact hoff x (List.mem_filter.2 ⟨hx, by simp [hxv, hxo]⟩) hbar hslot

end Sys2Proof.Machine
end

section
/-!
The records of a pass: the resolution of the screen's cells and posters (R16 to R18, R22), the places and identities they show
(R19), and the wanted sets (R20).
-/

namespace Sys2Proof.Machine

open Sys2Proof

/-! ### Cells (R16, R17, R22) -/

theorem visibleIndexes_nodup (wall : Option Wall) (p : Nat) : (visibleIndexes wall p).Nodup := by
  unfold visibleIndexes
  split
  · split
    · exact List.nodup_range'
    · exact List.nodup_nil
  · exact List.nodup_nil

/-- A judged cell differs in its appearance alone (R17, R21). -/
theorem State.judgeCell_frame (s : State) (c : Cell) : ∃ a, s.judgeCell c = { c with appearance := a } := by
  unfold State.judgeCell
  split
  · exact ⟨_, rfl⟩
  · split
    · exact ⟨_, rfl⟩
    · split
      · exact ⟨_, rfl⟩
      · exact ⟨c.appearance, rfl⟩

@[simp] theorem State.judgeCell_index (s : State) (c : Cell) : (s.judgeCell c).index = c.index := by
  obtain ⟨a, h⟩ := s.judgeCell_frame c; rw [h]
@[simp] theorem State.judgeCell_title (s : State) (c : Cell) : (s.judgeCell c).title = c.title := by
  obtain ⟨a, h⟩ := s.judgeCell_frame c; rw [h]
@[simp] theorem State.judgeCell_ident (s : State) (c : Cell) : (s.judgeCell c).ident = c.ident := by
  obtain ⟨a, h⟩ := s.judgeCell_frame c; rw [h]
@[simp] theorem State.judgeCell_tint (s : State) (c : Cell) : (s.judgeCell c).tint = c.tint := by
  obtain ⟨a, h⟩ := s.judgeCell_frame c; rw [h]

/-- An appearance that draws or will draw a still: neither EMPTY nor BROKEN. -/
abbrev Appearance.wants (a : Appearance) : Prop := a ≠ .empty ∧ a ≠ .broken

theorem State.judgeCell_none (s : State) {c : Cell} (h : c.ident = none) : (s.judgeCell c).appearance = .empty := by
  rw [State.judgeCell, h]

theorem State.judgeCell_barred (s : State) {c : Cell} {x : Ident} (h : c.ident = some x) (hb : s.barred x = true) :
    (s.judgeCell c).appearance = .broken := by
  simp [State.judgeCell, h, hb]

theorem State.judgeCell_usable (s : State) {c : Cell} {x : Ident} (h : c.ident = some x) (hb : s.barred x = false) :
    (s.judgeCell c).appearance = if c.appearance.wants then c.appearance else .waiting := by
  cases ha : c.appearance <;> simp [State.judgeCell, h, hb, ha]

/-- A judged cell that wants a still has a usable identity. -/
theorem State.judgeCell_wants (s : State) {c : Cell} (h : (s.judgeCell c).appearance.wants) :
    ∃ x, c.ident = some x ∧ s.barred x = false := by
  cases hi : c.ident with
  | none => exact absurd (s.judgeCell_none hi) h.1
  | some x =>
    cases hb : s.barred x with
    | true => exact absurd (s.judgeCell_barred hi hb) h.2
    | false => exact ⟨x, rfl, hb⟩

/-- The record of an index before it is judged: new, kept, or resolved again after a switch (R16, R17, R22). -/
def State.baseCell (s : State) (i : Fin 2) (index : Nat) : Cell :=
  match (s.plan i).cells.find? (·.index == index) with
  | some c => if (s.plan i).reResolve then resolveAgain s.catalog (s.plan i).live.wall c else c
  | none => newCell s.catalog (s.plan i).live.wall index

theorem State.passCells_eq (s : State) (i : Fin 2) : s.passCells i =
    (visibleIndexes (s.plan i).live.wall (s.plan i).scroll.position).map fun n => s.judgeCell (s.baseCell i n) := rfl

section Base

variable (s : State) (i : Fin 2) (n : Nat)

theorem resolveAgain_fields (c : Catalog) (wall : Option Wall) (d : Cell) :
    (resolveAgain c wall d).index = d.index ∧ (resolveAgain c wall d).title = (newCell c wall d.index).title ∧
      (resolveAgain c wall d).ident = (newCell c wall d.index).ident ∧
      (resolveAgain c wall d).tint = (newCell c wall d.index).tint := by
  unfold resolveAgain
  dsimp only
  split
  · exact ⟨rfl, rfl, rfl, rfl⟩
  · exact ⟨rfl, rfl, rfl, rfl⟩

theorem find_index {cells : List Cell} {d : Cell} (h : cells.find? (·.index == n) = some d) : d.index = n := by
  simpa using List.find?_some h

@[simp] theorem State.baseCell_index : (s.baseCell i n).index = n := by
  unfold State.baseCell
  split
  · rename_i d hd
    split
    · rw [(resolveAgain_fields _ _ _).1, find_index n hd]
    · exact find_index n hd
  · rfl

/-- A record that is new, or resolved again, has the title, identity and tint of a new one (R17, R22). -/
theorem State.baseCell_resolved (h : (s.plan i).cells.find? (·.index == n) = none ∨ (s.plan i).reResolve = true) :
    (s.baseCell i n).title = (newCell s.catalog (s.plan i).live.wall n).title ∧
      (s.baseCell i n).ident = (newCell s.catalog (s.plan i).live.wall n).ident ∧
      (s.baseCell i n).tint = (newCell s.catalog (s.plan i).live.wall n).tint := by
  cases hd : (s.plan i).cells.find? (·.index == n) with
  | none => simp [State.baseCell, hd]
  | some d =>
    have hr := h.resolve_left (by simp [hd])
    obtain ⟨-, ht, hi, hc⟩ := resolveAgain_fields s.catalog (s.plan i).live.wall d
    rw [find_index n hd] at ht hi hc
    simp [State.baseCell, hd, hr, ht, hi, hc]

/-- A record that stays is the previous one (R16, R17). -/
theorem State.baseCell_kept {d : Cell} (hd : (s.plan i).cells.find? (·.index == n) = some d)
    (hr : (s.plan i).reResolve = false) : s.baseCell i n = d := by
  simp [State.baseCell, hd, hr]

/-- A record whose identity is the previous one keeps its appearance (R22). -/
theorem State.baseCell_sameIdent {d : Cell} (hd : (s.plan i).cells.find? (·.index == n) = some d)
    (hi : d.ident = (s.baseCell i n).ident) : (s.baseCell i n).appearance = d.appearance := by
  cases hr : (s.plan i).reResolve with
  | false => rw [s.baseCell_kept i n hd hr]
  | true =>
    have hbase : s.baseCell i n = resolveAgain s.catalog (s.plan i).live.wall d := by simp [State.baseCell, hd, hr]
    rw [hbase, (resolveAgain_fields _ _ _).2.2.1] at hi
    rw [hbase, resolveAgain, if_pos hi.symm]

/-- A record whose identity is new to it waits for its still (R17, R22). -/
theorem State.baseCell_newIdent {x : Ident} (hx : (s.baseCell i n).ident = some x)
    (hnew : ∀ d, (s.plan i).cells.find? (·.index == n) = some d → d.ident ≠ some x) :
    (s.baseCell i n).appearance = .waiting := by
  have hwait : ∀ m, (newCell s.catalog (s.plan i).live.wall m).ident = some x →
      (newCell s.catalog (s.plan i).live.wall m).appearance = .waiting := fun m hm => by
    have hsome : (resolve s.catalog (s.plan i).live.wall m).2.isSome = true := by
      have hm' : (resolve s.catalog (s.plan i).live.wall m).2.map (·.1) = some x := hm
      rw [← Option.isSome_map (f := (·.1)), hm']
      rfl
    simp [newCell, hsome]
  cases hd : (s.plan i).cells.find? (·.index == n) with
  | none =>
    have hbase : s.baseCell i n = newCell s.catalog (s.plan i).live.wall n := by simp [State.baseCell, hd]
    rw [hbase] at hx ⊢
    exact hwait n hx
  | some d =>
    cases hr : (s.plan i).reResolve with
    | false => exact absurd (s.baseCell_kept i n hd hr ▸ hx) (hnew d hd)
    | true =>
      have hbase : s.baseCell i n = resolveAgain s.catalog (s.plan i).live.wall d := by simp [State.baseCell, hd, hr]
      rw [hbase] at hx ⊢
      have hfresh := (resolveAgain_fields s.catalog (s.plan i).live.wall d).2.2.1
      have hne : (newCell s.catalog (s.plan i).live.wall d.index).ident ≠ d.ident := by
        rw [← hfresh, hx]
        exact (hnew d hd).symm
      rw [resolveAgain, if_neg hne]
      exact hwait _ (hfresh ▸ hx)

/-- The appearance of a judged record with a usable identity: that of the previous record where it drew the same still, WAITING
otherwise (R17, R21, R22). -/
theorem State.judged_appearance {x : Ident} (hx : (s.baseCell i n).ident = some x) (hb : s.barred x = false) :
    ((∀ d, (s.plan i).cells.find? (·.index == n) = some d → d.ident ≠ some x ∨ ¬ d.appearance.wants) →
      (s.judgeCell (s.baseCell i n)).appearance = .waiting) ∧
    ∀ d, (s.plan i).cells.find? (·.index == n) = some d → d.ident = some x → d.appearance.wants →
      (s.judgeCell (s.baseCell i n)).appearance = d.appearance := by
  have hjudge := s.judgeCell_usable hx hb
  refine ⟨fun hold => ?_, fun d hd hi hw => ?_⟩
  · rw [hjudge]
    by_cases hnew : ∀ d, (s.plan i).cells.find? (·.index == n) = some d → d.ident ≠ some x
    · rw [s.baseCell_newIdent i n hx hnew, ite_self]
    · push Not at hnew
      obtain ⟨d, hd, hi⟩ := hnew
      have hnot : ¬ d.appearance.wants := (hold d hd).resolve_left (fun h => h hi)
      rw [s.baseCell_sameIdent i n hd (hi.trans hx.symm), if_neg hnot]
  · rw [hjudge, s.baseCell_sameIdent i n hd (hi.trans hx.symm), if_pos hw]

end Base

/-! ### What the records show (R19) -/

theorem mem_wantingCells (cells : List Cell) (n : Nat) (x : Ident) :
    (n, x) ∈ wantingCells cells ↔ ∃ c ∈ cells, c.index = n ∧ c.ident = some x ∧ c.appearance.wants := by
  simp only [wantingCells, List.mem_filterMap]
  refine exists_congr fun c => and_congr_right fun _ => ?_
  cases hi : c.ident with
  | none => cases ha : c.appearance <;> simp
  | some y => cases ha : c.appearance <;> simp [Appearance.wants]

theorem wantingCells_nodup {cells : List Cell} (h : (cells.map (·.index)).Nodup) :
    ((wantingCells cells).map (·.1)).Nodup := by
  have hsub : ((wantingCells cells).map (·.1)).Sublist (cells.map (·.index)) := by
    unfold wantingCells
    induction cells with
    | nil => exact List.nil_sublist _
    | cons c cells ih =>
      have ih := ih (List.nodup_cons.1 h).2
      rw [List.filterMap_cons]
      split
      · exact ih.cons _
      · rename_i p hp
        have hp1 : p.1 = c.index := by
          split at hp <;> cases hp
          rfl
        rw [List.map_cons, List.map_cons, hp1]
        exact ih.cons_cons _
  exact h.sublist hsub

theorem mem_posterWants (ps : Three (Option Poster)) (v : Fin 3) (x : Ident) :
    (v, x) ∈ posterWants ps ↔ Poster.wants (ps.get v) = some x := by
  simp only [posterWants, List.mem_filterMap, Option.map_eq_some_iff, Prod.mk.injEq]
  constructor
  · rintro ⟨_, -, _, h, rfl, rfl⟩; exact h
  · intro h
    refine ⟨v, ?_, x, h, rfl, rfl⟩
    match v with
    | 0 => simp
    | 1 => simp
    | 2 => simp

theorem posterWants_nodup (ps : Three (Option Poster)) : ((posterWants ps).map (·.1)).Nodup := by
  have hsub : ((posterWants ps).map (·.1)).Sublist [(0 : Fin 3), 1, 2] := by
    unfold posterWants
    generalize [(0 : Fin 3), 1, 2] = ws
    induction ws with
    | nil => exact List.nil_sublist _
    | cons w ws ih =>
      rw [List.filterMap_cons]
      cases hw : Poster.wants (ps.get w) with
      | none => exact ih.cons _
      | some x => exact ih.cons_cons _
  exact (by decide : [(0 : Fin 3), 1, 2].Nodup).sublist hsub

theorem Poster.wants_iff (p : Option Poster) (x : Ident) :
    Poster.wants p = some x ↔ ∃ r, p = some r ∧ r.ident = some x ∧ r.usable = true := by
  cases p with
  | none => simp [Poster.wants]
  | some r => cases hu : r.usable <;> simp [Poster.wants, hu]

/-- A place of a screen shows an identity: that of a cell that is neither EMPTY nor BROKEN, or of a usable poster (R19). -/
theorem mem_shownPlaces (i : Fin 2) (cells : List Cell) (ps : Three (Option Poster)) (place : Place) (x : Ident) :
    (place, x) ∈ shownPlaces i cells ps ↔
      (∃ c ∈ cells, place = .cell i c.index ∧ c.ident = some x ∧ c.appearance.wants) ∨
        ∃ v r, place = .poster i v ∧ ps.get v = some r ∧ r.ident = some x ∧ r.usable = true := by
  simp only [shownPlaces, List.mem_append, List.mem_map, Prod.mk.injEq, Prod.exists]
  refine or_congr ?_ ?_
  · constructor
    · rintro ⟨n, y, hm, rfl, rfl⟩
      obtain ⟨c, hc, rfl, hi, hw⟩ := (mem_wantingCells cells n y).1 hm
      exact ⟨c, hc, rfl, hi, hw⟩
    · rintro ⟨c, hc, rfl, hi, hw⟩
      exact ⟨c.index, x, (mem_wantingCells cells _ x).2 ⟨c, hc, rfl, hi, hw⟩, rfl, rfl⟩
  · constructor
    · rintro ⟨v, y, hm, rfl, rfl⟩
      obtain ⟨r, hr, hi, hu⟩ := (Poster.wants_iff _ _).1 ((mem_posterWants ps v y).1 hm)
      exact ⟨v, r, rfl, hr, hi, hu⟩
    · rintro ⟨v, r, rfl, hr, hi, hu⟩
      exact ⟨v, x, (mem_posterWants ps v x).2 ((Poster.wants_iff _ _).2 ⟨r, hr, hi, hu⟩), rfl, rfl⟩

theorem shownPlaces_screen {i : Fin 2} {cells : List Cell} {ps : Three (Option Poster)} {p : Place × Ident}
    (h : p ∈ shownPlaces i cells ps) : p.1.screen = i := by
  rcases (mem_shownPlaces i cells ps p.1 p.2).1 h with ⟨c, -, hp, -⟩ | ⟨v, r, hp, -⟩
  · rw [hp]; rfl
  · rw [hp]; rfl

theorem shownPlaces_nodup (i : Fin 2) {cells : List Cell} (ps : Three (Option Poster)) (h : (cells.map (·.index)).Nodup) :
    ((shownPlaces i cells ps).map (·.1)).Nodup := by
  have hcells : ((wantingCells cells).map fun c => Place.cell i c.1).Nodup := by
    have := (wantingCells_nodup h).map (f := Place.cell i) fun a b hab => by simpa using hab
    simpa [Function.comp_def] using this
  have hposters : ((posterWants ps).map fun w => Place.poster i w.1).Nodup := by
    have := (posterWants_nodup ps).map (f := Place.poster i) fun a b hab => by simpa using hab
    simpa [Function.comp_def] using this
  simp only [shownPlaces, List.map_append, List.map_map, Function.comp_def]
  refine List.nodup_append.2 ⟨hcells, hposters, fun a ha b hb hab => ?_⟩
  obtain ⟨_, -, rfl⟩ := List.mem_map.1 ha
  obtain ⟨_, -, rfl⟩ := List.mem_map.1 hb
  cases hab

/-! ### The wanted PREFETCH set (R20) -/

theorem mem_prefetchRows (w : Wall) (down : Bool) (first last row : Nat) : row ∈ prefetchRows w down first last ↔
    row < w.rowsTotal ∧ if down = true then row = last + 1 ∨ row = last + 2 else row + 1 = first ∨ row + 2 = first := by
  cases down with
  | true => simp [prefetchRows, and_comm]
  | false =>
    have h1 : row ∈ (if 1 ≤ first then [first - 1] else []) ↔ row + 1 = first := by
      split
      · simp only [List.mem_singleton]; omega
      · simp only [List.not_mem_nil, false_iff]; omega
    have h2 : row ∈ (if 2 ≤ first then [first - 2] else []) ↔ row + 2 = first := by
      split
      · simp only [List.mem_singleton]; omega
      · simp only [List.not_mem_nil, false_iff]; omega
    simp only [prefetchRows, List.mem_filter, List.mem_append, h1, h2, Bool.false_eq_true, if_false, decide_eq_true_eq]
    exact and_comm

/-- The identity of a resolution, unless it is barred (R20). -/
theorem usableIdent_iff (s : State) (o : Option (Ident × Rgb)) (x : Ident) :
    (match o with | some (y, _) => if s.barred y then none else some y | none => none) = some x ↔
      s.barred x = false ∧ o.map (·.1) = some x := by
  rcases o with _ | ⟨y, _⟩
  · simp
  · by_cases hb : s.barred y = true
    · simp only [if_pos hb, reduceCtorEq, Option.map_some, Option.some.injEq, false_iff, not_and]
      rintro hx rfl
      rw [hb] at hx
      cases hx
    · simp only [if_neg hb, Option.map_some, Option.some.injEq]
      exact ⟨fun h => ⟨by simpa [h] using hb, h⟩, fun h => h.2⟩

theorem State.mem_wantedPrefetch (s : State) (i : Fin 2) (x : Ident) :
    x ∈ s.wantedPrefetch i ↔ s.barred x = false ∧ ∃ (w : Wall) (row n : Nat), (s.plan i).live.wall = some w ∧ w.titles ≠ [] ∧
      row < w.rowsTotal ∧ row * w.columns ≤ n ∧ n < (row + 1) * w.columns ∧
      ((resolve s.catalog (s.plan i).live.wall n).2.map (·.1)) = some x ∧
      let first := (s.plan i).scroll.position / w.pitch
      let last := min (w.rowsTotal - 1) (((s.plan i).scroll.position + w.viewH - 1) / w.pitch)
      if (s.plan i).scroll.down = true then row = last + 1 ∨ row = last + 2 else row + 1 = first ∨ row + 2 = first := by
  cases hw : (s.plan i).live.wall with
  | none => simp [State.wantedPrefetch, hw]
  | some w =>
    by_cases ht : w.titles = []
    · simp [State.wantedPrefetch, hw, Wall.visibleRows, ht]
    · simp only [State.wantedPrefetch, hw, Wall.visibleRows, if_neg ht, mem_distinct, List.mem_flatMap, List.mem_filterMap,
        mem_prefetchRows, List.mem_range'_1]
      constructor
      · rintro ⟨row, ⟨hrow, hnear⟩, n, ⟨hn, hn'⟩, hx⟩
        obtain ⟨hb, hx⟩ := (usableIdent_iff s _ x).1 hx
        exact ⟨hb, w, row, n, rfl, ht, hrow, hn, by rw [Nat.add_mul]; omega, hx, hnear⟩
      · rintro ⟨hb, _, row, n, ⟨⟩, -, hrow, hn, hn', hx, hnear⟩
        exact ⟨row, ⟨hrow, hnear⟩, n, ⟨hn, by rw [Nat.add_mul] at hn'; omega⟩, (usableIdent_iff s _ x).2 ⟨hb, hx⟩⟩

end Sys2Proof.Machine
end

section
/-!
The resolution step as a whole (R16 to R20): what it leaves of the screen's plan record and of the cache, and who a place shows.
-/

namespace Sys2Proof.Machine

open Sys2Proof

/-! ### The offers change the queue alone -/

theorem StillCache.offerVisible_frame (b : Bool) (x : Ident) (c : StillCache) :
    ∃ q, c.offerVisible b x = { c with queue := q } := by
  unfold StillCache.offerVisible
  split
  · exact ⟨c.queue, rfl⟩
  · split
    · split
      · exact ⟨c.queue, rfl⟩
      · exact ⟨_, rfl⟩
    · split
      · exact ⟨_, rfl⟩
      · split
        · exact ⟨_, rfl⟩
        · exact ⟨c.queue, rfl⟩

theorem StillCache.offerPrefetch_frame (b : Bool) (x : Ident) (c : StillCache) :
    ∃ q, c.offerPrefetch b x = { c with queue := q } := by
  unfold StillCache.offerPrefetch
  split
  · exact ⟨c.queue, rfl⟩
  · split
    · exact ⟨c.queue, rfl⟩
    · split
      · exact ⟨_, rfl⟩
      · exact ⟨c.queue, rfl⟩

theorem StillCache.foldl_queue_frame (f : StillCache → Ident → StillCache)
    (hf : ∀ c x, ∃ q, f c x = { c with queue := q }) (xs : List Ident) (c : StillCache) :
    ∃ q, xs.foldl f c = { c with queue := q } := by
  induction xs generalizing c with
  | nil => exact ⟨c.queue, rfl⟩
  | cons x xs ih =>
    obtain ⟨q, hq⟩ := hf c x
    obtain ⟨q', hq'⟩ := ih (f c x)
    exact ⟨q', by rw [List.foldl_cons, hq', hq]⟩

theorem fetchOffers_frame (i : Fin 2) (s : State) : ∃ q, fetchOffers i s = s.setCache { s.cache with queue := q } := by
  obtain ⟨q, hq⟩ := StillCache.foldl_queue_frame (fun c x => c.offerVisible (s.barred x) x)
    (fun c x => c.offerVisible_frame (s.barred x) x) (s.plan i).wantedVisible (s.cache.withdrawUnwanted
      ((s.plan i).wantedVisible ++ (s.plan i).wantedPrefetch ++ (s.plan (otherScreen i)).wantedVisible ++
        (s.plan (otherScreen i)).wantedPrefetch))
  obtain ⟨q', hq'⟩ := StillCache.foldl_queue_frame (fun c x => c.offerPrefetch (s.barred x) x)
    (fun c x => c.offerPrefetch_frame (s.barred x) x) ((s.plan i).wantedPrefetch.filter fun x =>
      x ∉ (s.plan i).wantedVisible ∧ x ∉ (s.plan (otherScreen i)).wantedVisible) { s.cache with queue := q }
  refine ⟨q', ?_⟩
  rw [fetchOffers]
  dsimp only
  rw [hq]
  exact congrArg s.setCache hq'

/-! ### The parts of the resolution step -/

/-- The poster records of a pass, before the pins are entered (R18). -/
def State.passPosters (s : State) (i : Fin 2) : Three (Option Poster) :=
  ⟨(s.plan i).live.windows.e0.map s.posterFor, (s.plan i).live.windows.e1.map s.posterFor,
    (s.plan i).live.windows.e2.map s.posterFor⟩

/-- The places of the screen at a pass and the identities they show (R19). -/
def State.passPlaces (s : State) (i : Fin 2) : List (Place × Ident) := shownPlaces i (s.passCells i) (s.passPosters i)

/-- The cache after the pin adjustment of a pass (R19). -/
def State.passCache (s : State) (i : Fin 2) : StillCache := s.cache.adjustScreen i (s.passPlaces i)

/-- A place holds a pin after the adjustment. -/
def State.passPinned (s : State) (i : Fin 2) (place : Place) : Bool := ((s.passCache i).pinOf place).isSome

/-- The screen's plan record after the resolution step (R16 to R20). -/
def State.passPlan (s : State) (i : Fin 2) : PlanScreen :=
  (s.plan i).withRecords ((s.passCells i).map fun c => { c with pinned := s.passPinned i (.cell i c.index) })
    ⟨(s.passPosters i).e0.map fun q => { q with pinned := s.passPinned i (.poster i 0) },
      (s.passPosters i).e1.map fun q => { q with pinned := s.passPinned i (.poster i 1) },
      (s.passPosters i).e2.map fun q => { q with pinned := s.passPinned i (.poster i 2) }⟩
    (distinct ((s.passPlaces i).map (·.2))) (s.wantedPrefetch i)

/-- The state whose wanted sets are offered (R20). -/
def State.passOffering (s : State) (i : Fin 2) : State := (s.setPlan i (s.passPlan i)).setCache (s.passCache i)

theorem resolutionStep_parts (i : Fin 2) (s : State) :
    ∃ q, resolutionStep i s = (s.setPlan i (s.passPlan i)).setCache { s.passCache i with queue := q } := by
  obtain ⟨q, hq⟩ := fetchOffers_frame i (s.passOffering i)
  exact ⟨q, hq⟩

theorem resolutionStep_plan (i : Fin 2) (s : State) : (resolutionStep i s).plan i = s.passPlan i := by
  obtain ⟨q, hq⟩ := resolutionStep_parts i s
  rw [hq]
  simp

theorem resolutionStep_slots (i : Fin 2) (s : State) : (resolutionStep i s).cache.slots = (s.passCache i).slots := by
  obtain ⟨q, hq⟩ := resolutionStep_parts i s
  rw [hq]
  rfl

theorem resolutionStep_pins (i : Fin 2) (s : State) : (resolutionStep i s).cache.pins = (s.passCache i).pins := by
  obtain ⟨q, hq⟩ := resolutionStep_parts i s
  rw [hq]
  rfl

theorem resolutionStep_reuse (i : Fin 2) (s : State) : (resolutionStep i s).cache.reuse = (s.passCache i).reuse := by
  obtain ⟨q, hq⟩ := resolutionStep_parts i s
  rw [hq]
  rfl

/-! ### Cells after the resolution step -/

/-- The cell record of an index after the resolution step (R16, R17, R19). -/
def State.passCell (s : State) (i : Fin 2) (n : Nat) : Cell :=
  { s.judgeCell (s.baseCell i n) with pinned := s.passPinned i (.cell i n) }

theorem State.passPlan_cells (s : State) (i : Fin 2) : (s.passPlan i).cells =
    (visibleIndexes (s.plan i).live.wall (s.plan i).scroll.position).map (s.passCell i) := by
  simp only [State.passPlan, PlanScreen.withRecords, State.passCells_eq, List.map_map]
  refine List.map_congr_left fun n _ => ?_
  simp [State.passCell]

section PassCell

variable (s : State) (i : Fin 2) (n : Nat)

@[simp] theorem State.passCell_index : (s.passCell i n).index = n := by simp [State.passCell]
@[simp] theorem State.passCell_title : (s.passCell i n).title = (s.baseCell i n).title := by simp [State.passCell]
@[simp] theorem State.passCell_ident : (s.passCell i n).ident = (s.baseCell i n).ident := by simp [State.passCell]
@[simp] theorem State.passCell_tint : (s.passCell i n).tint = (s.baseCell i n).tint := by simp [State.passCell]
@[simp] theorem State.passCell_appearance :
    (s.passCell i n).appearance = (s.judgeCell (s.baseCell i n)).appearance := rfl
@[simp] theorem State.passCell_pinned : (s.passCell i n).pinned = s.passPinned i (.cell i n) := rfl

end PassCell

/-! ### Posters after the resolution step (R18) -/

theorem Lane.needsPoster_iff (r : Lane) :
    r.needsPoster = true ↔ r.state = .held ∨ r.state = .ended ∧ r.endAction = .poster := by
  simp [Lane.needsPoster]

theorem State.posterFor_needed (s : State) {w : Window} {x : Ident × Rgb} (hn : (s.lane w.lane).needsPoster = true)
    (hx : s.catalog.stillOf (s.lane w.lane).title = some x) :
    s.posterFor w = { ident := some x.1, usable := !s.barred x.1, tint := some x.2, pinned := false } := by
  simp [State.posterFor, hn, hx]

theorem State.posterFor_idle (s : State) {w : Window} (h : (s.lane w.lane).needsPoster = false ∨
    s.catalog.stillOf (s.lane w.lane).title = none) :
    s.posterFor w = { ident := none, usable := false, tint := none, pinned := false } := by
  rcases h with h | h
  · simp [State.posterFor, h]
  · cases hn : (s.lane w.lane).needsPoster <;> simp [State.posterFor, h, hn]

/-- A usable poster's identity may be queued (R18). -/
theorem State.posterFor_usable (s : State) {w : Window} {x : Ident} (hi : (s.posterFor w).ident = some x)
    (hu : (s.posterFor w).usable = true) : s.barred x = false := by
  cases hn : (s.lane w.lane).needsPoster with
  | false => rw [s.posterFor_idle (.inl hn)] at hi; cases hi
  | true =>
    cases hs : s.catalog.stillOf (s.lane w.lane).title with
    | none => rw [s.posterFor_idle (.inr hs)] at hi; cases hi
    | some y =>
      rw [s.posterFor_needed hn hs] at hi hu
      cases hi
      simpa using hu

theorem State.passPosters_get (s : State) (i : Fin 2) (v : Fin 3) :
    (s.passPosters i).get v = ((s.plan i).live.windows.get v).map s.posterFor := by
  match v with
  | 0 => rfl
  | 1 => rfl
  | 2 => rfl

theorem State.passPlan_posters (s : State) (i : Fin 2) (v : Fin 3) : (s.passPlan i).posters.get v =
    ((s.plan i).live.windows.get v).map fun w => { s.posterFor w with pinned := s.passPinned i (.poster i v) } := by
  match v with
  | 0 => exact Option.map_map ..
  | 1 => exact Option.map_map ..
  | 2 => exact Option.map_map ..

/-! ### What the places show, and the wanted sets (R19, R20) -/

/-- A place shows an identity by the records of the pass as they stand after it (R19). -/
theorem State.mem_passPlaces (s : State) (i : Fin 2) (place : Place) (x : Ident) : (place, x) ∈ s.passPlaces i ↔
    (∃ c ∈ (s.passPlan i).cells, place = .cell i c.index ∧ c.ident = some x ∧ c.appearance.wants) ∨
      ∃ v r, place = .poster i v ∧ (s.passPlan i).posters.get v = some r ∧ r.ident = some x ∧ r.usable = true := by
  rw [State.passPlaces, mem_shownPlaces]
  refine or_congr ?_ ?_
  · simp only [State.passPlan_cells, State.passCells_eq, List.mem_map, exists_exists_and_eq_and]
    simp
  · simp only [State.passPlan_posters, State.passPosters_get, Option.map_eq_some_iff]
    constructor
    · rintro ⟨v, _, hp, ⟨w, hw, rfl⟩, hi, hu⟩
      exact ⟨v, _, hp, ⟨w, hw, rfl⟩, hi, hu⟩
    · rintro ⟨v, _, hp, ⟨w, hw, rfl⟩, hi, hu⟩
      exact ⟨v, _, hp, ⟨w, hw, rfl⟩, hi, hu⟩

theorem State.passCells_index (s : State) (i : Fin 2) : (s.passCells i).map (·.index) =
    visibleIndexes (s.plan i).live.wall (s.plan i).scroll.position := by
  simp [State.passCells_eq, Function.comp_def]

theorem State.passPlaces_nodup (s : State) (i : Fin 2) : ((s.passPlaces i).map (·.1)).Nodup :=
  shownPlaces_nodup i _ (by rw [s.passCells_index]; exact visibleIndexes_nodup _ _)

/-- What a place shows may be queued: no cell that is BROKEN wants its still, no unusable poster does (R17, R18). -/
theorem State.barred_of_mem_passPlaces (s : State) {i : Fin 2} {place : Place} {x : Ident}
    (h : (place, x) ∈ s.passPlaces i) : s.barred x = false := by
  rcases (mem_shownPlaces _ _ _ _ _).1 h with ⟨c, hc, -, hi, hw⟩ | ⟨v, r, -, hr, hi, hu⟩
  · rw [State.passCells_eq] at hc
    obtain ⟨n, -, rfl⟩ := List.mem_map.1 hc
    obtain ⟨y, hy, hb⟩ := s.judgeCell_wants hw
    rw [State.judgeCell_ident, hy] at hi
    cases hi
    exact hb
  · rw [State.passPosters_get, Option.map_eq_some_iff] at hr
    obtain ⟨w, -, rfl⟩ := hr
    exact s.posterFor_usable hi hu

theorem State.mem_passPlan_wantedVisible (s : State) (i : Fin 2) (x : Ident) :
    x ∈ (s.passPlan i).wantedVisible ↔ ∃ place, (place, x) ∈ s.passPlaces i := by
  simp [State.passPlan, PlanScreen.withRecords]

/-- The pins after a pass start: the other screen's as they were, this screen's on the slots of what it shows (R19). -/
theorem State.mem_passCache_pins (s : State) (i : Fin 2) (h : (s.cache.pins.map (·.place)).Nodup) (place : Place) (k : Nat) :
    (⟨place, k⟩ : Pin) ∈ (s.passCache i).pins ↔
      place.screen ≠ i ∧ (⟨place, k⟩ : Pin) ∈ s.cache.pins ∨
        ∃ x, (place, x) ∈ s.passPlaces i ∧ s.cache.slotOf x = some k :=
  StillCache.mem_adjustScreen_pins i _ _ (s.passPlaces_nodup i) (fun _ hp => shownPlaces_screen hp) h place k

/-- Each slot and the reuse list after a pass start (R45, R46). -/
theorem State.passCache_slots (s : State) (i : Fin 2) :
    let d := s.passCache i
    let freed := fun k => 0 < s.cache.pinCount k ∧ d.pinCount k = 0 ∧ (s.cache.slot k).state = .resident
    (∀ k, d.slot k = if k < 96 ∧ freed k ∧ (s.cache.slot k).stale = true then {} else s.cache.slot k) ∧
      d.reuse = s.cache.reuse.filter (fun k => ¬ (k < 96 ∧ s.cache.pinCount k = 0 ∧ 0 < d.pinCount k)) ++
        (List.range 96).filter (fun k => freed k ∧ (s.cache.slot k).stale = false) :=
  (StillCache.adjust_spec _ _ s.cache).2

theorem State.passCache_queue (s : State) (i : Fin 2) : (s.passCache i).queue = s.cache.queue := by
  obtain ⟨_, _, _, hd⟩ := s.cache.adjustScreen_frame i (s.passPlaces i)
  rw [State.passCache, hd]

theorem State.passCache_failed (s : State) (i : Fin 2) : (s.passCache i).failed = s.cache.failed := by
  obtain ⟨_, _, _, hd⟩ := s.cache.adjustScreen_frame i (s.passPlaces i)
  rw [State.passCache, hd]

theorem State.barred_passOffering (s : State) (i : Fin 2) (x : Ident) : (s.passOffering i).barred x = s.barred x := by
  simp [State.barred, State.passOffering, State.passCache_failed]

/-- The queue after a pass start: wanted identities only, VISIBLE first, each wanted one held or queued unless the queue is full
(R20, R47 to R50). -/
theorem resolutionStep_queue (i : Fin 2) (s : State) (h : classed s.cache.queue) :
    let t := resolutionStep i s
    let q := s.passPlan i
    let o := s.plan (otherScreen i)
    classed t.cache.queue ∧
      (∀ e ∈ t.cache.queue, e.ident ∈ q.wantedVisible ++ q.wantedPrefetch ++ o.wantedVisible ++ o.wantedPrefetch) ∧
      (∀ x ∈ q.wantedVisible,
        (t.cache.slotOf x).isSome = true ∨ ⟨x, .visible⟩ ∈ t.cache.queue ∨ 32 ≤ t.cache.queue.length) ∧
      ∀ x ∈ q.wantedPrefetch, x ∉ q.wantedVisible → x ∉ o.wantedVisible →
        (t.cache.slotOf x).isSome = true ∨ (∃ e ∈ t.cache.queue, e.ident = x) ∨ 32 ≤ t.cache.queue.length := by
  intro t q o
  have hother : (s.passOffering i).plan (otherScreen i) = o := by
    rw [State.passOffering, State.plan_setCache, State.plan_setPlan_other _ _ (otherScreen_ne i)]
  have hself : (s.passOffering i).plan i = q := by simp [State.passOffering, q]
  have hslot : ∀ x, t.cache.slotOf x = (s.passOffering i).cache.slotOf x := fun x =>
    StillCache.slotOf_congr (resolutionStep_slots i s) x
  obtain ⟨queue, ht, hclassed, hmem, hvis, hpre⟩ :=
    fetchOffers_spec i (s.passOffering i) (by simpa [State.passOffering, s.passCache_queue] using h)
  have hqueue : t.cache.queue = queue := congrArg (fun u : State => u.cache.queue) ht
  simp only [hother, hself, s.barred_passOffering, ← hslot, ← hqueue] at hclassed hmem hvis hpre
  have hheld : ∀ {x : Ident} {A : Prop}, (t.cache.slotOf x = none → A) → (t.cache.slotOf x).isSome = true ∨ A :=
    fun {x _} hA => by
      cases hx : t.cache.slotOf x with
      | some k => exact .inl rfl
      | none => exact .inr (hA hx)
  refine ⟨hclassed, hmem, fun x hx => hheld fun hnone => ?_, fun x hx hxv hxo => hheld fun hnone => ?_⟩
  · obtain ⟨place, hplace⟩ := (s.mem_passPlan_wantedVisible i x).1 hx
    exact hvis x hx (s.barred_of_mem_passPlaces hplace) hnone
  · exact hpre x hx hxv hxo ((s.mem_wantedPrefetch i x).1 hx).1 hnone

end Sys2Proof.Machine
end

section
/-!
VBLANKs, passes and their ends (R10, R16 to R22, R25, R45, R96 to R100): the appearance step, the snapshot, and the statement.
-/

namespace Sys2Proof.Machine

open Sys2Proof

/-! ### The statement's words for the Catalog, in the model's -/

theorem stillOf_eq (c : Catalog) (title : Option Nat) :
    ((title.bind fun n => c.titles.find? (·.number == n)).bind fun x : TitleRec => if x.stillKey = 0 then none else
      (c.pool.find? fun a => a.inLive && a.key == x.stillKey).map fun a => ((⟨x.stillKey, a.check⟩ : Ident), x.tint)) =
      title.bind c.stillOf := by
  cases title with
  | none => rfl
  | some n =>
    cases h : c.titles.find? (·.number == n) with
    | none => simp [Catalog.stillOf, Catalog.liveTitle, h]
    | some t => simp [Catalog.stillOf, Catalog.liveTitle, Catalog.liveRecord, h]

theorem barred_iff (s : State) (x : Ident) :
    (x ∈ s.cache.failed ∨ ∃ a, s.catalog.pool.find? (fun a => a.inLive && a.key == x.key) = some a ∧ a.damaged = true) ↔
      s.barred x = true := by
  simp only [State.barred, Bool.or_eq_true, decide_eq_true_eq, Catalog.isDamaged, Catalog.liveRecord]
  refine or_congr_right ?_
  cases s.catalog.pool.find? fun a => a.inLive && a.key == x.key <;> simp

theorem newCell_fields (c : Catalog) (wall : Option Wall) (n : Nat) :
    (newCell c wall n).title = titleAt wall n ∧
      (newCell c wall n).ident = ((titleAt wall n).bind c.stillOf).map (·.1) ∧
      ∀ x, (titleAt wall n).bind c.stillOf = some x → (newCell c wall n).tint = x.2 :=
  ⟨rfl, rfl, fun x hx => by simp [newCell, resolve, hx]⟩

theorem visibleIndexes_eq (wall : Option Wall) (p : Nat) : visibleIndexes wall p =
    match wall with
    | none => []
    | some w =>
      let first := p / w.pitch
      let last := min (w.rowsTotal - 1) ((p + w.viewH - 1) / w.pitch)
      if w.titles = [] then [] else List.range' (first * w.columns) ((last + 1 - first) * w.columns) := by
  cases wall with
  | none => rfl
  | some w => by_cases h : w.titles = [] <;> simp [visibleIndexes, Wall.visibleRows, h]

theorem State.wantedPrefetch_nodup (s : State) (i : Fin 2) : (s.wantedPrefetch i).Nodup := by
  unfold State.wantedPrefetch
  dsimp only
  split
  · exact List.nodup_nil
  · split
    · exact List.nodup_nil
    · exact distinct_nodup _

/-! ### A pass's cell record, field by field (R16, R17, R21, R22) -/

section PassCell

variable (s : State) (i : Fin 2) (n : Nat)

/-- A record that is new or resolved again after a switch is resolved in the live generation (R17, R22). -/
theorem State.passCell_resolved (h : (s.plan i).cells.find? (·.index == n) = none ∨ (s.plan i).reResolve = true) :
    (s.passCell i n).title = titleAt (s.plan i).live.wall n ∧
      (s.passCell i n).ident = ((s.passCell i n).title.bind s.catalog.stillOf).map (·.1) ∧
      ∀ x, (s.passCell i n).title.bind s.catalog.stillOf = some x → (s.passCell i n).tint = x.2 := by
  obtain ⟨ht, hi, hc⟩ := s.baseCell_resolved i n h
  obtain ⟨hnt, hni, hnc⟩ := newCell_fields s.catalog (s.plan i).live.wall n
  simp only [State.passCell_title, State.passCell_ident, State.passCell_tint, ht, hi, hc, hnt]
  exact ⟨trivial, hni, hnc⟩

theorem State.passCell_kept {d : Cell} (hd : (s.plan i).cells.find? (·.index == n) = some d)
    (hr : (s.plan i).reResolve = false) : (s.passCell i n).title = d.title ∧ (s.passCell i n).ident = d.ident ∧
      (s.passCell i n).tint = d.tint := by
  simp [s.baseCell_kept i n hd hr]

/-- The appearance of a record after the resolution step (R17, R21, R22). -/
theorem State.passCell_judged : ((s.passCell i n).ident = none → (s.passCell i n).appearance = .empty) ∧
    (∀ x, (s.passCell i n).ident = some x → s.barred x = true → (s.passCell i n).appearance = .broken) ∧
    ∀ x, (s.passCell i n).ident = some x → s.barred x = false →
      ((∀ d, (s.plan i).cells.find? (·.index == n) = some d → d.ident ≠ some x ∨ ¬ d.appearance.wants) →
        (s.passCell i n).appearance = .waiting) ∧
      ∀ d, (s.plan i).cells.find? (·.index == n) = some d → d.ident = some x → d.appearance.wants →
        (s.passCell i n).appearance = d.appearance := by
  simp only [State.passCell_ident, State.passCell_appearance]
  exact ⟨s.judgeCell_none, fun x => s.judgeCell_barred, fun x => s.judged_appearance i n⟩

end PassCell

/-! ### A pass's poster record (R18) -/

theorem State.posterFor_spec (s : State) (w : Window) :
    let lane := s.lane w.lane
    let needs := lane.state = .held ∨ lane.state = .ended ∧ lane.endAction = .poster
    (∀ x, needs → s.catalog.stillOf lane.title = some x →
        (s.posterFor w).ident = some x.1 ∧ (s.posterFor w).tint = some x.2 ∧
          ((s.posterFor w).usable = true ↔ ¬ s.barred x.1 = true)) ∧
      (¬ needs ∨ s.catalog.stillOf lane.title = none →
        (s.posterFor w).ident = none ∧ (s.posterFor w).tint = none ∧ (s.posterFor w).usable = false) := by
  intro lane needs
  have hneeds := Lane.needsPoster_iff lane
  refine ⟨fun x hn hx => ?_, fun h => ?_⟩
  · rw [s.posterFor_needed (hneeds.2 hn) hx]
    simp
  · rw [s.posterFor_idle (h.imp_left fun hn => by simpa using mt hneeds.1 hn)]
    exact ⟨rfl, rfl, rfl⟩

/-! ### The appearance step (R21) -/

theorem stateOf_resident_iff (c : StillCache) (o : Option Ident) :
    (o.bind c.stateOf == some .resident) = true ↔
      ∃ x k, o = some x ∧ c.slotOf x = some k ∧ (c.slot k).state = .resident := by
  cases o with
  | none => simp
  | some x => cases h : c.slotOf x <;> simp [StillCache.stateOf, h]

theorem nextAppearance_spec (resident : Bool) (a : Appearance) :
    (¬ a.wants → nextAppearance resident a = a) ∧
      (a = .waiting → (resident = true → nextAppearance resident a = .fading 1) ∧
        (resident ≠ true → nextAppearance resident a = .waiting)) ∧
      (∀ k, a = .fading k → resident = true →
        (k < 7 → nextAppearance resident a = .fading (k + 1)) ∧ (7 ≤ k → nextAppearance resident a = .shown)) ∧
      (a = .shown → resident = true → nextAppearance resident a = .shown) := by
  cases a with
  | empty => simp [nextAppearance]
  | broken => simp [nextAppearance]
  | waiting => cases resident <;> simp [nextAppearance, Appearance.wants]
  | fading k =>
    refine ⟨fun h => absurd ⟨by simp, by simp⟩ h, by simp, ?_, by simp⟩
    rintro _ ⟨⟩ rfl
    exact ⟨fun hk => by simp [nextAppearance, hk], fun hk => by simp [nextAppearance, Nat.not_lt.2 hk]⟩
  | shown => cases resident <;> simp [nextAppearance, Appearance.wants]

/-! ### The snapshot (R25) -/

theorem cellShot_spec (c : StillCache) (cell : Cell) :
    ∃ k, cellShot c cell = ⟨cell.index, cell.appearance, k, cell.tint⟩ ∧
      (cell.appearance.wants → cell.appearance ≠ .waiting → k = cell.ident.bind c.slotOf) ∧
      (¬ cell.appearance.wants ∨ cell.appearance = .waiting → k = none) := by
  refine ⟨_, rfl, ?_, ?_⟩
  · cases cell.appearance <;> simp [Appearance.wants]
  · cases cell.appearance <;> simp [Appearance.wants]

theorem posterShot_held (c : StillCache) {q : Poster} {k : Nat} (hu : q.usable = true)
    (hk : q.ident.bind c.slotOf = some k) (hr : (c.slot k).state = .resident) : posterShot c (some q) = .slot k := by
  simp [posterShot, Poster.wants, hu, hk, hr]

theorem posterShot_unheld (c : StillCache) {q : Poster}
    (h : ∀ k, ¬ (q.usable = true ∧ q.ident.bind c.slotOf = some k ∧ (c.slot k).state = .resident)) :
    posterShot c (some q) = (q.tint.map PosterShot.tint).getD .black := by
  cases hu : q.usable with
  | false => simp [posterShot, Poster.wants, hu]
  | true =>
    cases hk : q.ident.bind c.slotOf with
    | none => simp [posterShot, Poster.wants, hu, hk]
    | some k =>
      have hr : (c.slot k).state ≠ .resident := fun hr => h k ⟨hu, hk, hr⟩
      simp [posterShot, Poster.wants, hu, hk, hr]

theorem snapshot_posters (s : State) (i : Fin 2) (v : Fin 3) :
    (s.snapshot i).posters.get v = posterShot s.cache ((s.plan i).posters.get v) := by
  match v with
  | 0 => rfl
  | 1 => rfl
  | 2 => rfl

/-! ### The views of a pass (R35, R39) -/

theorem seenSince_frame (t s : State) : t.seenSince s = { t with comp := (t.seenSince s).comp } := by
  unfold State.seenSince; split <;> rfl

/-- What a command leaves of a screen's Compositor record: a view more where what the lanes or glyph memory show has changed
(R35, R39). -/
theorem seenSince_spec (t s : State) (i : Fin 2) :
    ((t.seenSince s).compScreen i).matrix = (t.compScreen i).matrix ∧
      ((t.compScreen i).context = none → ((t.seenSince s).compScreen i).context = none) ∧
      ∀ x, (t.compScreen i).context = some x → ((t.seenSince s).compScreen i).context = some { x with
        views := if t.shows = s.shows ∨ x.views.getLast? = some t.shows then x.views else x.views ++ [t.shows] } := by
  rw [compScreen_seenSince]
  refine ⟨rfl, fun h => by simp [h], fun x hx => ?_⟩
  by_cases h : t.shows = s.shows
  · simp [hx, h]
  · simp [hx, h, PassContext.see, addView]

/-- Scanout keeps a screen's timing (R90). -/
theorem scanoutVblank_active (i : Fin 2) (s : State) : ((scanoutVblank i s).screen i).active = (s.screen i).active := by
  by_cases hb : (s.screen i).back = .composing
  · rw [scanoutVblank_misses hb]; simp
  · obtain ⟨_, _, _, _, _, _, _, hscan, -⟩ := scanoutVblank_frame hb
    rw [hscan]
    simp [State.screen, Screen.begun]

/-- A VBLANK while a pass is in progress counts a missed frame, and the lanes act (R100). -/
theorem vblank_misses {s : State} {i : Fin 2} (hl : s.power.resetLow = false) (hr : s.running i = true)
    (hf : (s.screen i).frameTimer = true) (hb : (s.screen i).back = .composing) (lanesFirst : Bool) :
    ∃ t, exec (.vblank i lanesFirst) s = .next t ∧
      t.screens = s.screens.set i { s.screen i with missed := min 65535 ((s.screen i).missed + 1) } ∧
      t.plans = s.plans ∧ t.light = s.light ∧ t.power = s.power := by
  have hexec := exec_vblank hl hr hf lanesFirst
  cases lanesFirst with
  | true =>
    obtain ⟨ls, c, st, l, hlanes, -⟩ := laneWork_lanesVblank i s
    have hb' : ((lanesVblank i s).screen i).back = .composing := by rw [hlanes]; exact hb
    rw [if_pos rfl, scanoutVblank_misses hb', hlanes] at hexec
    exact ⟨_, hexec, by simp; rfl, by simp, by simp, by simp⟩
  | false =>
    obtain ⟨ls, c, st, l, hlanes, -⟩ := laneWork_lanesVblank i (scanoutVblank i s)
    rw [if_neg (by decide), hlanes, scanoutVblank_misses hb] at hexec
    exact ⟨_, hexec, by simp, by simp, by simp, by simp⟩

/-- PASS_COMPLETE of a pass in progress leaves its drawing in the back buffer, READY, and closes the context (R26, R99). -/
theorem exec_passComplete {s : State} {i : Fin 2} {x : PassContext} (hl : s.power.resetLow = false)
    (hr : s.running i = true) (hb : (s.screen i).back = .composing) (hx : (s.compScreen i).context = some x)
    (m : DrawMoments) :
    exec (.passComplete i m) s = .next ((s.setScreen i { s.screen i with
        back := .ready
        buffers := (s.screen i).buffers.set (if (s.screen i).front1 then 0 else 1)
          (.drawn (drawPass s.cache x ⟨0, 0, (s.screen i).active.width, (s.screen i).active.height⟩ m)) }).setComp i
      { s.compScreen i with context := none }) := by
  have hcomposing : s.composing i = true := by simp [State.composing, hr, hb]
  have hstep : passCompleteStep i m s = (s.setScreen i { s.screen i with
      back := .ready
      buffers := (s.screen i).buffers.set (s.screen i).backIndex (.drawn (drawPass s.cache x (s.screen i).active.rect m))
      }).setComp i { s.compScreen i with context := none } := by
    rw [passCompleteStep, hx]
    simp [hcomposing]
  have hrun := live_of_shows (act := passCompleteStep i m) hl (by rw [hstep]; rfl)
  rw [hstep] at hrun
  exact hrun

/-- Settles O51: the VBLANK as the two works, what passes see, the resolution step, the appearance step, the snapshot, and the
whole command. -/
theorem vblanksBeginSwapOrMiss : Obligations.VblanksBeginSwapOrMiss := by
  unfold Obligations.VblanksBeginSwapOrMiss
  intro drawn view shown
  refine ⟨fun s i hl hr hf => ?_, fun s t => ⟨_, seenSince_frame t s, seenSince_spec t s⟩, fun s i => ?_, fun s i => ?_,
    fun s i => ?_, fun s i hl hr => ?_⟩
  · intro pass scanout lanes
    have hrun : s.running i = true := by simp [State.running, hr]
    have hscan : ∀ u, scanout u = scanoutVblank i u := fun u => by
      simp only [scanout, scanoutVblank]
      cases (u.screen i).back <;> rfl
    have hlanes : lanesVblank i (scanoutVblank i s) = lanes (scanoutVblank i s) := by
      simp only [lanesVblank, scanoutVblank_active]
      rfl
    rw [hscan, hscan, ← hlanes]
    exact ⟨exec_vblank hl hrun hf true, exec_vblank hl hrun hf false⟩
  · intro p t q o stillOf titleAt barred freed shows
    have hstill : ∀ title, stillOf title = title.bind s.catalog.stillOf := stillOf_eq s.catalog
    have hbarred : ∀ x, barred x ↔ s.barred x = true := barred_iff s
    have hq : q = s.passPlan i := resolutionStep_plan i s
    have hpins : t.cache.pins = (s.passCache i).pins := resolutionStep_pins i s
    have hcount := StillCache.pinCount_congr hpins
    have hslot := StillCache.slot_congr (resolutionStep_slots i s)
    obtain ⟨hslots, hreuse⟩ := s.passCache_slots i
    clear_value q
    subst hq
    have hshows : ∀ place x, shows place x ↔ (place, x) ∈ s.passPlaces i := fun place x =>
      (s.mem_passPlaces i place x).symm
    refine ⟨?_, ?_, ?_, ?_, ?_, ?_, ?_, distinct_nodup _, fun x => ?_, s.wantedPrefetch_nodup i, fun x => ?_, ?_⟩
    · obtain ⟨queue, ht⟩ := resolutionStep_parts i s
      exact ⟨s.passPlan i, _, ht, rfl, rfl, rfl, rfl, rfl, rfl, rfl⟩
    · rw [State.passPlan_cells, List.map_map]
      simp only [Function.comp_def, State.passCell_index, List.map_id', visibleIndexes_eq]
      rfl
    · intro c hc old
      rw [State.passPlan_cells] at hc
      obtain ⟨n, -, rfl⟩ := List.mem_map.1 hc
      have hold : old = (s.plan i).cells.find? (·.index == n) := by simp [old, p]
      obtain ⟨hempty, hbroken, hdraws⟩ := s.passCell_judged i n
      simp only [hstill, hbarred, hold, s.passCell_index, Bool.not_eq_true]
      refine ⟨s.passCell_resolved i n, fun d => s.passCell_kept i n, hempty, hbroken, hdraws, ?_⟩
      rw [hpins]
      exact StillCache.pinOf_isSome _ _
    · intro v
      rw [State.passPlan_posters]
      cases hw : p.live.windows.get v with
      | none => rfl
      | some w =>
        refine ⟨_, rfl, ?_⟩
        simp only [hstill, hbarred]
        exact s.posterFor_spec w
    · intro hn place k
      rw [hpins, s.mem_passCache_pins i hn]
      simp only [hshows]
    · intro k hk
      have hfreed : freed k ↔ 0 < s.cache.pinCount k ∧ (s.passCache i).pinCount k = 0 ∧
          (s.cache.slot k).state = .resident := by
        simp only [freed, hcount]
      rw [hslot, hslots]
      refine ⟨fun hf hstale => if_pos ⟨hk, hfreed.1 hf, hstale⟩, fun h => if_neg fun hout => ?_⟩
      rcases h with h | h
      · exact h (hfreed.2 hout.2.1)
      · rw [hout.2.2] at h
        cases h
    · rw [resolutionStep_reuse, hreuse]
      simp only [freed, hcount]
    · rw [s.mem_passPlan_wantedVisible]
      simp only [hshows]
    · rw [show (s.passPlan i).wantedPrefetch = s.wantedPrefetch i from rfl, s.mem_wantedPrefetch]
      simp only [hbarred, hstill, Bool.not_eq_true]
      rfl
    · rintro vs ps hqueue hvs hps
      obtain ⟨hclassed, hmem, hvis, hpre⟩ := resolutionStep_queue i s ⟨vs, ps, hqueue, hvs, hps⟩
      simp only [List.mem_append, or_assoc] at hmem
      exact ⟨hclassed, hmem, hvis, hpre⟩
  · refine ⟨_, rfl, by simp, fun n c hc => ⟨_, by simp [hc]; rfl, ?_⟩⟩
    intro resident
    have hspec := nextAppearance_spec (c.ident.bind s.cache.stateOf == some .resident) c.appearance
    have hres := stateOf_resident_iff s.cache c.ident
    simp only [ne_eq, hres] at hspec
    exact hspec
  · intro p
    refine ⟨_, rfl, rfl, rfl, rfl, rfl, rfl, by simp [State.snapshot, p], fun n c hc => ?_, fun v => ?_, rfl⟩
    · obtain ⟨k, hk, hspec⟩ := cellShot_spec s.cache c
      refine ⟨k, ?_, hspec⟩
      have hshot : (s.snapshot i).cells[n]? = some (cellShot s.cache c) := by
        rw [State.snapshot, List.getElem?_map, hc, Option.map_some]
      rw [hshot, hk]
    · cases hq : (s.plan i).posters.get v with
      | none => rw [snapshot_posters, hq]; rfl
      | some q =>
        refine ⟨fun k hk => ?_, fun h => ?_⟩
        · rw [snapshot_posters, hq]
          exact posterShot_held s.cache hk.1 hk.2.1 hk.2.2
        · rw [snapshot_posters, hq, posterShot_unheld s.cache h]
          cases q.tint <;> rfl
  · intro c
    have hrun : s.running i = true := by simp [State.running, hr]
    have hother : 1 - i ≠ i := otherScreen_ne i
    refine ⟨fun hf lanesFirst => ?_, fun x m hb hx => exec_passComplete hl hrun hb hx m⟩
    by_cases hb : (s.screen i).back = .composing
    · obtain ⟨t, hexec, hscreens, hplans, hlight, hpower⟩ := vblank_misses hl hrun hf hb lanesFirst
      refine ⟨t, hexec, ?_, fun h => ?_, fun h => ?_, fun _ => ⟨?_, hplans, hlight, hpower⟩⟩
      · rw [State.screen, hscreens, Two.get_set_other _ _ hother]; rfl
      · rw [hb] at h; cases h
      · rw [hb] at h; cases h
      · rw [State.screen, hscreens, Two.get_set_same]
    · obtain ⟨t, _, _, _, _, hexec, -, hscreens, hopen, -⟩ := vblank_begins hl hrun hf hb lanesFirst
      have hbegun : t.screen i = (s.screen i).begun := by rw [State.screen, hscreens, Two.get_set_same]
      refine ⟨t, hexec, ?_, fun h => ⟨?_, hopen⟩, fun h => ⟨?_, hopen⟩, fun h => absurd h hb⟩
      · rw [State.screen, hscreens, Two.get_set_other _ _ hother]; rfl
      · rw [hbegun, Screen.begun, if_neg (by rw [h]; decide)]
      · rw [hbegun, Screen.begun, if_pos h]

end Sys2Proof.Machine
end

section
/-!
Holders, records and the eraser, list by list: what releases leave of each unit (R132), what the settling of a pool's records leaves
of the pool, the retiring list and the units (R106), and what the eraser takes up (R143).
-/

namespace Sys2Proof.Machine

open Sys2Proof

/-! ### Units after a list of changes (R131, R132) -/

theorem Store.foldl_modifyUnit_units (f : UnitRec → UnitRec) (us : List Nat) (st : Store) (k : Nat) :
    (us.foldl (fun (st : Store) u => st.modifyUnit u f) st).units[k]? = (st.units[k]?).map (f^[us.count k]) := by
  induction us generalizing st with
  | nil => simp
  | cons u us ih =>
    rw [List.foldl_cons, ih, Store.modifyUnit, List.getElem?_modify]
    by_cases hu : u = k
    · subst hu
      cases st.units[u]? <;> simp
    · cases st.units[k]? <;> simp [hu]

theorem Store.releaseHolders_units (us : List Nat) (st : Store) (k : Nat) :
    (st.releaseHolders us).units[k]? = (st.units[k]?).map (UnitRec.release^[us.count k]) :=
  Store.foldl_modifyUnit_units _ us st k

theorem UnitRec.release_holders (e : UnitRec) : e.release.holders = e.holders - 1 := by
  unfold UnitRec.release
  split
  · rename_i h
    dsimp only
    omega
  · rfl

theorem UnitRec.release_of_not_sealed {e : UnitRec} (h : e.state ≠ .sealed) :
    e.release = { e with holders := e.holders - 1 } := if_neg fun h' => h h'.1

/-- Each release takes one holder, while there is one (R132). -/
theorem UnitRec.releases_holders (n : Nat) (e : UnitRec) : (UnitRec.release^[n] e).holders = e.holders - n := by
  induction n generalizing e with
  | zero => rfl
  | succ n ih => rw [Function.iterate_succ_apply, ih, UnitRec.release_holders]; omega

/-- A unit that is not SEALED keeps its state over releases (R132). -/
theorem UnitRec.releases_state_of_not_sealed (n : Nat) {e : UnitRec} (h : e.state ≠ .sealed) :
    (UnitRec.release^[n] e).state = e.state := by
  induction n generalizing e with
  | zero => rfl
  | succ n ih =>
    rw [Function.iterate_succ_apply, UnitRec.release_of_not_sealed h]
    exact ih h

/-- A SEALED unit stays so while holders remain, and becomes FREE_DIRTY with the last (R132). -/
theorem UnitRec.releases_state_of_sealed (n : Nat) {e : UnitRec} (h : e.state = .sealed) :
    (UnitRec.release^[n] e).state = if 0 < n ∧ e.holders ≤ n then .freeDirty else .sealed := by
  induction n generalizing e with
  | zero => simpa using h
  | succ n ih =>
    rw [Function.iterate_succ_apply]
    by_cases hlast : e.holders ≤ 1
    · have hfree : e.release = { e with state := .freeDirty, holders := 0 } := if_pos ⟨h, hlast⟩
      rw [hfree, UnitRec.releases_state_of_not_sealed n (by decide), if_pos (by omega)]
    · have hstay : e.release = { e with holders := e.holders - 1 } := if_neg fun h' => hlast h'.2
      rw [hstay, ih (by exact h)]
      refine if_congr ?_ rfl rfl
      dsimp only
      omega

/-- What a count of releases leaves of a unit (R132). -/
theorem UnitRec.releases_spec (n : Nat) (e : UnitRec) :
    (UnitRec.release^[n] e).holders = e.holders - n ∧
      (e.state = .sealed → 0 < n → e.holders ≤ n → (UnitRec.release^[n] e).state = .freeDirty) ∧
      (e.state ≠ .sealed ∨ n = 0 ∨ n < e.holders → (UnitRec.release^[n] e).state = e.state) := by
  refine ⟨UnitRec.releases_holders n e, fun hs hn hle => ?_, fun h => ?_⟩
  · rw [UnitRec.releases_state_of_sealed n hs, if_pos ⟨hn, hle⟩]
  · by_cases hs : e.state = .sealed
    · have hkeep := h.resolve_left (not_not.2 hs)
      rw [UnitRec.releases_state_of_sealed n hs, if_neg (by omega), hs]
    · exact UnitRec.releases_state_of_not_sealed n hs

/-! ### The eraser (R143) -/

theorem Store.mem_unitsIn (st : Store) (x : UnitState) (u : Nat) :
    u ∈ st.unitsIn x ↔ (st.units[u]?).map (·.state) = some x := by
  simp only [Store.unitsIn, List.mem_filterMap, Prod.exists, List.mem_zipIdx_iff_getElem?, Option.map_eq_some_iff]
  constructor
  · rintro ⟨e, n, he, h⟩
    split at h
    · rename_i hx
      cases h
      exact ⟨e, he, hx⟩
    · cases h
  · rintro ⟨e, he, hx⟩
    exact ⟨e, u, he, if_pos hx⟩

theorem Store.place_waiting (purpose : Purpose) (cls : OpClass) (op : StoreOp) (st : Store) :
    (∃ a h, (st.place purpose cls op).arbiter = st.arbiter ++ a ∧ (st.place purpose cls op).heldBack = st.heldBack ++ h) ∧
      (⟨purpose, cls, op, 0⟩ : WaitingOp) ∈ (st.place purpose cls op).arbiter ++ (st.place purpose cls op).heldBack := by
  unfold Store.place
  dsimp only
  split
  · exact ⟨⟨[], _, by simp, rfl⟩, by simp⟩
  · exact ⟨⟨_, [], rfl, by simp⟩, by simp⟩

/-- The eraser adds to what waits, and takes nothing away (R143). -/
theorem Store.eraser_waiting (st : Store) :
    ∃ a h, st.eraser.arbiter = st.arbiter ++ a ∧ st.eraser.heldBack = st.heldBack ++ h := by
  unfold Store.eraser
  split
  · dsimp only
    split
    · exact ⟨[], [], by simp, by simp⟩
    · obtain ⟨t, ht, -⟩ := Store.modifyUnits_frame (fun _ r => { r with state := .erasing })
        ((st.unitsIn .freeDirty).take _) st
      rw [ht]
      exact (Store.place_waiting .eraseBatch .erase _ { st with units := t, batch := some _ }).1
  · exact ⟨[], [], by simp, by simp⟩

/-- The eraser takes up FREE_DIRTY units, and changes no other (R143). -/
theorem Store.eraser_units (st : Store) {k : Nat} {e : UnitRec} (h : st.units[k]? = some e) :
    st.eraser.units[k]? = some e ∨ e.state = .freeDirty ∧ st.eraser.units[k]? = some { e with state := .erasing } := by
  unfold Store.eraser
  split
  · rename_i d _ _ _
    dsimp only
    split
    · exact .inl h
    · obtain ⟨a, b, hp⟩ := Store.place_frame .eraseBatch .erase (.erase ((st.unitsIn .freeDirty).take d.batchSize))
        { ((st.unitsIn .freeDirty).take d.batchSize).foldl
            (fun (st : Store) u => st.modifyUnit u fun r => { r with state := .erasing }) st with
          batch := some { units := (st.unitsIn .freeDirty).take d.batchSize, granted := false } }
      rw [hp]
      dsimp only
      rw [Store.foldl_modifyUnit_units, h]
      cases hc : ((st.unitsIn .freeDirty).take d.batchSize).count k with
      | zero => exact .inl rfl
      | succ n =>
        have hmem : k ∈ (st.unitsIn .freeDirty).take d.batchSize := List.count_pos_iff.1 (by omega)
        have hstate := (st.mem_unitsIn .freeDirty k).1 (List.mem_of_mem_take hmem)
        rw [h] at hstate
        have herase : (fun r : UnitRec => { r with state := .erasing })^[n + 1] e = { e with state := .erasing } := by
          rw [Function.iterate_succ_apply]
          exact Function.iterate_fixed rfl n
        exact .inr ⟨by simpa using hstate, by rw [Option.map_some, herase]⟩
  · exact .inl h

/-! ### Settling a pool's records (R106) -/

/-- A record that stays in the pool: in a generation, or with readers (R106). -/
def Asset.kept (a : Asset) : Bool := a.inLive || a.inStaged || decide (0 < a.readers)

theorem Catalog.record_of_mem {c : Catalog} (hn : (c.pool.map (·.uid)).Nodup) {a : Asset} (ha : a ∈ c.pool) :
    c.record a.uid = some a := by
  unfold Catalog.record
  cases hf : c.pool.find? (·.uid == a.uid) with
  | none =>
    have hno := List.find?_eq_none.1 hf a ha
    simp at hno
  | some b =>
    have hb : b.uid = a.uid := by simpa using List.find?_some hf
    rw [List.inj_on_of_nodup_map hn (List.mem_of_find?_eq_some hf) ha hb]

theorem Catalog.mem_of_record {c : Catalog} {uid : Nat} {a : Asset} (h : c.record uid = some a) :
    a ∈ c.pool ∧ a.uid = uid :=
  ⟨List.mem_of_find?_eq_some h, by simpa using List.find?_some h⟩

theorem removeRecord_pool {s : State} {uid : Nat} {a : Asset} (h : s.catalog.record uid = some a) :
    (removeRecord uid s).catalog.pool = s.catalog.pool.filter (·.uid != uid) := by
  rw [removeRecord, h]

theorem removeRecord_retiring {s : State} {uid : Nat} {a : Asset} (h : s.catalog.record uid = some a) :
    (removeRecord uid s).catalog.retiring = s.catalog.retiring.filter (· != uid) := by
  rw [removeRecord, h]

/-- While the intake has no operation on the port, a removal changes the store by its releases alone (R106). -/
theorem removeRecord_store {s : State} {uid : Nat} {a : Asset} (h : s.catalog.record uid = some a)
    (hi : s.store.inProgress .intake = false) :
    (removeRecord uid s).store = s.store.releaseHolders (s.store.unitsOfAsset a) := by
  obtain ⟨units, hunits, -⟩ := Store.releaseHolders_frame (s.store.unitsOfAsset a) s.store
  cases hp : s.store.port with
  | none => simp [removeRecord, h, hp, hunits]
  | some p => simp [removeRecord, h, hp, State.intakeWorksFor, hi, hunits]

/-- What settling a record comes to (R106). -/
theorem settleRecord_cases {s : State} {uid : Nat} {a : Asset} (h : s.catalog.record uid = some a) :
    (a.kept = false ∧ settleRecord uid s = removeRecord uid s) ∨
      (a.inLive = false ∧ a.inStaged = false ∧ 0 < a.readers ∧ uid ∉ s.catalog.retiring ∧
        settleRecord uid s = s.setCatalog { s.catalog with retiring := s.catalog.retiring ++ [uid] }) ∨
      (a.kept = true ∧ (a.inLive = true ∨ a.inStaged = true ∨ uid ∈ s.catalog.retiring) ∧ settleRecord uid s = s) := by
  unfold settleRecord
  rw [h]
  dsimp only
  split
  · rename_i hg
    have hg' : a.inLive = true ∨ a.inStaged = true := by simpa using hg
    exact .inr (.inr ⟨by simp only [Asset.kept, hg, Bool.true_or], hg'.imp_right .inl, rfl⟩)
  · rename_i hg
    have hg' : a.inLive = false ∧ a.inStaged = false := by simpa using hg
    split
    · rename_i hr
      exact .inl ⟨by simp [Asset.kept, hg', hr], rfl⟩
    · rename_i hr
      have hpos : 0 < a.readers := by omega
      split
      · rename_i hret
        exact .inr (.inr ⟨by simp [Asset.kept, hpos], .inr (.inr hret), rfl⟩)
      · rename_i hret
        exact .inr (.inl ⟨hg'.1, hg'.2, hpos, hret, rfl⟩)

theorem settleRecord_none {s : State} {uid : Nat} (h : s.catalog.record uid = none) : settleRecord uid s = s := by
  rw [settleRecord, h]

theorem settleRecord_pool (uid : Nat) (s : State) (hn : (s.catalog.pool.map (·.uid)).Nodup) :
    (settleRecord uid s).catalog.pool = s.catalog.pool.filter fun a => a.kept || a.uid != uid := by
  have hall : (∀ a ∈ s.catalog.pool, a.uid = uid → a.kept = true) →
      s.catalog.pool = s.catalog.pool.filter fun a => a.kept || a.uid != uid := fun hk =>
    (List.filter_eq_self.2 fun a ha => by
      by_cases hu : a.uid = uid
      · simp [hk a ha hu]
      · simp [hu]).symm
  cases hr : s.catalog.record uid with
  | none =>
    rw [settleRecord_none hr]
    refine hall fun a ha hu => ?_
    rw [← hu, Catalog.record_of_mem hn ha] at hr
    cases hr
  | some a =>
    obtain ⟨ha, hu⟩ := Catalog.mem_of_record hr
    have hone : ∀ b ∈ s.catalog.pool, b.uid = uid → b = a := fun b hb hub =>
      List.inj_on_of_nodup_map hn hb ha (hub.trans hu.symm)
    rcases settleRecord_cases hr with ⟨hk, hs⟩ | ⟨-, -, hpos, -, hs⟩ | ⟨hk, -, hs⟩
    · rw [hs, removeRecord_pool hr]
      refine List.filter_congr fun b hb => ?_
      by_cases hub : b.uid = uid
      · simp [hone b hb hub, hk, hu]
      · simp [hub]
    · rw [hs]
      exact hall fun b hb hub => by rw [hone b hb hub]; simp [Asset.kept, hpos]
    · rw [hs]
      exact hall fun b hb hub => by rw [hone b hb hub]; exact hk

theorem nodup_filter_uid {pool : List Asset} (h : (pool.map (·.uid)).Nodup) (p : Asset → Bool) :
    ((pool.filter p).map (·.uid)).Nodup := h.sublist (List.filter_sublist.map _)

theorem settleRecords_cons (u : Nat) (us : List Nat) (s : State) :
    settleRecords (u :: us) s = settleRecords us (settleRecord u s) := rfl

theorem settleRecords_pool (us : List Nat) (s : State) (hn : (s.catalog.pool.map (·.uid)).Nodup) :
    (settleRecords us s).catalog.pool = s.catalog.pool.filter fun a => a.kept || decide (a.uid ∉ us) := by
  induction us generalizing s with
  | nil => simp [settleRecords]
  | cons u us ih =>
    have hstep := settleRecord_pool u s hn
    rw [settleRecords_cons, ih _ (by rw [hstep]; exact nodup_filter_uid hn _), hstep, List.filter_filter]
    refine List.filter_congr fun a _ => ?_
    cases a.kept with
    | true => simp
    | false => by_cases hu : a.uid = u <;> simp [hu]

/-- Settling every record of a pool leaves those in a generation or with readers (R106). -/
theorem settleAll_pool (s : State) (hn : (s.catalog.pool.map (·.uid)).Nodup) :
    (settleRecords (s.catalog.pool.map (·.uid)) s).catalog.pool = s.catalog.pool.filter Asset.kept := by
  rw [settleRecords_pool _ s hn]
  refine List.filter_congr fun a ha => ?_
  have hu : a.uid ∈ s.catalog.pool.map (·.uid) := List.mem_map_of_mem ha
  simp [hu]

/-- One record of a pool settled, the rest of a list of its records being still there. -/
theorem settleRecord_rest {s : State} {a : Asset} {l : List Asset} (hn : (s.catalog.pool.map (·.uid)).Nodup)
    (hl : ((a :: l).map (·.uid)).Nodup) (hsub : ∀ b ∈ a :: l, b ∈ s.catalog.pool) :
    ((settleRecord a.uid s).catalog.pool.map (·.uid)).Nodup ∧ ∀ b ∈ l, b ∈ (settleRecord a.uid s).catalog.pool := by
  rw [settleRecord_pool _ s hn]
  refine ⟨nodup_filter_uid hn _, fun b hb => List.mem_filter.2 ⟨hsub b (List.mem_cons_of_mem _ hb), ?_⟩⟩
  have hne : b.uid ≠ a.uid := fun h => (List.nodup_cons.1 hl).1 (List.mem_map.2 ⟨b, hb, h⟩)
  simp [hne]

/-- The records of a list that begin to retire join the retiring list in its order (R106, log entry 30). -/
theorem settleRecords_retiring (l : List Asset) (s : State) (hn : (s.catalog.pool.map (·.uid)).Nodup)
    (hl : (l.map (·.uid)).Nodup) (hsub : ∀ a ∈ l, a ∈ s.catalog.pool)
    (hret : ∀ n ∈ s.catalog.retiring, ∃ a ∈ s.catalog.pool, a.uid = n ∧ 0 < a.readers) :
    (settleRecords (l.map (·.uid)) s).catalog.retiring = s.catalog.retiring ++ (l.filter fun a =>
      a.inLive = false ∧ a.inStaged = false ∧ 0 < a.readers ∧ a.uid ∉ s.catalog.retiring).map (·.uid) := by
  induction l generalizing s with
  | nil => simp [settleRecords]
  | cons a l ih =>
    have ha := hsub a (by simp)
    have hrec := Catalog.record_of_mem hn ha
    obtain ⟨hn', hsub'⟩ := settleRecord_rest hn hl hsub
    have hpool := settleRecord_pool a.uid s hn
    have hstep : (settleRecord a.uid s).catalog.retiring = s.catalog.retiring ++
        if a.inLive = false ∧ a.inStaged = false ∧ 0 < a.readers ∧ a.uid ∉ s.catalog.retiring then [a.uid] else [] := by
      rcases settleRecord_cases hrec with ⟨hk, hs⟩ | ⟨h1, h2, h3, h4, hs⟩ | ⟨-, hk, hs⟩
      · have hz : ¬ 0 < a.readers := fun h => by simp [Asset.kept, h] at hk
        rw [hs, removeRecord_retiring hrec, if_neg (fun h => hz h.2.2.1), List.append_nil]
        refine List.filter_eq_self.2 fun n hin => ?_
        obtain ⟨b, hb, hbn, hbr⟩ := hret n hin
        have hne : n ≠ a.uid := fun h => hz (by
          rwa [List.inj_on_of_nodup_map hn hb ha (hbn.trans h)] at hbr)
        simpa using hne
      · rw [hs, if_pos ⟨h1, h2, h3, h4⟩]
        rfl
      · rw [hs, if_neg, List.append_nil]
        rintro ⟨h1, h2, -, h4⟩
        rcases hk with hk | hk | hk
        · rw [h1] at hk; cases hk
        · rw [h2] at hk; cases hk
        · exact h4 hk
    have hret' : ∀ n ∈ (settleRecord a.uid s).catalog.retiring,
        ∃ b ∈ (settleRecord a.uid s).catalog.pool, b.uid = n ∧ 0 < b.readers := by
      intro n hin
      obtain ⟨b, hb, hbn, hbr⟩ : ∃ b ∈ s.catalog.pool, b.uid = n ∧ 0 < b.readers := by
        rw [hstep, List.mem_append] at hin
        rcases hin with hin | hin
        · exact hret n hin
        · split at hin
          · rename_i h
            exact ⟨a, ha, (List.mem_singleton.1 hin).symm, h.2.2.1⟩
          · cases hin
      exact ⟨b, by rw [hpool]; exact List.mem_filter.2 ⟨hb, by simp [Asset.kept, hbr]⟩, hbn, hbr⟩
    have ih' := ih _ hn' (List.nodup_cons.1 hl).2 hsub' hret'
    have hsame : (l.filter fun b => b.inLive = false ∧ b.inStaged = false ∧ 0 < b.readers ∧
        b.uid ∉ (settleRecord a.uid s).catalog.retiring) =
        l.filter fun b => b.inLive = false ∧ b.inStaged = false ∧ 0 < b.readers ∧ b.uid ∉ s.catalog.retiring := by
      refine List.filter_congr fun b hb => ?_
      have hne : b.uid ≠ a.uid := fun h => (List.nodup_cons.1 hl).1 (List.mem_map.2 ⟨b, hb, h⟩)
      have hmem : b.uid ∈ (settleRecord a.uid s).catalog.retiring ↔ b.uid ∈ s.catalog.retiring := by
        rw [hstep, List.mem_append, or_iff_left]
        split <;> simp [hne]
      simp only [hmem]
    rw [List.map_cons, settleRecords_cons, ih', hsame, hstep, List.filter_cons, List.append_assoc]
    congr 1
    by_cases hc : a.inLive = false ∧ a.inStaged = false ∧ 0 < a.readers ∧ a.uid ∉ s.catalog.retiring
    · simp [hc]
    · rw [if_neg hc, if_neg (by simpa using hc), List.nil_append]

/-- Each record of a list that is removed releases each of its units once (R106, R132). -/
theorem settleRecords_units (l : List Asset) (s : State) (hn : (s.catalog.pool.map (·.uid)).Nodup)
    (hl : (l.map (·.uid)).Nodup) (hsub : ∀ a ∈ l, a ∈ s.catalog.pool) (hi : s.store.inProgress .intake = false) (k : Nat) :
    (settleRecords (l.map (·.uid)) s).store.units[k]? = (s.store.units[k]?).map (UnitRec.release^[l.countP fun a =>
      !a.kept && decide (k ∈ unitsOfRuns s.store.pagesPerUnit a.extents)]) := by
  induction l generalizing s with
  | nil => simp [settleRecords]
  | cons a l ih =>
    have hrec := Catalog.record_of_mem hn (hsub a (by simp))
    obtain ⟨hn', hsub'⟩ := settleRecord_rest hn hl hsub
    have hstore : (settleRecord a.uid s).store =
        if a.kept then s.store else s.store.releaseHolders (s.store.unitsOfAsset a) := by
      rcases settleRecord_cases hrec with ⟨hk, hs⟩ | ⟨-, -, hpos, -, hs⟩ | ⟨hk, -, hs⟩
      · rw [hs, removeRecord_store hrec hi, if_neg (by simp [hk])]
      · rw [hs, if_pos (by simp [Asset.kept, hpos])]; rfl
      · rw [hs, if_pos hk]
    have hframe : (settleRecord a.uid s).store.inProgress .intake = false ∧
        (settleRecord a.uid s).store.pagesPerUnit = s.store.pagesPerUnit := by
      rw [hstore]
      split
      · exact ⟨hi, rfl⟩
      · obtain ⟨units, hunits, -⟩ := Store.releaseHolders_frame (s.store.unitsOfAsset a) s.store
        rw [hunits]
        exact ⟨hi, rfl⟩
    have ih' := ih _ hn' (List.nodup_cons.1 hl).2 hsub' hframe.1
    rw [hframe.2] at ih'
    rw [List.map_cons, settleRecords_cons, ih', hstore, List.countP_cons]
    cases hk : a.kept with
    | true => simp
    | false =>
      have hcount : (s.store.unitsOfAsset a).count k =
          if k ∈ unitsOfRuns s.store.pagesPerUnit a.extents then 1 else 0 := by
        rw [Store.unitsOfAsset]
        split
        · rename_i h
          exact List.count_eq_one_of_mem (List.nodup_dedup _) h
        · rename_i h
          exact List.count_eq_zero_of_not_mem h
      simp only [Bool.false_eq_true, if_false, Store.releaseHolders_units, hcount, Option.map_map, Bool.not_false, Bool.true_and,
        decide_eq_true_eq, Function.iterate_add]

end Sys2Proof.Machine
end

section
/-!
The switch of the live generation (R124): the Still Cache's part (R58), the frames of its steps, the live records across it, what
settling leaves of pool, retiring list and units, and glyph memory's part (R125).
-/

namespace Sys2Proof.Machine

open Sys2Proof

/-! ### The Still Cache at a switch (R58) -/

/-- A slot that a switch frees: RESIDENT, unpinned, its identity not live (R58). -/
abbrev StillCache.freedOnSwitch (cat : Catalog) (c : StillCache) (k : Nat) : Prop :=
  (c.slot k).state = .resident ∧ c.pinCount k = 0 ∧ ((c.slot k).ident.any fun i => !cat.inLive i) = true

/-- A slot's record as a switch leaves it (R58). -/
def StillCache.alignedSlot (cat : Catalog) (c : StillCache) (k : Nat) : Slot :=
  match (c.slot k).state, (c.slot k).ident with
  | .resident, some i =>
    if cat.inLive i then { c.slot k with stale := false }
    else if c.pinCount k = 0 then {}
    else { c.slot k with stale := true }
  | _, _ => c.slot k

theorem StillCache.alignedSlot_other {cat : Catalog} {c : StillCache} {k : Nat}
    (h : (c.slot k).state ≠ .resident ∨ (c.slot k).ident = none) : c.alignedSlot cat k = c.slot k := by
  unfold StillCache.alignedSlot
  split
  · rename_i hs hi
    simp [hs, hi] at h
  · rfl

theorem StillCache.alignedSlot_resident {cat : Catalog} {c : StillCache} {k : Nat} {i : Ident}
    (hs : (c.slot k).state = .resident) (hi : (c.slot k).ident = some i) :
    c.alignedSlot cat k = if cat.inLive i then { c.slot k with stale := false }
      else if c.pinCount k = 0 then {} else { c.slot k with stale := true } := by
  rw [StillCache.alignedSlot, hs, hi]

/-- One slot brought into line: its own record and place in the reuse list, nothing else (R58). -/
theorem StillCache.alignSlot_spec (cat : Catalog) (c : StillCache) (k : Nat) :
    ∃ slots reuse, c.alignSlot cat k = { c with slots := slots, reuse := reuse } ∧
      (∀ j, (c.alignSlot cat k).slot j = if j = k then c.alignedSlot cat k else c.slot j) ∧
      reuse = c.reuse.filter fun j => ¬ (j = k ∧ c.freedOnSwitch cat k) := by
  by_cases hres : (c.slot k).state = .resident ∧ (c.slot k).ident.isSome
  · obtain ⟨hs, hi⟩ := hres
    obtain ⟨i, hi⟩ := Option.isSome_iff_exists.1 hi
    have hk := StillCache.slot_lt_of_resident hs
    have heq : c.alignSlot cat k = if cat.inLive i then c.setSlot k { c.slot k with stale := false }
        else if c.pinCount k = 0 then { c.freeSlot k with reuse := c.reuse.filter (· != k) }
        else c.setSlot k { c.slot k with stale := true } := by
      unfold StillCache.alignSlot
      dsimp only
      split
      · rename_i hi'
        cases hi.symm.trans hi'
        rfl
      · rename_i hno
        exact absurd hi (hno i hs)
    rw [heq, StillCache.alignedSlot_resident hs hi]
    cases hl : cat.inLive i with
    | true => exact ⟨_, c.reuse, rfl, fun j => StillCache.slot_setSlot hk _ j, by simp [hi, hl]⟩
    | false =>
      by_cases hp : c.pinCount k = 0
      · refine ⟨(c.freeSlot k).slots, c.reuse.filter (· != k), by simp [hp, StillCache.freeSlot, StillCache.setSlot],
          fun j => ?_, ?_⟩
        · simp only [Bool.false_eq_true, if_false, hp, if_true]
          exact StillCache.slot_setSlot hk {} j
        · exact List.filter_congr fun j _ => by by_cases hj : j = k <;> simp [hs, hi, hl, hp, hj]
      · refine ⟨_, c.reuse, by simp only [Bool.false_eq_true, if_false, hp]; rfl, fun j => ?_, by simp [hp]⟩
        simp only [Bool.false_eq_true, if_false, hp]
        exact StillCache.slot_setSlot hk _ j
  · have hno : (c.slot k).state ≠ .resident ∨ (c.slot k).ident = none := by
      by_cases hs : (c.slot k).state = .resident
      · exact .inr (by simpa [hs] using hres)
      · exact .inl hs
    have heq : c.alignSlot cat k = c := by
      unfold StillCache.alignSlot
      dsimp only
      split
      · rename_i hs hi
        simp [hs, hi] at hres
      · rfl
    rw [heq, StillCache.alignedSlot_other hno]
    refine ⟨c.slots, c.reuse, rfl, fun j => by split <;> simp_all, ?_⟩
    rcases hno with hs | hi
    · simp [hs]
    · simp [hi]

/-- The first `n` slots brought into line, each by what stood before (R58). -/
theorem StillCache.alignAll_spec (cat : Catalog) (c : StillCache) (n : Nat) :
    let d := (List.range n).foldl (StillCache.alignSlot cat) c
    (∃ slots reuse, d = { c with slots := slots, reuse := reuse }) ∧
      (∀ j, d.slot j = if j < n then c.alignedSlot cat j else c.slot j) ∧
      d.reuse = c.reuse.filter fun j => ¬ (j < n ∧ c.freedOnSwitch cat j) := by
  induction n with
  | zero => exact ⟨⟨c.slots, c.reuse, rfl⟩, by simp, by simp⟩
  | succ n ih =>
    obtain ⟨⟨slots, reuse, hd⟩, hslot, hreuse⟩ := ih
    simp only [List.range_succ, List.foldl_append, List.foldl_cons, List.foldl_nil]
    generalize (List.range n).foldl (StillCache.alignSlot cat) c = d at hd hslot hreuse ⊢
    have hpin : d.pinCount n = c.pinCount n := StillCache.pinCount_congr (by rw [hd]) n
    have hn : d.slot n = c.slot n := by rw [hslot]; simp
    have haligned : d.alignedSlot cat n = c.alignedSlot cat n := by
      rw [StillCache.alignedSlot, hn, hpin, StillCache.alignedSlot]
    obtain ⟨slots', reuse', hstep, hslot', hreuse'⟩ := d.alignSlot_spec cat n
    simp only [StillCache.freedOnSwitch, hn, hpin] at hreuse'
    refine ⟨⟨slots', reuse', by rw [hstep, hd]⟩, fun j => ?_, ?_⟩
    · rw [hslot', hslot, haligned]
      by_cases hj : j = n
      · subst hj; simp
      · have hlt : j < n + 1 ↔ j < n := by omega
        simp [hj, hlt]
    · rw [hstep, hreuse', hreuse, List.filter_filter]
      refine List.filter_congr fun j _ => ?_
      by_cases hj : j = n
      · subst hj; simp
      · have hlt : j < n + 1 ↔ j < n := by omega
        simp [hj, hlt]

/-- The whole reaction of the Still Cache to a switch (R58). -/
theorem StillCache.onSwitch_spec (cat : Catalog) (c : StillCache) :
    (∀ j, j < 96 → (c.onSwitch cat).slot j = c.alignedSlot cat j) ∧
      (c.onSwitch cat).reuse = (c.reuse.filter fun j => ¬ (j < 96 ∧ c.freedOnSwitch cat j)) ∧
      (c.onSwitch cat).pins = c.pins ∧ (c.onSwitch cat).loads = c.loads ∧ (c.onSwitch cat).failed = [] ∧
      (c.onSwitch cat).queue = c.queue.filter fun e => cat.inLive e.ident := by
  have hall := StillCache.alignAll_spec cat { c with queue := c.queue.filter fun e => cat.inLive e.ident } 96
  unfold StillCache.onSwitch
  dsimp only at hall ⊢
  generalize (List.range 96).foldl (StillCache.alignSlot cat) _ = d at hall ⊢
  obtain ⟨⟨slots, reuse, rfl⟩, hslot, hreuse⟩ := hall
  refine ⟨fun j hj => ?_, hreuse, rfl, rfl, rfl, rfl⟩
  have h := hslot j
  rw [if_pos hj] at h
  exact h

/-! ### What the steps of a switch may change -/

/-- Records have been settled and holders released: pool, retiring list, units and the port's mark may have changed. -/
def Settling (s t : State) : Prop :=
  ∃ pool retiring units port, t = { s with
    catalog := { s.catalog with pool := pool, retiring := retiring }, store := { s.store with units := units, port := port } }

theorem Settling.refl (s : State) : Settling s s :=
  ⟨s.catalog.pool, s.catalog.retiring, s.store.units, s.store.port, rfl⟩

theorem Settling.trans {s t u : State} (h : Settling s t) (h' : Settling t u) : Settling s u := by
  obtain ⟨_, _, _, _, rfl⟩ := h
  obtain ⟨pool, retiring, units, port, rfl⟩ := h'
  exact ⟨pool, retiring, units, port, rfl⟩

theorem settling_releaseHolders (us : List Nat) (s : State) : Settling s (s.setStore (s.store.releaseHolders us)) := by
  obtain ⟨units, h, -⟩ := Store.releaseHolders_frame us s.store
  exact ⟨s.catalog.pool, s.catalog.retiring, units, s.store.port, by rw [h]; rfl⟩

theorem settling_modify (uid : Nat) (f : Asset → Asset) (s : State) :
    Settling s (s.setCatalog (s.catalog.modify uid f)) :=
  ⟨_, s.catalog.retiring, s.store.units, s.store.port, rfl⟩

theorem settling_removeRecord (uid : Nat) (s : State) : Settling s (removeRecord uid s) := by
  unfold removeRecord
  split
  · exact Settling.refl s
  · dsimp only
    obtain ⟨units, h, -⟩ := Store.releaseHolders_frame _ s.store
    rw [h]
    exact ⟨_, _, units, _, rfl⟩

theorem settling_settleRecord (uid : Nat) (s : State) : Settling s (settleRecord uid s) := by
  cases h : s.catalog.record uid with
  | none => rw [settleRecord_none h]; exact Settling.refl s
  | some a =>
    rcases settleRecord_cases h with ⟨-, hs⟩ | ⟨-, -, -, -, hs⟩ | ⟨-, -, hs⟩
    · rw [hs]; exact settling_removeRecord uid s
    · rw [hs]; exact ⟨s.catalog.pool, _, s.store.units, s.store.port, rfl⟩
    · rw [hs]; exact Settling.refl s

theorem settling_settleRecords (us : List Nat) (s : State) : Settling s (settleRecords us s) := by
  induction us generalizing s with
  | nil => exact Settling.refl s
  | cons u us ih => exact (settling_settleRecord u s).trans (ih _)

theorem settling_releaseReader (uid : Nat) (s : State) : Settling s (releaseReader uid s) :=
  (settling_modify uid _ s).trans (settling_settleRecord uid _)

/-- Glyph memory has done its part: beside settling, glyph memory, its load and the waiting operations may have changed. -/
def GlyphWork (s t : State) : Prop :=
  ∃ pool retiring glyphs load units port arbiter heldBack, t = { s with
    catalog := { s.catalog with pool := pool, retiring := retiring, glyphs := glyphs, glyphLoad := load }
    store := { s.store with units := units, port := port, arbiter := arbiter, heldBack := heldBack } }

theorem GlyphWork.refl (s : State) : GlyphWork s s :=
  ⟨s.catalog.pool, s.catalog.retiring, s.catalog.glyphs, s.catalog.glyphLoad, s.store.units, s.store.port, s.store.arbiter,
    s.store.heldBack, rfl⟩

theorem GlyphWork.trans {s t u : State} (h : GlyphWork s t) (h' : GlyphWork t u) : GlyphWork s u := by
  obtain ⟨_, _, _, _, _, _, _, _, rfl⟩ := h
  obtain ⟨pool, retiring, glyphs, load, units, port, arbiter, heldBack, rfl⟩ := h'
  exact ⟨pool, retiring, glyphs, load, units, port, arbiter, heldBack, rfl⟩

theorem Settling.glyphWork {s t : State} (h : Settling s t) : GlyphWork s t := by
  obtain ⟨pool, retiring, units, port, rfl⟩ := h
  exact ⟨pool, retiring, s.catalog.glyphs, s.catalog.glyphLoad, units, port, s.store.arbiter, s.store.heldBack, rfl⟩

/-- A glyph load begins: glyph memory is invalid, the record has a reader more, and its first read is asked for (R125). -/
theorem startGlyphLoad_eq (a : Asset) (s : State) : startGlyphLoad a s = { s with
    catalog := { s.catalog.modify a.uid (fun a => { a with readers := a.readers + 1 }) with
      glyphs := none
      glyphLoad := some ⟨a.uid, (readRuns (takePages (pagesFor a.length) a.extents)).drop 1, []⟩ }
    store := match readRuns (takePages (pagesFor a.length) a.extents) with
      | r :: _ => s.store.place .glyph .prefetch (.pageRead r)
      | [] => s.store } := by
  unfold startGlyphLoad
  cases readRuns (takePages (pagesFor a.length) a.extents) <;> rfl

theorem startGlyphLoad_units (a : Asset) (s : State) : (startGlyphLoad a s).store.units = s.store.units := by
  rw [startGlyphLoad_eq]
  dsimp only
  split
  · obtain ⟨arb, held, h⟩ := Store.place_frame .glyph .prefetch (.pageRead _) s.store
    rw [h]
  · rfl

theorem startGlyphLoad_work (a : Asset) (s : State) : GlyphWork s (startGlyphLoad a s) := by
  rw [startGlyphLoad_eq]
  cases readRuns (takePages (pagesFor a.length) a.extents) with
  | nil => exact ⟨_, s.catalog.retiring, _, _, s.store.units, s.store.port, s.store.arbiter, s.store.heldBack, rfl⟩
  | cons r _ =>
    obtain ⟨arb, held, h⟩ := Store.place_frame .glyph .prefetch (.pageRead r) s.store
    exact ⟨_, s.catalog.retiring, _, _, s.store.units, s.store.port, arb, held, by dsimp only; rw [h]; rfl⟩

/-- The first read of a glyph load that begins waits for the port (R125, R148). -/
theorem startGlyphLoad_asks (a : Asset) (s : State) {r : Run} {more : List Run}
    (h : readRuns (takePages (pagesFor a.length) a.extents) = r :: more) :
    (⟨.glyph, .prefetch, .pageRead r, 0⟩ : WaitingOp) ∈
      (startGlyphLoad a s).store.arbiter ++ (startGlyphLoad a s).store.heldBack := by
  rw [startGlyphLoad_eq, h]
  exact (s.store.place_waiting .glyph .prefetch (.pageRead r)).2

theorem abandonGlyphLoad_none {s : State} (h : s.catalog.glyphLoad = none) : abandonGlyphLoad s = s := by
  rw [abandonGlyphLoad, h]

/-- What an abandoned glyph load leaves: the store without its operations, no load, and its reader released now or at the end of the
operation in progress (R125). -/
theorem abandonGlyphLoad_cases (s : State) : ∃ s', (∃ port arbiter heldBack, s' = { s with
      catalog := { s.catalog with glyphLoad := none }
      store := { s.store with port := port, arbiter := arbiter, heldBack := heldBack } }) ∧
    (abandonGlyphLoad s = s' ∨ ∃ uid, abandonGlyphLoad s = releaseReader uid s') := by
  cases h : s.catalog.glyphLoad with
  | none =>
    refine ⟨s, ⟨s.store.port, s.store.arbiter, s.store.heldBack, ?_⟩, .inl (abandonGlyphLoad_none h)⟩
    rw [← h]
  | some g =>
    unfold abandonGlyphLoad
    rw [h]
    dsimp only
    split
    · exact ⟨_, ⟨_, _, _, rfl⟩, .inl rfl⟩
    · exact ⟨_, ⟨s.store.port, _, _, rfl⟩, .inr ⟨g.record, rfl⟩⟩

theorem abandonGlyphLoad_work (s : State) : GlyphWork s (abandonGlyphLoad s) := by
  obtain ⟨s', ⟨port, arbiter, heldBack, hs'⟩, h⟩ := abandonGlyphLoad_cases s
  have hw : GlyphWork s s' :=
    ⟨s.catalog.pool, s.catalog.retiring, s.catalog.glyphs, none, s.store.units, port, arbiter, heldBack, hs'⟩
  rcases h with h | ⟨uid, h⟩
  · rw [h]; exact hw
  · rw [h]; exact hw.trans (settling_releaseReader uid s').glyphWork

theorem abandonGlyphLoad_glyphLoad (s : State) : (abandonGlyphLoad s).catalog.glyphLoad = none := by
  obtain ⟨s', ⟨port, arbiter, heldBack, rfl⟩, h⟩ := abandonGlyphLoad_cases s
  rcases h with h | ⟨uid, h⟩
  · rw [h]
  · obtain ⟨pool, retiring, units, port, hr⟩ := settling_releaseReader uid _
    rw [h, hr]

/-- Glyph memory's part of a switch to a generation without a glyph record (R125). -/
theorem glyphSwitch_noGlyphs {before : Option Nat} {s : State} (h : s.catalog.glyphKey = 0) :
    glyphSwitch before s = (abandonGlyphLoad s).setGlyphMemory none := by
  simp [glyphSwitch, h]

/-- Its part of a switch to a generation with one (R125, log entry 23). -/
theorem glyphSwitch_glyphs {before : Option Nat} {s : State} {a : Asset} (h : s.catalog.glyphKey ≠ 0)
    (ha : s.catalog.liveRecord s.catalog.glyphKey = some a) :
    glyphSwitch before s = if (s.catalog.glyphLoad.map (·.record)) = some a.uid then s
      else if before ≠ some a.uid ∨ s.catalog.glyphs = none then startGlyphLoad a (abandonGlyphLoad s) else s := by
  simp only [glyphSwitch, if_neg h, ha]

/-- The three things that glyph memory's part of a switch can come to (R125). -/
theorem glyphSwitch_cases (before : Option Nat) (s : State) : glyphSwitch before s = s ∨
    glyphSwitch before s = (abandonGlyphLoad s).setGlyphMemory none ∨
    ∃ a, glyphSwitch before s = startGlyphLoad a (abandonGlyphLoad s) := by
  unfold glyphSwitch
  dsimp only
  split
  · exact .inr (.inl rfl)
  · rename_i a _
    split
    · exact .inl rfl
    · split
      · exact .inr (.inr ⟨a, rfl⟩)
      · exact .inl rfl

theorem glyphSwitch_work (before : Option Nat) (s : State) : GlyphWork s (glyphSwitch before s) := by
  rcases glyphSwitch_cases before s with h | h | ⟨a, h⟩
  · rw [h]; exact GlyphWork.refl s
  · rw [h]
    obtain ⟨pool, retiring, glyphs, load, units, port, arbiter, heldBack, hw⟩ := abandonGlyphLoad_work s
    exact ⟨pool, retiring, none, load, units, port, arbiter, heldBack, by rw [hw]; rfl⟩
  · rw [h]; exact (abandonGlyphLoad_work s).trans (startGlyphLoad_work a _)

/-- Without a glyph load, glyph memory's part settles and releases nothing (R125). -/
theorem glyphSwitch_of_no_load {before : Option Nat} {s : State} (hl : s.catalog.glyphLoad = none) :
    (glyphSwitch before s).catalog.retiring = s.catalog.retiring ∧ (glyphSwitch before s).store.units = s.store.units := by
  rcases glyphSwitch_cases before s with h | h | ⟨a, h⟩
  · rw [h]; exact ⟨rfl, rfl⟩
  · rw [h, abandonGlyphLoad_none hl]; exact ⟨rfl, rfl⟩
  · rw [h, abandonGlyphLoad_none hl]
    exact ⟨by rw [startGlyphLoad_eq]; rfl, startGlyphLoad_units a s⟩

/-! ### The live records across readers and removals (R106, R107) -/

/-- A record apart from its count of readers. -/
abbrev Asset.sameButReaders (a b : Asset) : Prop := b = { a with readers := b.readers }

/-- From one catalog to another no record is new and no live record is lost, counts of readers apart. -/
structure Catalog.KeepsLive (c d : Catalog) : Prop where
  nodup : (d.pool.map (·.uid)).Nodup
  old : ∀ b ∈ d.pool, ∃ a ∈ c.pool, a.sameButReaders b
  live : ∀ a ∈ c.pool, a.inLive = true → ∃ b ∈ d.pool, a.sameButReaders b

theorem Catalog.KeepsLive.refl {c : Catalog} (hn : (c.pool.map (·.uid)).Nodup) : c.KeepsLive c :=
  ⟨hn, fun b hb => ⟨b, hb, rfl⟩, fun a ha _ => ⟨a, ha, rfl⟩⟩

theorem Catalog.KeepsLive.trans {c d e : Catalog} (h : c.KeepsLive d) (h' : d.KeepsLive e) : c.KeepsLive e := by
  refine ⟨h'.nodup, fun b hb => ?_, fun a ha hl => ?_⟩
  · obtain ⟨m, hm, hmb⟩ := h'.old b hb
    obtain ⟨a, ha, ham⟩ := h.old m hm
    exact ⟨a, ha, by rw [Asset.sameButReaders, hmb, ham]⟩
  · obtain ⟨m, hm, ham⟩ := h.live a ha hl
    obtain ⟨b, hb, hmb⟩ := h'.live m hm (by rw [ham]; exact hl)
    exact ⟨b, hb, by rw [Asset.sameButReaders, hmb, ham]⟩

/-- A change of glyph memory, its load or the retiring list leaves the records. -/
theorem Catalog.KeepsLive.of_pool {c d e : Catalog} (h : c.KeepsLive d) (hp : e.pool = d.pool) : c.KeepsLive e :=
  ⟨by rw [hp]; exact h.nodup, by rw [hp]; exact h.old, by rw [hp]; exact h.live⟩

theorem Catalog.keepsLive_readers {c : Catalog} (hn : (c.pool.map (·.uid)).Nodup) (uid : Nat) (f : Asset → Asset)
    (hf : ∀ a : Asset, a.sameButReaders (f a)) : c.KeepsLive (c.modify uid f) := by
  have hstep : ∀ a : Asset, a.sameButReaders (if a.uid = uid then f a else a) := fun a => by
    split
    · exact hf a
    · rfl
  refine ⟨?_, fun b hb => ?_, fun a ha _ => ⟨_, List.mem_map_of_mem ha, hstep a⟩⟩
  · have huid : ((c.modify uid f).pool.map (·.uid)) = c.pool.map (·.uid) := by
      rw [Catalog.modify, List.map_map]
      exact List.map_congr_left fun a _ => by
        change (if a.uid = uid then f a else a).uid = a.uid
        rw [hstep a]
    rw [huid]
    exact hn
  · obtain ⟨a, ha, rfl⟩ := List.mem_map.1 hb
    exact ⟨a, ha, hstep a⟩

theorem keepsLive_settleRecord (uid : Nat) {s : State} (hn : (s.catalog.pool.map (·.uid)).Nodup) :
    s.catalog.KeepsLive (settleRecord uid s).catalog := by
  have hpool := settleRecord_pool uid s hn
  refine ⟨by rw [hpool]; exact nodup_filter_uid hn _, fun b hb => ⟨b, ?_, rfl⟩, fun a ha hl => ⟨a, ?_, rfl⟩⟩
  · rw [hpool] at hb
    exact List.mem_of_mem_filter hb
  · rw [hpool]
    exact List.mem_filter.2 ⟨ha, by simp [Asset.kept, hl]⟩

theorem keepsLive_releaseReader (uid : Nat) {s : State} (hn : (s.catalog.pool.map (·.uid)).Nodup) :
    s.catalog.KeepsLive (releaseReader uid s).catalog := by
  have hmod := Catalog.keepsLive_readers hn uid (fun a => { a with readers := a.readers - 1 }) fun _ => rfl
  exact hmod.trans (keepsLive_settleRecord uid (s := s.setCatalog _) hmod.nodup)

theorem keepsLive_abandonGlyphLoad {s : State} (hn : (s.catalog.pool.map (·.uid)).Nodup) :
    s.catalog.KeepsLive (abandonGlyphLoad s).catalog := by
  obtain ⟨s', ⟨port, arbiter, heldBack, hs'⟩, h⟩ := abandonGlyphLoad_cases s
  have hk : s.catalog.KeepsLive s'.catalog := (Catalog.KeepsLive.refl hn).of_pool (by rw [hs'])
  rcases h with h | ⟨uid, h⟩
  · rw [h]; exact hk
  · rw [h]; exact hk.trans (keepsLive_releaseReader uid hk.nodup)

theorem keepsLive_startGlyphLoad (a : Asset) {s : State} (hn : (s.catalog.pool.map (·.uid)).Nodup) :
    s.catalog.KeepsLive (startGlyphLoad a s).catalog :=
  (Catalog.keepsLive_readers hn a.uid (fun a => { a with readers := a.readers + 1 }) fun _ => rfl).of_pool
    (by rw [startGlyphLoad_eq])

theorem keepsLive_glyphSwitch (before : Option Nat) {s : State} (hn : (s.catalog.pool.map (·.uid)).Nodup) :
    s.catalog.KeepsLive (glyphSwitch before s).catalog := by
  have habandon := keepsLive_abandonGlyphLoad hn
  rcases glyphSwitch_cases before s with h | h | ⟨a, h⟩
  · rw [h]; exact Catalog.KeepsLive.refl hn
  · rw [h]; exact habandon.of_pool rfl
  · rw [h]; exact habandon.trans (keepsLive_startGlyphLoad a habandon.nodup)

theorem Catalog.inLive_iff (c : Catalog) (i : Ident) : c.inLive i = true ↔
    ∃ a ∈ c.pool, a.inLive = true ∧ a.kind = .still ∧ a.key = i.key ∧ a.check = i.check := by
  simp [Catalog.inLive, Catalog.liveStill, List.find?_isSome, and_assoc]

/-- The live identities stay (R43). -/
theorem Catalog.KeepsLive.inLive {c d : Catalog} (h : c.KeepsLive d) (i : Ident) : d.inLive i = c.inLive i := by
  rw [Bool.eq_iff_iff, Catalog.inLive_iff, Catalog.inLive_iff]
  constructor
  · rintro ⟨b, hb, hp⟩
    obtain ⟨a, ha, hab⟩ := h.old b hb
    rw [hab] at hp
    exact ⟨a, ha, hp⟩
  · rintro ⟨a, ha, hp⟩
    obtain ⟨b, hb, hab⟩ := h.live a ha hp.1
    exact ⟨b, hb, by rw [hab]; exact hp⟩

/-! ### The switch in its steps (R124) -/

/-- The state with the stage moved to the live generation, before its records are settled. -/
def State.movedTo (s : State) (p : Publish) (g : Staged) : State :=
  s.setCatalog { s.catalog with
    number := p.number, glyphKey := g.glyphKey, titles := g.titles, staged := none, publish := none
    pool := s.catalog.pool.map Asset.switched, liveImage := p.units }

/-- With its records settled and the previous image's units released. -/
def State.settledTo (s : State) (p : Publish) (g : Staged) : State :=
  let u := settleRecords (s.catalog.pool.map (·.uid)) (s.movedTo p g)
  u.setStore (u.store.releaseHolders s.catalog.liveImage)

/-- The announcement changes the Still Cache and the re-resolve marks (R22, R58, R124). -/
theorem announceSwitch_eq (s : State) : ∃ cache, cache = s.cache.onSwitch s.catalog ∧
    announceSwitch s = plansOnSwitch (s.setCache cache) := ⟨_, rfl, rfl⟩

theorem announceSwitch_catalog (s : State) : (announceSwitch s).catalog = s.catalog := by
  obtain ⟨cache, -, h⟩ := announceSwitch_eq s
  rw [h]
  rfl

/-- With the Plan Unit and the Still Cache told, and glyph memory's part done: all of the switch but its answer. -/
def State.switchedTo (s : State) (p : Publish) (g : Staged) : State :=
  glyphSwitch s.catalog.glyphRecord (announceSwitch (s.settledTo p g))

theorem publishSwitch_eq {s : State} {p : Publish} {g : Staged} (hp : s.catalog.publish = some p)
    (hg : s.catalog.staged = some g) :
    publishSwitch s = reply 0x21 p.tag .ok (beBytes 4 p.number ++ beBytes 2 g.titles.length ++
      beBytes 2 ((s.switchedTo p g).catalog.pool.countP (·.inLive))) (s.switchedTo p g) := by
  rw [publishSwitch, hp, hg]
  rfl

@[simp] theorem Asset.switched_uid (a : Asset) : a.switched.uid = a.uid := rfl
@[simp] theorem Asset.switched_inStaged (a : Asset) : a.switched.inStaged = false := rfl
@[simp] theorem Asset.switched_readers (a : Asset) : a.switched.readers = a.readers := rfl
@[simp] theorem Asset.switched_extents (a : Asset) : a.switched.extents = a.extents := rfl

theorem Asset.switched_inLive (a : Asset) : a.switched.inLive = true ↔ a.inStaged = true ∧ a.state = .complete := by
  simp [Asset.switched]

theorem Asset.switched_not_inLive (a : Asset) : a.switched.inLive = false ↔ a.inStaged = false ∨ a.state ≠ .complete := by
  rw [← Bool.not_eq_true, Asset.switched_inLive, not_and_or, Bool.not_eq_true]

theorem Asset.switched_kept (a : Asset) : a.switched.kept = false ↔ (a.inStaged = false ∨ a.state ≠ .complete) ∧ a.readers = 0 := by
  rw [← Asset.switched_not_inLive]
  simp [Asset.kept, Nat.pos_iff_ne_zero]

theorem map_switched_uid (pool : List Asset) : (pool.map Asset.switched).map (·.uid) = pool.map (·.uid) := by
  rw [List.map_map]
  rfl

section
variable (s : State) (p : Publish) (g : Staged)

theorem State.settledTo_frame : Settling (s.movedTo p g) (s.settledTo p g) :=
  (settling_settleRecords _ _).trans (settling_releaseHolders _ _)

variable (hn : (s.catalog.pool.map (·.uid)).Nodup)
include hn

/-- The pool of the new generation: the moved records, without those in no generation and without readers (R106, R124). -/
theorem State.settledTo_pool : (s.settledTo p g).catalog.pool = (s.catalog.pool.map Asset.switched).filter Asset.kept := by
  have h := settleAll_pool (s.movedTo p g) (by rw [← map_switched_uid] at hn; exact hn)
  have huid : (s.movedTo p g).catalog.pool.map (·.uid) = s.catalog.pool.map (·.uid) := map_switched_uid _
  rw [huid] at h
  exact h

/-- Records that lose their last generation and have readers join the retiring list in pool order (R106, log entry 30). -/
theorem State.settledTo_retiring (hret : ∀ n ∈ s.catalog.retiring, ∃ a ∈ s.catalog.pool, a.uid = n ∧ 0 < a.readers) :
    (s.settledTo p g).catalog.retiring = s.catalog.retiring ++ (s.catalog.pool.filter fun a =>
      (a.inStaged = false ∨ a.state ≠ .complete) ∧ 0 < a.readers ∧ a.uid ∉ s.catalog.retiring).map (·.uid) := by
  have huid := map_switched_uid s.catalog.pool
  have h := settleRecords_retiring (s.catalog.pool.map Asset.switched) (s.movedTo p g)
    (by rw [← huid] at hn; exact hn) (by rw [huid]; exact hn) (fun a ha => ha) fun n hin => by
      obtain ⟨a, ha, hu, hr⟩ := hret n hin
      exact ⟨a.switched, List.mem_map_of_mem ha, hu, hr⟩
  rw [huid, List.filter_map, List.map_map] at h
  refine h.trans (congrArg (s.catalog.retiring ++ ·) (congrArg (List.map Asset.uid) (List.filter_congr fun a _ => ?_)))
  simp [Asset.switched_not_inLive, State.movedTo, State.setCatalog]

/-- Each unit loses a holder for the previous image and one for each record removed (R106, R124, R132). -/
theorem State.settledTo_units (hi : s.store.inProgress .intake = false) (k : Nat) :
    (s.settledTo p g).store.units[k]? = (s.store.units[k]?).map (UnitRec.release^[s.catalog.liveImage.count k +
      s.catalog.pool.countP fun a => (a.inStaged = false ∨ a.state ≠ .complete) ∧ a.readers = 0 ∧
        k ∈ unitsOfRuns s.store.pagesPerUnit a.extents]) := by
  have huid := map_switched_uid s.catalog.pool
  have h := settleRecords_units (s.catalog.pool.map Asset.switched) (s.movedTo p g)
    (by rw [← huid] at hn; exact hn) (by rw [huid]; exact hn) (fun a ha => ha) hi k
  rw [huid, List.countP_map] at h
  have hcount : s.catalog.pool.countP ((fun a : Asset => !a.kept && decide (k ∈ unitsOfRuns s.store.pagesPerUnit a.extents)) ∘
      Asset.switched) = s.catalog.pool.countP fun a => (a.inStaged = false ∨ a.state ≠ .complete) ∧ a.readers = 0 ∧
        k ∈ unitsOfRuns s.store.pagesPerUnit a.extents :=
    List.countP_congr fun a _ => by
      rw [Function.comp_apply, Bool.and_eq_true, Bool.not_eq_true', Asset.switched_kept, decide_eq_true_iff, decide_eq_true_iff,
        Asset.switched_extents, and_assoc]
  rw [State.settledTo]
  refine (Store.releaseHolders_units _ _ k).trans ?_
  rw [h, Option.map_map, ← Function.iterate_add]
  exact congrArg (fun n => (s.store.units[k]?).map (UnitRec.release^[s.catalog.liveImage.count k + n])) hcount

theorem State.settledTo_nodup : ((s.settledTo p g).catalog.pool.map (·.uid)).Nodup := by
  rw [State.settledTo_pool s p g hn]
  exact nodup_filter_uid (by rw [map_switched_uid]; exact hn) _

theorem State.switchedTo_keepsLive : (s.settledTo p g).catalog.KeepsLive (s.switchedTo p g).catalog := by
  have h := keepsLive_glyphSwitch s.catalog.glyphRecord (s := announceSwitch (s.settledTo p g))
  rw [announceSwitch_catalog] at h
  exact h (State.settledTo_nodup s p g hn)

/-- The record of a key in the new generation is the COMPLETE staged one (R124). -/
theorem State.settledTo_liveRecord {key : Nat} {a : Asset}
    (h : s.catalog.pool.find? (fun a => a.inStaged && a.state == .complete && a.key == key) = some a) :
    (s.settledTo p g).catalog.liveRecord key = some a.switched := by
  rw [Catalog.liveRecord, State.settledTo_pool s p g hn, List.find?_filter, List.find?_map]
  have hkept : ∀ b : Asset, decide (b.kept = true ∧ (b.inLive && b.key == key) = true) = (b.inLive && b.key == key) := fun b => by
    rw [Bool.eq_iff_iff]
    cases hl : b.inLive <;> simp [Asset.kept, hl]
  have hsame : ((fun b : Asset => decide (b.kept = true ∧ (b.inLive && b.key == key) = true)) ∘ Asset.switched) =
      fun a : Asset => a.inStaged && a.state == .complete && a.key == key := funext fun a => hkept a.switched
  rw [hsame, h]
  rfl

end

end Sys2Proof.Machine
end

section
/-!
O39: the page program that brings the switch (R124, R134) or leads to it (R123, R140), and the switch seen from outside.
-/

namespace Sys2Proof.Machine

open Sys2Proof

/-! ### The end of a page program -/

theorem mountIfWaiting_of_none {s : State} (h : s.store.mount = .none) : mountIfWaiting s = s := by
  rw [mountIfWaiting, if_neg]
  rw [h]
  exact fun h' => by cases h'.1

/-- The port becomes free; with no reader to release, its waiting releases are made and its followers join the arbiter (R148). -/
theorem portEnd_of_no_reader {s : State} {o : PortOp} (ho : s.store.port = some o) (hr : o.releaseReader = none) :
    portEnd s = s.setStore ({ s.store with
      port := none
      arbiter := s.store.arbiter ++ s.store.heldBack.filter fun w : WaitingOp => clientOf w.purpose == clientOf o.purpose
      heldBack := s.store.heldBack.filter fun w => !(clientOf w.purpose == clientOf o.purpose)
      }.releaseHolders o.releaseUnits) := by
  simp only [portEnd, ho, hr]

section
variable {s : State} {o : PortOp} {data : List Byte} (hl : s.power.resetLow = false) (ho : s.store.port = some o)
  (hop : o.op = .pageProgram data)
include hl ho hop

theorem exec_pageProgramDone_image (hpurpose : o.purpose = .imagePage) : exec (.pageProgramDone .pass) s =
    .next ((eraserStep (mountIfWaiting (imageProgramEnd true o (portEnd s)))).seenSince s) := by
  have hstep : pageProgramDoneStep .pass s = eraserStep (mountIfWaiting (imageProgramEnd true o (portEnd s))) := by
    simp only [pageProgramDoneStep, ho, hop, hpurpose]
    rfl
  rw [← hstep]
  exact live_of_live hl

theorem exec_pageProgramDone_root (hpurpose : o.purpose = .rootPage) : exec (.pageProgramDone .pass) s =
    .next ((eraserStep (mountIfWaiting (rootProgramEnd true o (portEnd s)))).seenSince s) := by
  have hstep : pageProgramDoneStep .pass s = eraserStep (mountIfWaiting (rootProgramEnd true o (portEnd s))) := by
    simp only [pageProgramDoneStep, ho, hop, hpurpose]
    rfl
  rw [← hstep]
  exact live_of_live hl

end

/-! ### A verified image page (R123, R140) -/

/-- The publish record after a verified page of the image: a page more is done, and the failed units have left the image. -/
def Publish.pageDone (p : Publish) (bad : List Nat) : Publish :=
  { p with units := p.units.filter (· ∉ bad), pagesDone := p.pagesDone + 1 }

/-- The store after it: the failed units have lost the image as a holder (R140). -/
def Store.withoutFailed (st : Store) (p : Publish) : Store := st.releaseHolders (p.units.filter (· ∈ st.unitsIn .bad))

/-- The image writer's program passed; a relocation that still ran has moved its last page with it (R139, R140). -/
theorem imageProgramEnd_passes {s : State} {o : PortOp} {p : Publish} (ho : o.orphan = false)
    (hp : s.catalog.publish = some p) (hr : ∀ r, p.writer.reloc = some r → r.src.length ≤ r.moved.length) :
    imageProgramEnd true o s =
      imagePageDone (s.setCatalog { s.catalog with publish := some { p with nextPage := p.nextPage + 1 } }) := by
  have hadvance : advanceStream true s =
      s.setCatalog { s.catalog with publish := some { p with nextPage := p.nextPage + 1 } } := by
    simp [advanceStream, hp]
  rw [imageProgramEnd, ho, if_neg (by decide), if_pos rfl, hadvance, streamPass]
  dsimp only [State.writer, State.setCatalog, Option.map_some, Option.getD_some]
  rw [if_pos rfl]
  cases hw : p.writer.reloc with
  | none => rfl
  | some r =>
    have hdone : ¬ r.moved.length < r.src.length := by have := hr r hw; omega
    simp only [if_neg hdone, if_true]

/-- Before the image's last page the next one is asked for (R123). -/
theorem imagePageDone_asks {s : State} {p : Publish} (hp : s.catalog.publish = some p)
    (hlast : p.pagesDone + 1 ≠ pagesFor p.image.length) :
    imagePageDone s = (s.setCatalog { s.catalog with
      publish := some { p.pageDone (s.store.unitsIn .bad) with writer := { outstanding := true }, atRoot := false } }).setStore
        ((s.store.withoutFailed p).place .imagePage .write (.pageProgram (p.pageDone (s.store.unitsIn .bad)).page)) := by
  have hroot : (p.pagesDone + 1 == pagesFor p.image.length) = false := by simpa using hlast
  simp only [imagePageDone, dropFailedUnits, hp, State.setPublish, State.setCatalog, State.setStore, if_neg hlast, imageAsk, hroot]
  rfl

/-- At its last page the root write is asked for, with the image's units, length and check (R123). -/
theorem imagePageDone_last {s : State} {p : Publish} (hp : s.catalog.publish = some p)
    (hlast : p.pagesDone + 1 = pagesFor p.image.length) :
    imagePageDone s = (s.setCatalog { s.catalog with
      publish := some { p.pageDone (s.store.unitsIn .bad) with writer := {}, atRoot := true } }).setStore
        { s.store.withoutFailed p with rootQueue := s.store.rootQueue ++
            [{ client := .publish, image := some ⟨(p.pageDone (s.store.unitsIn .bad)).units, p.image.length, p.check⟩ }] } := by
  obtain ⟨units, hunits, -⟩ := Store.releaseHolders_frame (p.units.filter (· ∈ s.store.unitsIn .bad)) s.store
  simp only [imagePageDone, dropFailedUnits, hp, State.setPublish, State.setCatalog, State.setStore, hlast, if_true, beq_self_eq_true,
    Store.withoutFailed, hunits, Publish.pageDone]

/-- A page of the image done, with the port free: the publish record and the store after it (R123, R140). -/
theorem imagePageDone_spec {s : State} {p : Publish} (hp : s.catalog.publish = some p) (hport : s.store.port = none) :
    ∃ P X, imagePageDone s = (s.setCatalog { s.catalog with publish := some P }).setStore X ∧ X.port = none ∧
      X.mount = s.store.mount ∧ X.units = (s.store.withoutFailed p).units ∧
      (p.pagesDone + 1 ≠ pagesFor p.image.length →
        P = { p.pageDone (s.store.unitsIn .bad) with writer := { outstanding := true }, atRoot := false } ∧
        X.arbiter = s.store.arbiter ++ [{ purpose := .imagePage, cls := .write, passed := 0
                                          op := .pageProgram (p.pageDone (s.store.unitsIn .bad)).page }]) ∧
      (p.pagesDone + 1 = pagesFor p.image.length →
        P = { p.pageDone (s.store.unitsIn .bad) with writer := {}, atRoot := true } ∧
        X.rootQueue = s.store.rootQueue ++
          [{ client := .publish, image := some ⟨(p.pageDone (s.store.unitsIn .bad)).units, p.image.length, p.check⟩ }]) := by
  obtain ⟨units, hunits, -⟩ := Store.releaseHolders_frame (p.units.filter (· ∈ s.store.unitsIn .bad)) s.store
  by_cases hlast : p.pagesDone + 1 = pagesFor p.image.length
  · refine ⟨_, _, imagePageDone_last hp hlast, ?_, ?_, rfl, fun h => absurd hlast h, fun _ => ⟨rfl, rfl⟩⟩
    · rw [Store.withoutFailed, hunits]
      exact hport
    · rw [Store.withoutFailed, hunits]
  · have hplace : ∀ op, (s.store.withoutFailed p).place .imagePage .write op =
        { s.store with units := units, arbiter := s.store.arbiter ++ [⟨.imagePage, .write, op, 0⟩] } := fun op => by
      simp [Store.withoutFailed, hunits, Store.place, Store.leftRunning, hport]
    refine ⟨_, _, imagePageDone_asks hp hlast, ?_, ?_, ?_, fun _ => ⟨rfl, ?_⟩, fun h => absurd h hlast⟩
    · rw [hplace]
      exact hport
    · rw [hplace]
    · rw [hplace, Store.withoutFailed, hunits]
    · rw [hplace]

/-- A failed unit of the image loses one holder (R140). -/
theorem Store.withoutFailed_units {st : Store} {p : Publish} {u : Nat} {e : UnitRec} (hn : p.units.Nodup) (hu : u ∈ p.units)
    (he : st.units[u]? = some e) (hbad : e.state = .bad) :
    (st.withoutFailed p).units[u]? = some { e with holders := e.holders - 1 } := by
  have hmem : u ∈ st.unitsIn .bad := (st.mem_unitsIn .bad u).2 (by rw [he, Option.map_some, hbad])
  have hcount : (p.units.filter (· ∈ st.unitsIn .bad)).count u = 1 :=
    List.count_eq_one_of_mem (hn.filter _) (List.mem_filter.2 ⟨hu, by simpa using hmem⟩)
  rw [Store.withoutFailed, Store.releaseHolders_units, hcount, he, Option.map_some, Function.iterate_one,
    UnitRec.release_of_not_sealed (by rw [hbad]; decide)]

/-! ### A verified root record (R134) -/

/-- From the state in which the event finds the machine to that in which the switch begins: the store alone has changed, and, where
the port's operation is not the intake's and no release waits for its end, no unit. -/
structure BeforeSwitch (s s' : State) : Prop where
  parts : s' = { s with store := s'.store }
  pages : s'.store.pagesPerUnit = s.store.pagesPerUnit
  units : (∀ q, s.store.port = some q → clientOf q.purpose ≠ .intake ∧ q.releaseUnits = []) →
    s'.store.units = s.store.units ∧ s'.store.inProgress .intake = false

theorem BeforeSwitch.refl (s : State) : BeforeSwitch s s := by
  refine ⟨rfl, rfl, fun h => ⟨rfl, ?_⟩⟩
  unfold Store.inProgress
  split
  · rename_i q hq
    simp [(h q hq).1]
  · rfl

/-- A publish's verified root record brings the switch, with the port free, the record noted and the root log moved on. -/
theorem rootProgramEnd_publishes {s : State} {o : PortOp} {w : RootWrite} {pos : PagePos} (ho : s.store.port = some o)
    (hr : o.releaseReader = none) (horphan : o.orphan = false) (hw : s.store.rootWrite = some w)
    (hclient : w.job.client = .publish) (hpos : s.store.rootPos = some pos) :
    ∃ s', BeforeSwitch s s' ∧ rootProgramEnd true o (portEnd s) = publishSwitch s' ∧ s'.store.mount = s.store.mount ∧
      s'.store.highestSeq = w.record.sequence ∧ s'.store.imagePart = w.record.image ∧ s'.store.rootWrite = none ∧
      s'.store.rootPos = some ⟨pos.unit, pos.page + 1⟩ ∧ s'.store.newestRoot = some o.page := by
  rw [portEnd_of_no_reader ho hr]
  generalize s.store.arbiter ++ _ = arbiter
  generalize List.filter _ s.store.heldBack = heldBack
  obtain ⟨units, hunits, -⟩ := Store.releaseHolders_frame o.releaseUnits
    { s.store with port := none, arbiter := arbiter, heldBack := heldBack }
  refine ⟨{ s with store := { s.store with
      port := none, units := units, arbiter := arbiter, heldBack := heldBack, rootPos := some ⟨pos.unit, pos.page + 1⟩
      highestSeq := w.record.sequence, imagePart := w.record.image, newestRoot := some o.page, rootWrite := none } },
    ⟨rfl, rfl, fun h => ⟨?_, rfl⟩⟩, ?_, rfl, rfl, rfl, rfl, rfl, rfl⟩
  · rw [(h o ho).2] at hunits
    exact (congrArg Store.units hunits).symm
  · rw [hunits]
    simp only [rootProgramEnd, State.setStore, hw, horphan, rootVerified, rootAdvance, hclient, Store.rootPosition, hpos,
      Bool.false_eq_true, if_false, if_true, Option.getD_some]

/-! ### The switch seen from outside (R58, R124, R125) -/

section
variable (s : State) (p : Publish) (g : Staged)

/-- What the switch may change, and what it makes of the live generation, the plans and the Still Cache (R22, R58, R124). -/
theorem State.switchedTo_frame : ∃ pool retiring glyphs load units port arbiter heldBack cache,
    cache = s.cache.onSwitch (s.settledTo p g).catalog ∧ s.switchedTo p g = { plansOnSwitch s with
      catalog := { s.catalog with
        number := p.number, glyphKey := g.glyphKey, titles := g.titles, staged := none, publish := none, liveImage := p.units
        pool := pool, retiring := retiring, glyphs := glyphs, glyphLoad := load }
      store := { s.store with units := units, port := port, arbiter := arbiter, heldBack := heldBack }
      cache := cache } := by
  obtain ⟨_, _, _, _, hsettled⟩ := s.settledTo_frame p g
  obtain ⟨cache, hcache, hannounce⟩ := announceSwitch_eq (s.settledTo p g)
  obtain ⟨pool, retiring, glyphs, load, units, port, arbiter, heldBack, hwork⟩ :=
    glyphSwitch_work s.catalog.glyphRecord (announceSwitch (s.settledTo p g))
  refine ⟨pool, retiring, glyphs, load, units, port, arbiter, heldBack, cache, ?_, ?_⟩
  · rw [hcache]
    exact congrArg (StillCache.onSwitch _) (by rw [hsettled]; rfl)
  · rw [State.switchedTo, hwork, hannounce, hsettled]
    rfl

/-- Settling leaves glyph memory and its load as they were. -/
theorem State.settledTo_glyphs : (s.settledTo p g).catalog.glyphKey = g.glyphKey ∧
    (s.settledTo p g).catalog.glyphs = s.catalog.glyphs ∧ (s.settledTo p g).catalog.glyphLoad = s.catalog.glyphLoad := by
  obtain ⟨_, _, _, _, h⟩ := s.settledTo_frame p g
  rw [h]
  exact ⟨rfl, rfl, rfl⟩

/-- A switch to a generation without a glyph record (R125). -/
theorem State.switchedTo_noGlyphs (hk : g.glyphKey = 0) :
    (s.switchedTo p g).catalog.glyphs = none ∧ (s.switchedTo p g).catalog.glyphLoad = none := by
  have hkey : (announceSwitch (s.settledTo p g)).catalog.glyphKey = 0 := by
    rw [announceSwitch_catalog, (s.settledTo_glyphs p g).1, hk]
  rw [State.switchedTo, glyphSwitch_noGlyphs hkey]
  exact ⟨rfl, abandonGlyphLoad_glyphLoad _⟩

/-- Without a glyph load, the switch leaves the retiring list and the units as settling did. -/
theorem State.switchedTo_of_no_load (hl : s.catalog.glyphLoad = none) :
    (s.switchedTo p g).catalog.retiring = (s.settledTo p g).catalog.retiring ∧
      (s.switchedTo p g).store.units = (s.settledTo p g).store.units := by
  have hload : (announceSwitch (s.settledTo p g)).catalog.glyphLoad = none := by
    rw [announceSwitch_catalog, (s.settledTo_glyphs p g).2.2, hl]
  obtain ⟨hret, hunits⟩ := glyphSwitch_of_no_load (before := s.catalog.glyphRecord) hload
  exact ⟨hret, hunits⟩

variable (hn : (s.catalog.pool.map (·.uid)).Nodup)
include hn

/-- A switch to a generation with a glyph record (R125, log entry 23). -/
theorem State.switchedTo_glyphs {a : Asset} (hk : g.glyphKey ≠ 0)
    (ha : s.catalog.pool.find? (fun a => a.inStaged && a.state == .complete && a.key == g.glyphKey) = some a) :
    s.switchedTo p g = if s.catalog.glyphLoad.map (·.record) = some a.uid then announceSwitch (s.settledTo p g)
      else if s.catalog.glyphRecord ≠ some a.uid ∨ s.catalog.glyphs = none then
        startGlyphLoad a.switched (abandonGlyphLoad (announceSwitch (s.settledTo p g)))
      else announceSwitch (s.settledTo p g) := by
  obtain ⟨hkey, hglyphs, hload⟩ := s.settledTo_glyphs p g
  rw [State.switchedTo, glyphSwitch_glyphs (by rw [announceSwitch_catalog, hkey]; exact hk)
    (by rw [announceSwitch_catalog, hkey]; exact s.settledTo_liveRecord p g hn ha), announceSwitch_catalog, hglyphs, hload,
    Asset.switched_uid]

/-- A live record of the new generation (R124). -/
theorem State.mem_switchedTo {b : Asset} (hb : b ∈ (s.switchedTo p g).catalog.pool) :
    ∃ a ∈ s.catalog.pool, a.switched.kept = true ∧ a.switched.sameButReaders b := by
  obtain ⟨m, hm, hmb⟩ := (s.switchedTo_keepsLive p g hn).old b hb
  rw [s.settledTo_pool p g hn] at hm
  obtain ⟨hm, hkept⟩ := List.mem_filter.1 hm
  obtain ⟨a, ha, rfl⟩ := List.mem_map.1 hm
  exact ⟨a, ha, hkept, hmb⟩

theorem State.switchedTo_live {a : Asset} (ha : a ∈ s.catalog.pool) (hs : a.inStaged = true) (hc : a.state = .complete) :
    ∃ b ∈ (s.switchedTo p g).catalog.pool, a.switched.sameButReaders b := by
  have hlive : a.switched.inLive = true := a.switched_inLive.2 ⟨hs, hc⟩
  refine (s.switchedTo_keepsLive p g hn).live a.switched ?_ hlive
  rw [s.settledTo_pool p g hn]
  exact List.mem_filter.2 ⟨List.mem_map_of_mem ha, by simp [Asset.kept, hlive]⟩

/-- A glyph load that a switch begins without one before it counts a reader more on its record (R107, R125). -/
theorem State.switchedTo_reader {a : Asset}
    (ha : s.catalog.pool.find? (fun a => a.inStaged && a.state == .complete && a.key == g.glyphKey) = some a) :
    ((startGlyphLoad a.switched (announceSwitch (s.settledTo p g))).catalog.record a.uid).map (·.readers) =
      some (a.readers + 1) := by
  have hlive := s.settledTo_liveRecord p g hn ha
  have hrec : (s.settledTo p g).catalog.record a.uid = some a.switched :=
    Catalog.record_of_mem (s.settledTo_nodup p g hn) (List.mem_of_find?_eq_some hlive)
  have hstart : (startGlyphLoad a.switched (announceSwitch (s.settledTo p g))).catalog.record a.uid =
      ((s.settledTo p g).catalog.modify a.uid fun a => { a with readers := a.readers + 1 }).record a.uid := by
    rw [startGlyphLoad_eq, announceSwitch_catalog]
    rfl
  rw [hstart, Catalog.record_modify (f := fun a => { a with readers := a.readers + 1 }) (hf := fun _ => rfl), hrec]
  rfl

end

/-- A glyph load that has begun (R125). -/
theorem startGlyphLoad_begins (a : Asset) (s : State) : (startGlyphLoad a s).catalog.glyphs = none ∧
    ∃ rest, (startGlyphLoad a s).catalog.glyphLoad = some ⟨a.uid, rest, []⟩ ∧
      ∀ (r : Run) (more : List Run), readRuns (takePages (pagesFor a.length) a.extents) = r :: more → rest = more ∧
        ∃ w ∈ (startGlyphLoad a s).store.arbiter ++ (startGlyphLoad a s).store.heldBack,
          w.purpose = .glyph ∧ w.cls = .prefetch ∧ w.op = .pageRead r := by
  refine ⟨by rw [startGlyphLoad_eq], _, by rw [startGlyphLoad_eq], fun r more h => ⟨by rw [h]; rfl, ?_⟩⟩
  exact ⟨_, startGlyphLoad_asks a s h, rfl, rfl, rfl⟩

theorem Catalog.glyphRecord_iff (c : Catalog) (uid : Nat) : c.glyphRecord = some uid ↔
    c.glyphKey ≠ 0 ∧ (c.pool.find? fun b => b.inLive && b.key == c.glyphKey).map (·.uid) = some uid := by
  unfold Catalog.glyphRecord Catalog.liveRecord
  by_cases h : c.glyphKey = 0 <;> simp [h]

/-- From the switch to the end of the event that brought it: the eraser has acted, and open passes have seen what changed. -/
structure AfterSwitch (w t : State) : Prop where
  parts : t = { w with store := t.store, comp := t.comp }
  waiting : ∀ x ∈ w.store.arbiter ++ w.store.heldBack, x ∈ t.store.arbiter ++ t.store.heldBack
  units : ∀ (k : Nat) (e : UnitRec), w.store.units[k]? = some e →
    t.store.units[k]? = some e ∨ e.state = .freeDirty ∧ t.store.units[k]? = some { e with state := .erasing }

theorem AfterSwitch.refl (w : State) : AfterSwitch w w := ⟨rfl, fun _ hx => hx, fun _ _ he => .inl he⟩

theorem afterSwitch_eraserStep (w s : State) : AfterSwitch w ((eraserStep w).seenSince s) := by
  refine ⟨?_, fun x hx => ?_, fun k e he => ?_⟩
  · rw [seenSince_frame]; rfl
  · obtain ⟨a, h, ha, hh⟩ := w.store.eraser_waiting
    have hx' : x ∈ w.store.eraser.arbiter ++ w.store.eraser.heldBack := by
      rw [ha, hh]
      simp only [List.mem_append] at hx ⊢
      tauto
    rw [seenSince_frame]
    exact hx'
  · rw [seenSince_frame]
    exact w.store.eraser_units he

/-- A state `t` after a switch that began in `s`, part by part. -/
structure SwitchSeen (s : State) (p : Publish) (g : Staged) (t : State) : Prop where
  catalog : t.catalog = (s.switchedTo p g).catalog
  cache : t.cache = s.cache.onSwitch (s.settledTo p g).catalog
  plans : t.plans = (plansOnSwitch s).plans
  lanes : t.lanes = s.lanes
  screens : t.screens = s.screens
  link : t.link = s.link.fillPlace (replyMsg 0x21 p.tag .ok (beBytes 4 p.number ++ beBytes 2 g.titles.length ++
    beBytes 2 (t.catalog.pool.countP (·.inLive))) .nothing)
  waiting : ∀ x ∈ (s.switchedTo p g).store.arbiter ++ (s.switchedTo p g).store.heldBack,
    x ∈ t.store.arbiter ++ t.store.heldBack
  units : ∀ (k : Nat) (e : UnitRec), (s.switchedTo p g).store.units[k]? = some e →
    t.store.units[k]? = some e ∨ e.state = .freeDirty ∧ t.store.units[k]? = some { e with state := .erasing }

theorem AfterSwitch.seen {s t : State} {p : Publish} {g : Staged} (hp : s.catalog.publish = some p)
    (hg : s.catalog.staged = some g) (h : AfterSwitch (publishSwitch s) t) : SwitchSeen s p g t := by
  obtain ⟨ht, hwaiting, hunits⟩ := h
  rw [publishSwitch_eq hp hg] at ht hwaiting hunits
  obtain ⟨pool, retiring, glyphs, load, units, port, arbiter, heldBack, cache, hcache, hframe⟩ := s.switchedTo_frame p g
  have hcatalog : t.catalog = (s.switchedTo p g).catalog := by rw [ht]; rfl
  refine ⟨hcatalog, ?_, ?_, ?_, ?_, ?_, hwaiting, hunits⟩
  · rw [← hcache, ht, reply_cache, hframe]
  · rw [ht, reply_plans, hframe]
  · rw [ht, reply_lanes, hframe]; rfl
  · rw [ht, reply_screens, hframe]; rfl
  · rw [hcatalog, ht, reply_eq, hframe]; rfl

section
variable {s t : State} {p : Publish} {g : Staged} (h : SwitchSeen s p g t) (hn : (s.catalog.pool.map (·.uid)).Nodup)
include h hn

theorem SwitchSeen.inLive (i : Ident) : t.catalog.inLive i = (s.settledTo p g).catalog.inLive i := by
  rw [h.catalog]
  exact (s.switchedTo_keepsLive p g hn).inLive i

/-- A slot that the switch freed, by the live identities after it (R58). -/
theorem SwitchSeen.freed_iff (k : Nat) : s.cache.freedOnSwitch (s.settledTo p g).catalog k ↔
    (s.cache.slot k).state = .resident ∧ s.cache.pinCount k = 0 ∧
      ∃ i, (s.cache.slot k).ident = some i ∧ t.catalog.inLive i = false := by
  simp only [StillCache.freedOnSwitch, Option.any_eq_true, Bool.not_eq_true', h.inLive hn]

omit hn in
/-- A glyph load that the switch has begun (R125). -/
theorem SwitchSeen.begins {a : Asset} {v : State} (hs : s.switchedTo p g = startGlyphLoad a.switched v) :
    t.catalog.glyphs = none ∧ ∃ rest, t.catalog.glyphLoad = some ⟨a.uid, rest, []⟩ ∧
      ∀ (r : Run) (more : List Run), readRuns (takePages (pagesFor a.length) a.extents) = r :: more → rest = more ∧
        ∃ w ∈ t.store.arbiter ++ t.store.heldBack, w.purpose = .glyph ∧ w.cls = .prefetch ∧ w.op = .pageRead r := by
  obtain ⟨hnone, rest, hload, hasks⟩ := startGlyphLoad_begins a.switched v
  have hwait := h.waiting
  rw [hs] at hwait
  refine ⟨by rw [h.catalog, hs]; exact hnone, rest, by rw [h.catalog, hs]; exact hload, fun r more hr => ?_⟩
  obtain ⟨hrest, w, hw, hfields⟩ := hasks r more hr
  exact ⟨hrest, w, hwait w hw, hfields⟩

omit hn in
/-- Glyph memory where the switch leaves it to what it held or loads (log entry 23). -/
theorem SwitchSeen.stays (hs : s.switchedTo p g = announceSwitch (s.settledTo p g)) :
    t.catalog.glyphs = s.catalog.glyphs ∧ t.catalog.glyphLoad = s.catalog.glyphLoad := by
  rw [h.catalog, hs, announceSwitch_catalog]
  exact (s.settledTo_glyphs p g).2

/-- Holders released by the switch, as the eraser leaves the unit (R132, R143). -/
theorem SwitchSeen.unit (hl : s.catalog.glyphLoad = none) (hi : s.store.inProgress .intake = false) {u : Nat} {e : UnitRec}
    (he : s.store.units[u]? = some e) : ∃ n e', n = s.catalog.liveImage.count u + s.catalog.pool.countP (fun a =>
        (a.inStaged = false ∨ a.state ≠ .complete) ∧ a.readers = 0 ∧ u ∈ unitsOfRuns s.store.pagesPerUnit a.extents) ∧
      t.store.units[u]? = some e' ∧ e'.holders = e.holders - n ∧
      (e.state = .sealed → 0 < n → e.holders ≤ n → e'.state = .freeDirty ∨ e'.state = .erasing) ∧
      (e.state ≠ .sealed ∨ n = 0 ∨ n < e.holders → e'.state = e.state ∨ e.state = .freeDirty ∧ e'.state = .erasing) := by
  have hrel := s.settledTo_units p g hn hi u
  rw [← (s.switchedTo_of_no_load p g hl).2, he, Option.map_some] at hrel
  generalize hcount : s.catalog.liveImage.count u + _ = n at hrel
  obtain ⟨hholders, hlast, hkeep⟩ := UnitRec.releases_spec n e
  rcases h.units u _ hrel with hsame | ⟨hdirty, herasing⟩
  · exact ⟨n, _, rfl, hsame, hholders, fun hs hpos hle => .inl (hlast hs hpos hle), fun hk => .inl (hkeep hk)⟩
  · exact ⟨n, _, rfl, herasing, hholders, fun _ _ _ => .inr rfl, fun hk => .inr ⟨(hkeep hk).symm.trans hdirty, rfl⟩⟩

end

/-- The store's part in a switch: units, the port's mark and the waiting operations (R124). -/
theorem publishSwitch_store {s : State} {p : Publish} {g : Staged} (hp : s.catalog.publish = some p)
    (hg : s.catalog.staged = some g) : ∃ units port arbiter heldBack,
      (publishSwitch s).store = { s.store with units := units, port := port, arbiter := arbiter, heldBack := heldBack } := by
  obtain ⟨_, _, _, _, units, port, arbiter, heldBack, _, -, h⟩ := s.switchedTo_frame p g
  exact ⟨units, port, arbiter, heldBack, by rw [publishSwitch_eq hp hg, reply_store, h]⟩

/-- Settles O39: the switch from the state in which its event finds the machine, the root record that brings it, and the image pages
that lead to it. -/
theorem switchMakesTheStageLive : Obligations.SwitchMakesTheStageLive := by
  unfold Obligations.SwitchMakesTheStageLive
  intro switched
  have hswitch : ∀ (s s' t : State) (p : Publish) (g : Staged), s.catalog.publish = some p → s.catalog.staged = some g →
      (s.catalog.pool.map (·.uid)).Nodup → BeforeSwitch s s' → AfterSwitch (publishSwitch s') t → switched s p g t := by
    intro s s' t p g hp hg hn ⟨hs', hpages, hidle⟩ hafter
    have hcat : s.catalog = s'.catalog := by rw [hs']
    have hcache : s.cache = s'.cache := by rw [hs']
    have hlanes : s.lanes = s'.lanes := by rw [hs']
    have hscreens : s.screens = s'.screens := by rw [hs']
    have hlink : s.link = s'.link := by rw [hs']
    dsimp -zeta only [switched]
    rw [hcat] at hp hg hn ⊢
    rw [hcache, hlanes, hscreens, hlink]
    have h := hafter.seen hp hg
    obtain ⟨pool, retiring, glyphs, load, units, port, arbiter, heldBack, cache, -, hframe⟩ := s'.switchedTo_frame p g
    obtain ⟨hslot, hreuse, hpins, hloads, hfailed, hqueue⟩ := s'.cache.onSwitch_spec (s'.settledTo p g).catalog
    simp only [← h.cache] at hslot hreuse hpins hloads hfailed hqueue
    refine ⟨by rw [h.catalog, hframe], by rw [h.catalog, hframe], by rw [h.catalog, hframe], by rw [h.catalog, hframe],
      by rw [h.catalog, hframe], by rw [h.catalog, hframe], fun a ha hs hc => ?_, fun b hb hl => ?_,
      fun a ha hno hr b hb hu => ?_, ⟨fun k hk => ⟨fun hother => ?_, fun i hres hi => ?_⟩, ?_, fun k => ?_, hpins, hloads⟩,
      fun hl hret => ?_, fun hl hport u e he => ?_, fun hk => ?_, fun a hk ha => ?_, hfailed, fun e he => ?_, fun i => ?_,
      h.lanes, h.screens, h.link⟩
    · obtain ⟨b, hb, hab⟩ := s'.switchedTo_live p g hn ha hs hc
      exact ⟨b, by rw [h.catalog]; exact hb, by rw [hab]; rfl, by rw [hab]; exact a.switched_inLive.2 ⟨hs, hc⟩, by rw [hab]; rfl⟩
    · rw [h.catalog] at hb
      obtain ⟨a, ha, -, hab⟩ := s'.mem_switchedTo p g hn hb
      rw [hab] at hl
      exact ⟨a, ha, by rw [hab]; rfl, a.switched_inLive.1 hl⟩
    · rw [h.catalog] at hb
      obtain ⟨c, hc, hkept, hcb⟩ := s'.mem_switchedTo p g hn hb
      have hcu : c.uid = a.uid := by rw [← hu, hcb]; rfl
      rw [List.inj_on_of_nodup_map hn hc ha hcu, a.switched_kept.2 ⟨hno, hr⟩] at hkept
      cases hkept
    · rw [hslot k hk]
      exact StillCache.alignedSlot_other hother
    · rw [hslot k hk, StillCache.alignedSlot_resident hres hi, h.inLive hn]
      exact ⟨fun hl => by rw [hl]; rfl, fun hl => ⟨fun hp => by simp [hl, hp], fun hp => by simp [hl, Nat.ne_of_gt hp]⟩⟩
    · rw [hreuse]
      exact List.filter_sublist
    · rw [hreuse, List.mem_filter, decide_eq_true_iff, h.freed_iff hn]
    · rw [h.catalog, (s'.switchedTo_of_no_load p g hl).1]
      exact s'.settledTo_retiring p g hn hret
    · obtain ⟨hsame, hi⟩ := hidle hport
      obtain ⟨n, e', hcount, hunit⟩ := h.unit hn hl hi (by rw [hsame]; exact he)
      rw [hpages] at hcount
      subst hcount
      exact ⟨e', hunit⟩
    · rw [h.catalog]
      exact s'.switchedTo_noGlyphs p g hk
    · intro same begins
      have hsame : same ↔ s'.catalog.glyphRecord = some a.uid := (s'.catalog.glyphRecord_iff a.uid).symm
      have hglyphs := s'.switchedTo_glyphs p g hn hk ha
      refine ⟨fun hl => ⟨fun hnew => ?_, fun hs hv => ?_⟩, fun x hx => ⟨fun hu => ?_, fun hu hv => ?_⟩⟩
      · rw [hsame] at hnew
        have hnoload : (announceSwitch (s'.settledTo p g)).catalog.glyphLoad = none := by
          rw [announceSwitch_catalog, (s'.settledTo_glyphs p g).2.2, hl]
        rw [hl, if_neg (by simp), if_pos hnew, abandonGlyphLoad_none hnoload] at hglyphs
        exact ⟨h.begins hglyphs, by rw [h.catalog, hglyphs]; exact s'.switchedTo_reader p g hn ha⟩
      · rw [hl, if_neg (by simp), if_neg (by simp [hsame.1 hs, hv])] at hglyphs
        rw [← hl]
        exact h.stays hglyphs
      · rw [if_pos (by rw [hx, Option.map_some, hu])] at hglyphs
        rw [← hx]
        exact h.stays hglyphs
      · rw [if_neg (by simpa [hx] using hu), if_pos (.inr hv)] at hglyphs
        exact h.begins hglyphs
    · rw [hqueue] at he
      obtain ⟨hin, hlive⟩ := List.mem_filter.1 he
      exact ⟨hin, by rw [h.inLive hn]; exact hlive⟩
    · rw [State.plan, h.plans]
      match i with
      | 0 => rfl
      | 1 => rfl
  refine ⟨fun s p g hp hg hn => hswitch s s (publishSwitch s) p g hp hg hn (.refl s) (.refl _), ?_⟩
  intro s o data p hl ho hop horphan hreader hmount hp
  refine ⟨fun g w pos hpurpose hg hn hw hclient hpos => ?_, fun hpurpose hreloc hheld hrel => ?_⟩
  · obtain ⟨s', hbefore, hroot, hmount', hseq, himage, hwrite, hposition, hnewest⟩ :=
      rootProgramEnd_publishes ho hreader horphan hw hclient hpos
    have hcat : s'.catalog = s.catalog := by rw [hbefore.parts]
    obtain ⟨units, port, arbiter, heldBack, hstore⟩ := publishSwitch_store (hcat ▸ hp) (hcat ▸ hg)
    obtain ⟨_, _, _, _, heraser, -⟩ := (publishSwitch s').store.eraser_frame
    rw [exec_pageProgramDone_root hl ho hop hpurpose, hroot,
      mountIfWaiting_of_none (by rw [hstore]; exact hmount'.trans hmount)]
    refine ⟨_, rfl, hswitch s s' _ p g hp hg hn hbefore (afterSwitch_eraserStep _ s), ?_⟩
    rw [seenSince_frame]
    simp only [eraserStep, State.setStore]
    rw [heraser, hstore]
    exact ⟨hseq, himage, hwrite, hposition, hnewest⟩
  · intro units done
    have hend : portEnd s = s.setStore { s.store with port := none } := by
      rw [portEnd_of_no_reader ho hreader, hheld, hrel]
      simp [Store.releaseHolders, hheld]
    obtain ⟨P, X, hdone, hport, hmountX, hunitsX, hasks, hlast⟩ := imagePageDone_spec
      (s := (s.setStore { s.store with port := none }).setCatalog { s.catalog with
        publish := some { p with nextPage := p.nextPage + 1 } }) rfl rfl
    have hunits : p.units.filter (· ∉ s.store.unitsIn .bad) = units :=
      List.filter_congr fun u _ => by simp [Store.mem_unitsIn]
    obtain ⟨_, _, _, _, heraser, -⟩ := X.eraser_frame
    obtain ⟨more, _, hmore, -⟩ := X.eraser_waiting
    have himage := (imageProgramEnd_passes (s := s.setStore { s.store with port := none }) horphan hp hreloc).trans hdone
    rw [exec_pageProgramDone_image hl ho hop hpurpose, hend, himage, mountIfWaiting_of_none (hmountX.trans hmount)]
    refine ⟨_, rfl, ?_⟩
    rw [seenSince_frame]
    refine ⟨?_, rfl, rfl, rfl, rfl, rfl, rfl, fun hn u e hu he hbad => ?_, fun hmany => ⟨?_, more, ?_⟩, fun hend => ⟨?_, ?_⟩⟩
    · exact (congrArg Store.port heraser).trans hport
    · have hreleased := Store.withoutFailed_units (st := { s.store with port := none }) hn hu he hbad
      rcases X.eraser_units (by rw [hunitsX]; exact hreleased) with h | ⟨hdirty, -⟩
      · exact h
      · rw [hbad] at hdirty
        cases hdirty
    · exact congrArg some ((hasks hmany).1.trans (by simp only [Publish.pageDone, done, ← hunits]; rfl))
    · refine hmore.trans ?_
      rw [(hasks hmany).2, List.append_assoc]
      rfl
    · exact congrArg some ((hlast hend).1.trans (by simp only [Publish.pageDone, done, ← hunits]; rfl))
    · refine (congrArg Store.rootQueue heraser).trans ((hlast hend).2.trans ?_)
      rw [← hunits]
      rfl

end Sys2Proof.Machine
end

section
/-!
O50, the pixels: rects and clipping, scaling and blending, the fade plane and the colour matrix, and what each drawing operation makes
of a pixel (R28 to R30, R33, R34, R38 to R41).
-/

namespace Sys2Proof.Machine

open Sys2Proof

/-! ### Rects (R28) -/

theorem rectHas_iff (r : Rect) (x y : Int) :
    rectHas r x y = true ↔ r.x ≤ x ∧ x < r.x + r.w ∧ r.y ≤ y ∧ y < r.y + r.h := by
  simp only [rectHas, Bool.and_eq_true, decide_eq_true_iff, and_assoc]

/-- An intersection covers the pixels that both rects cover; where they do not meet, its size is 0. -/
theorem rectHas_rectMeet (a b : Rect) (x y : Int) :
    rectHas (rectMeet a b) x y = true ↔ rectHas a x y = true ∧ rectHas b x y = true := by
  simp only [rectHas_iff, rectMeet]
  omega

/-! ### Scaling (R29) -/

/-- The sampled column or row lies in the picture. -/
theorem sampleAt_lt {ws wd d : Nat} (hd : d < wd) (hs : 0 < ws) : sampleAt ws wd d < ws := by
  rw [sampleAt, Nat.div_lt_iff_lt_mul (by omega), Nat.mul_comm ws]
  exact Nat.mul_lt_mul_of_pos_right (by omega) hs

/-- A picture drawn at its own size is not scaled. -/
theorem sampleAt_same {wd d : Nat} (hd : d < wd) : sampleAt wd wd d = d := by
  rw [sampleAt, Nat.mul_div_mul_right _ _ (by omega)]
  omega

theorem pixelAt_of_getElem? {p : Picture} {x y : Nat} {c : Rgb} (h : p.pixels[y * p.width + x]? = some c) :
    pixelAt p x y = c := by
  rw [pixelAt, List.getD_eq_getElem?_getD, h, Option.getD_some]

/-- The pixel of a picture that a pixel of its rect shows (R29). -/
def scaledAt (p : Picture) (rect : Rect) (x y : Int) : Rgb :=
  pixelAt p (sampleAt p.width rect.w (x - rect.x).toNat) (sampleAt p.height rect.h (y - rect.y).toNat)

/-! ### Blending (R30) -/

@[simp] theorem blend_opaque (s d : Nat) : blend s 255 d = s := by
  rw [blend]
  omega

@[simp] theorem blend_transparent (s d : Nat) : blend s 0 d = d := by
  rw [blend]
  omega

/-- A blend of two channel values is a channel value: it lies between them. -/
theorem blend_le {s a d : Nat} (ha : a ≤ 255) (hs : s ≤ 255) (hd : d ≤ 255) : blend s a d ≤ 255 := by
  have hsource : s * a ≤ 255 * a := Nat.mul_le_mul_right a hs
  have hdest : d * (255 - a) ≤ 255 * (255 - a) := Nat.mul_le_mul_right _ hd
  rw [blend]
  omega

@[simp] theorem blendRgb_opaque (s d : Rgb) : blendRgb s 255 d = s := by
  simp only [blendRgb, blend_opaque]

/-! ### The fade plane (R40) -/

/-- The fade plane is black drawn with the fade level as its alpha. -/
theorem fadeChannel_eq_blend (f c : Nat) : fadeChannel f c = blend 0 f c := by
  rw [fadeChannel, blend, Nat.zero_mul, Nat.zero_add]

/-! ### The colour matrix (R41) -/

theorem clamp255_of_neg {v : Int} (h : v < 0) : clamp255 v = 0 := by
  rw [clamp255]
  omega

theorem clamp255_of_gt {v : Int} (h : 255 < v) : clamp255 v = 255 := by
  rw [clamp255]
  omega

theorem clamp255_of_mem {v : Int} (h0 : 0 ≤ v) (h1 : v ≤ 255) : (clamp255 v : Int) = v := by
  rw [clamp255]
  omega

/-- The rounded quotient of R41 is a quotient rounded down. -/
theorem matrixChannel_eq (mr mg mb o : Int) (c : Rgb) :
    matrixChannel mr mg mb o c = clamp255 ((mr * c.r + mg * c.g + mb * c.b + 512).fdiv 1024 + o) := by
  rw [matrixChannel, Int.fdiv_eq_ediv_of_nonneg _ (by decide)]

/-- A weight of 1,024, which stands for 1, leaves a channel value as it is. -/
theorem clamp255_unit {v : Nat} (h : v ≤ 255) : clamp255 ((1024 * (v : Int) + 512) / 1024) = v := by
  rw [clamp255]
  omega

/-- The matrix of R42 is the identity. -/
theorem Matrix.apply_default {c : Rgb} (hr : c.r ≤ 255) (hg : c.g ≤ 255) (hb : c.b ≤ 255) : ({} : Matrix).apply c = c := by
  have happly : ({} : Matrix).apply c =
      ⟨matrixChannel 1024 0 0 0 c, matrixChannel 0 1024 0 0 c, matrixChannel 0 0 1024 0 c⟩ := rfl
  simp only [happly, matrixChannel, zero_mul, zero_add, add_zero, clamp255_unit hr, clamp255_unit hg, clamp255_unit hb]

/-! ### What one drawing operation makes of a pixel (R28 to R30, R33, R34, R38) -/

section Draw

variable (rect clip : Rect) (x y : Int) (d : Rgb)

theorem draw_fill (colour : Rgb) (alpha : Nat) : DrawOp.draw x y d (.fill rect clip colour alpha) =
    if rectHas rect x y = true ∧ rectHas clip x y = true then blendRgb colour alpha d else d := by
  simp only [DrawOp.draw, Bool.and_eq_true]

theorem draw_picture (p : Picture) (alpha : Nat) : DrawOp.draw x y d (.picture rect clip p alpha) =
    if rectHas rect x y = true ∧ rectHas clip x y = true then blendRgb (scaledAt p rect x y) alpha d else d := by
  simp only [DrawOp.draw, Bool.and_eq_true, scaledAt]

/-- The border covers the pixels of the rect that lie nearer than its width to one of the four edges. -/
theorem draw_border (width : Nat) (colour : Rgb) : DrawOp.draw x y d (.border rect clip width colour) =
    if rectHas rect x y = true ∧ rectHas clip x y = true ∧ (x - rect.x < width ∨ rect.x + rect.w - 1 - x < width ∨
      y - rect.y < width ∨ rect.y + rect.h - 1 - y < width) then colour else d := by
  simp only [DrawOp.draw, edgeDistance, Bool.and_eq_true, decide_eq_true_iff, min_lt_iff, and_assoc, or_assoc]

theorem draw_glyph (left top : Int) (scale : Nat) (colour : Rgb) (coverage : List Byte) :
    DrawOp.draw x y d (.glyph left top scale clip colour coverage) =
      if rectHas ⟨left, top, 16 * scale, 24 * scale⟩ x y = true ∧ rectHas clip x y = true then
        blendRgb colour (17 * (coverage.getD ((y - top).toNat / scale * 16 + (x - left).toNat / scale) 0).toNat) d
      else d := by
  by_cases hcell : rectHas ⟨left, top, 16 * scale, 24 * scale⟩ x y = true
  · simp only [DrawOp.draw, coverageAt, hcell, if_true, true_and]
  · simp only [DrawOp.draw, coverageAt, hcell, Bool.false_eq_true, if_false, false_and]

end Draw

/-! ### What a list of drawing operations makes of a pixel (R27) -/

/-- Drawing operations in order on a pixel. -/
def paintOps (ops : List DrawOp) (x y : Int) (d : Rgb) : Rgb := ops.foldl (fun d op => op.draw x y d) d

theorem Drawing.pixel_eq_paintOps (g : Drawing) (x y : Nat) :
    g.pixel x y = g.matrix.apply (fadeRgb g.fade (paintOps g.ops x y g.backdrop)) := rfl

@[simp] theorem paintOps_nil (x y : Int) (d : Rgb) : paintOps [] x y d = d := rfl

@[simp] theorem paintOps_cons (op : DrawOp) (ops : List DrawOp) (x y : Int) (d : Rgb) :
    paintOps (op :: ops) x y d = paintOps ops x y (op.draw x y d) := rfl

end Sys2Proof.Machine
end

section
/-!
O50, the layers: what cells, the focus border and lane windows make of a pixel (R32 to R36), an item's text glyph by glyph (R38), and
the moments at which marks, windows and texts are read (R35, R37, R39).
-/

namespace Sys2Proof.Machine

open Sys2Proof

/-! ### Cells and the focus border (R32 to R34) -/

section Cell

variable (c : StillCache) (rect clip : Rect) (glyphs : Option (List Byte)) {cell : CellShot} {x y : Int} (d : Rgb)

theorem slotOps_of_picture {k : Nat} {p : Picture} (hp : (c.slot k).picture = some p) (alpha : Nat) :
    slotOps c (some k) rect clip alpha = [.picture rect clip p alpha] := by
  simp only [slotOps, Option.bind_some, StillCache.pictureOf, hp]

/-- A slot draws its picture or nothing. -/
theorem slotOps_cases (slot : Option Nat) (alpha : Nat) :
    slotOps c slot rect clip alpha = [] ∨ ∃ p, slotOps c slot rect clip alpha = [.picture rect clip p alpha] := by
  cases h : slot.bind c.pictureOf with
  | none => exact .inl (by simp only [slotOps, h])
  | some p => exact .inr ⟨p, by simp only [slotOps, h]⟩

theorem markOps_eq : markOps rect clip glyphs = glyphs.toList.map fun set =>
    .glyph (rect.x + ((rect.w : Int) - 16).fdiv 2) (rect.y + ((rect.h : Int) - 24).fdiv 2) 1 clip Rgb.white (glyphOf set 1) := by
  have hfloor (n : Int) : n.fdiv 2 = n / 2 := Int.fdiv_eq_ediv_of_nonneg _ (by decide)
  simp only [hfloor]
  cases glyphs <;> rfl

/-- Nothing of a cell is drawn outside its clip (R28). -/
theorem paint_cellOps_outside (h : ¬ rectHas clip x y = true) : paintOps (cellOps c rect clip glyphs cell) x y d = d := by
  have htint : ∀ e, DrawOp.draw x y e (.fill rect clip cell.tint 255) = e := fun e => by
    rw [draw_fill, if_neg fun hin => h hin.2]
  have hslot : ∀ alpha e, paintOps (slotOps c cell.slot rect clip alpha) x y e = e := fun alpha e => by
    rcases slotOps_cases c rect clip cell.slot alpha with hs | ⟨p, hs⟩
    · rw [hs, paintOps_nil]
    · rw [hs, paintOps_cons, paintOps_nil, draw_picture, if_neg fun hin => h hin.2]
  have hmark : ∀ e, paintOps (markOps rect clip glyphs) x y e = e := fun e => by
    rw [markOps_eq]
    cases glyphs with
    | none => rfl
    | some set => exact (draw_glyph ..).trans (if_neg fun hin => h hin.2)
  cases hstate : cell.appearance with
  | empty => simp only [cellOps, hstate, paintOps_nil]
  | waiting => simp only [cellOps, hstate, paintOps_cons, paintOps_nil, htint]
  | fading k => simp only [cellOps, hstate, paintOps_cons, htint, hslot]
  | shown => simp only [cellOps, hstate, hslot]
  | broken => simp only [cellOps, hstate, paintOps_cons, htint, hmark]

theorem cellOps_empty (h : cell.appearance = .empty) : cellOps c rect clip glyphs cell = [] := by
  simp only [cellOps, h]

variable {rect clip} (hin : rectHas rect x y = true ∧ rectHas clip x y = true)
include hin

theorem draw_tint (tint : Rgb) : DrawOp.draw x y d (.fill rect clip tint 255) = tint := by
  rw [draw_fill, if_pos hin, blendRgb_opaque]

theorem draw_still (p : Picture) : DrawOp.draw x y d (.picture rect clip p 255) = scaledAt p rect x y := by
  rw [draw_picture, if_pos hin, blendRgb_opaque]

theorem paint_cellOps_waiting (h : cell.appearance = .waiting) :
    paintOps (cellOps c rect clip glyphs cell) x y d = cell.tint := by
  simp only [cellOps, h, paintOps_cons, paintOps_nil, draw_tint d hin]

theorem paint_cellOps_fading {k n : Nat} {p : Picture} (h : cell.appearance = .fading k) (hslot : cell.slot = some n)
    (hp : (c.slot n).picture = some p) :
    paintOps (cellOps c rect clip glyphs cell) x y d = blendRgb (scaledAt p rect x y) (32 * k) cell.tint := by
  simp only [cellOps, h, hslot, slotOps_of_picture c rect clip hp, paintOps_cons, paintOps_nil, draw_tint d hin]
  rw [draw_picture, if_pos hin]

theorem paint_cellOps_shown {n : Nat} {p : Picture} (h : cell.appearance = .shown) (hslot : cell.slot = some n)
    (hp : (c.slot n).picture = some p) : paintOps (cellOps c rect clip glyphs cell) x y d = scaledAt p rect x y := by
  simp only [cellOps, h, hslot, slotOps_of_picture c rect clip hp, paintOps_cons, paintOps_nil, draw_still d hin]

/-- The broken mark is drawn over the tint (R33). -/
theorem paint_cellOps_broken (h : cell.appearance = .broken) :
    paintOps (cellOps c rect clip glyphs cell) x y d = paintOps (markOps rect clip glyphs) x y cell.tint := by
  simp only [cellOps, h, paintOps_cons, draw_tint d hin]

end Cell

/-- The focus border of a cell (R15, R34). -/
theorem paint_borderOps (w : Wall) (focus : Focus) (index : Nat) (rect clip : Rect) (x y : Int) (d : Rgb) :
    paintOps (borderOps w focus index rect clip) x y d =
      if focus = .wall index ∧ index < w.titles.length ∧ rectHas rect x y = true ∧ rectHas clip x y = true ∧
        (x - rect.x < w.border ∨ rect.x + rect.w - 1 - x < w.border ∨ y - rect.y < w.border ∨
          rect.y + rect.h - 1 - y < w.border) then w.focusColour else d := by
  by_cases hfocus : focus = .wall index ∧ index < w.titles.length
  · rw [borderOps, if_pos hfocus, paintOps_cons, paintOps_nil, draw_border]
    simp only [hfocus, true_and]
  · rw [borderOps, if_neg hfocus, paintOps_nil, if_neg fun h => hfocus ⟨h.1, h.2.1⟩]

/-! ### Lane windows (R35, R36) -/

section Window

variable (c : StillCache) (rect clip : Rect) (poster : PosterShot) {v : LaneView}

/-- The picture on show in a window, black without one (R35). -/
def onShowOps (rect clip : Rect) : Option Picture → List DrawOp
  | some p => [.picture rect clip p 255]
  | none => [.fill rect clip Rgb.black 255]

theorem windowOps_idle (h : v.state = .idle) : windowOps c rect clip poster v = [] := by
  simp only [windowOps, h]

theorem windowOps_priming (h : v.state = .priming) : windowOps c rect clip poster v = [.fill rect clip Rgb.black 255] := by
  simp only [windowOps, h]

theorem windowOps_picture (h : v.state = .playing ∨ v.state = .starved ∨ v.state = .ended ∧ v.endAction ≠ .poster) :
    windowOps c rect clip poster v = onShowOps rect clip v.onShow := by
  rcases h with hstate | hstate | ⟨hstate, hend⟩
  · cases hshow : v.onShow <;> simp only [windowOps, hstate, hshow, onShowOps]
  · cases hshow : v.onShow <;> simp only [windowOps, hstate, hshow, onShowOps]
  · cases hshow : v.onShow <;> simp only [windowOps, hstate, hshow, onShowOps, if_neg hend]

theorem windowOps_poster (h : v.state = .held ∨ v.state = .ended ∧ v.endAction = .poster) :
    windowOps c rect clip poster v = posterOps c rect clip poster := by
  rcases h with hstate | ⟨hstate, hend⟩
  · simp only [windowOps, hstate]
  · simp only [windowOps, hstate, if_pos hend]

/-- A list that draws at most one opaque colour or picture over a rect. -/
def OverRect (rect clip : Rect) (ops : List DrawOp) : Prop :=
  ops = [] ∨ (∃ colour, ops = [.fill rect clip colour 255]) ∨ ∃ p, ops = [.picture rect clip p 255]

theorem OverRect.paint_outside {rect clip : Rect} {ops : List DrawOp} (hops : OverRect rect clip ops) {x y : Int} (d : Rgb)
    (h : ¬ (rectHas rect x y = true ∧ rectHas clip x y = true)) : paintOps ops x y d = d := by
  rcases hops with rfl | ⟨colour, rfl⟩ | ⟨p, rfl⟩
  · rfl
  · exact (draw_fill ..).trans (if_neg h)
  · exact (draw_picture ..).trans (if_neg h)

theorem overRect_onShowOps (shown : Option Picture) : OverRect rect clip (onShowOps rect clip shown) := by
  cases shown with
  | none => exact .inr (.inl ⟨_, rfl⟩)
  | some p => exact .inr (.inr ⟨p, rfl⟩)

theorem overRect_posterOps : OverRect rect clip (posterOps c rect clip poster) := by
  cases poster with
  | slot k => exact (slotOps_cases c rect clip (some k) 255).imp id .inr
  | tint t => exact .inr (.inl ⟨t, rfl⟩)
  | black => exact .inr (.inl ⟨_, rfl⟩)

/-- Whatever its lane does, a window draws within its rect alone. -/
theorem overRect_windowOps (v : LaneView) : OverRect rect clip (windowOps c rect clip poster v) := by
  cases hstate : v.state with
  | idle => exact .inl (windowOps_idle c rect clip poster hstate)
  | priming => exact .inr (.inl ⟨_, windowOps_priming c rect clip poster hstate⟩)
  | playing =>
    rw [windowOps_picture c rect clip poster (.inl hstate)]
    exact overRect_onShowOps rect clip _
  | starved =>
    rw [windowOps_picture c rect clip poster (.inr (.inl hstate))]
    exact overRect_onShowOps rect clip _
  | held =>
    rw [windowOps_poster c rect clip poster (.inl hstate)]
    exact overRect_posterOps c rect clip poster
  | ended =>
    by_cases hend : v.endAction = .poster
    · rw [windowOps_poster c rect clip poster (.inr ⟨hstate, hend⟩)]
      exact overRect_posterOps c rect clip poster
    · rw [windowOps_picture c rect clip poster (.inr (.inr ⟨hstate, hend⟩))]
      exact overRect_onShowOps rect clip _

variable {rect clip} {x y : Int} (d : Rgb) (hin : rectHas rect x y = true ∧ rectHas clip x y = true)
include hin

theorem paint_windowOps_priming (h : v.state = .priming) : paintOps (windowOps c rect clip poster v) x y d = Rgb.black := by
  rw [windowOps_priming c rect clip poster h]
  exact draw_tint d hin _

theorem paint_onShowOps (shown : Option Picture) :
    paintOps (onShowOps rect clip shown) x y d = shown.elim Rgb.black (scaledAt · rect x y) := by
  cases shown with
  | none => exact draw_tint d hin _
  | some p => exact draw_still d hin p

theorem paint_posterOps_slot {k : Nat} {p : Picture} (hp : (c.slot k).picture = some p) :
    paintOps (posterOps c rect clip (.slot k)) x y d = scaledAt p rect x y := by
  rw [posterOps, slotOps_of_picture c rect clip hp]
  exact draw_still d hin p

end Window

/-! ### An item's text (R38) -/

theorem Item.textLeft_eq (it : Item) : it.textLeft = match it.alignment with
    | .left => it.rect.x
    | .center => it.rect.x + ((it.rect.w : Int) - (16 * it.scale * it.glyphs.length : Nat)).fdiv 2
    | .right => it.rect.x + it.rect.w - (16 * it.scale * it.glyphs.length : Nat) := by
  cases h : it.alignment with
  | left => simp only [Item.textLeft, h]
  | center => simp only [Item.textLeft, h, Int.fdiv_eq_ediv_of_nonneg _ (show (0 : Int) ≤ 2 by decide)]
  | right => simp only [Item.textLeft, h]

theorem Item.textTop_eq (it : Item) : it.textTop = it.rect.y + ((it.rect.h : Int) - (24 * it.scale : Nat)).fdiv 2 := by
  rw [Item.textTop, Int.fdiv_eq_ediv_of_nonneg _ (by decide)]

/-- The text of an item draws one glyph for each code but 0, each at its own place of the line. -/
theorem textOps_eq (it : Item) (clip : Rect) (set : List Byte) :
    textOps it clip (some set) = (it.glyphs.zipIdx.filter (·.1 ≠ 0)).map fun p =>
      .glyph (it.textLeft + (16 * it.scale * p.2 : Nat)) it.textTop it.scale clip it.text (glyphOf set p.1.toNat) := by
  rw [textOps, ← List.filterMap_eq_map, List.filterMap_filter]
  refine List.filterMap_congr fun p _ => ?_
  by_cases h : p.1 = 0 <;> simp [h]

/-! ### The moments of a pass (R35, R37, R39) -/

theorem foldl_max_le_iff (l : List Nat) (a b : Nat) : l.foldl max a ≤ b ↔ a ≤ b ∧ ∀ k ∈ l, k ≤ b := by
  induction l generalizing a with
  | nil => simp
  | cons k l ih => rw [List.foldl_cons, ih, max_le_iff, List.forall_mem_cons, and_assoc]

theorem latestMoment_le_iff (moments : List Nat) (n b : Nat) :
    latestMoment moments n ≤ b ↔ ∀ k ∈ moments.take (n + 1), k ≤ b := by
  rw [latestMoment, foldl_max_le_iff, and_iff_right (Nat.zero_le b)]

/-- What is drawn later in an order is not read earlier. -/
theorem latestMoment_mono (moments : List Nat) {n k : Nat} (h : n ≤ k) : latestMoment moments n ≤ latestMoment moments k := by
  rw [latestMoment_le_iff]
  exact fun m hm => (latestMoment_le_iff moments k _).1 le_rfl m (List.take_subset_take_left moments (by omega) hm)

/-- Moments given in order are taken as they stand. -/
theorem latestMoment_of_sorted {moments : List Nat} (hs : moments.Pairwise (· ≤ ·)) {n k : Nat} (hk : moments[n]? = some k) :
    latestMoment moments n = k := by
  obtain ⟨hn, rfl⟩ := List.getElem?_eq_some_iff.1 hk
  refine le_antisymm ((latestMoment_le_iff ..).2 fun m hm => ?_) ((latestMoment_le_iff moments n _).1 le_rfl _ ?_)
  · obtain ⟨j, hj, rfl⟩ := List.mem_take_iff_getElem.1 hm
    exact hs.rel_get_of_le (a := ⟨j, by omega⟩) (b := ⟨n, hn⟩) (by simp only [Fin.mk_le_mk]; omega)
  · exact List.mem_take_iff_getElem.2 ⟨n, by omega, rfl⟩

end Sys2Proof.Machine
end

section
/-!
O50: a finished pass in its layers (R27, R31 to R39), with the pixel rules above.
-/

namespace Sys2Proof.Machine

open Sys2Proof

/-! ### The layers of a finished pass (R27) -/

section Layers

variable (c : StillCache) (x : PassContext) (screen : Rect)

/-- A moment beyond the last view of a pass picks the last. -/
theorem min_moment_lt_views (h : x.views ≠ []) (moment : Nat) : min moment (x.views.length - 1) < x.views.length := by
  have := List.length_pos_iff.2 h
  omega

/-- Moments given in order pick the views they name, up to the last. -/
theorem min_latestMoment_of_sorted {moments : List Nat} (hs : moments.Pairwise (· ≤ ·)) (last : Nat) {n k : Nat}
    (hk : moments[n]? = some k) : min (latestMoment moments n) last = min k last := by
  rw [latestMoment_of_sorted hs hk]

theorem wallOps_none (h : x.shot.plan.wall = none) (marks : List Nat) : wallOps c x screen marks = [] := by
  rw [wallOps, h]

/-- The fill and the text of an item, the fill lit for the focused one (R37). -/
theorem itemOps_eq (it : Item) (focus : Focus) (index : Nat) (glyphs : Option (List Byte)) :
    itemOps it (focus == .item index) screen glyphs =
      let fill := if focus = .item index then it.lit else it.normal
      .fill it.rect (rectMeet screen it.rect) fill.colour fill.alpha :: textOps it (rectMeet screen it.rect) glyphs := by
  simp only [itemOps, beq_iff_eq]

end Layers

/-- Settles O50: each layer of a finished pass on a pixel, and the arithmetic of a pixel. -/
theorem pixelsAreScaledBlendedAndCorrected : Obligations.PixelsAreScaledBlendedAndCorrected := by
  unfold Obligations.PixelsAreScaledBlendedAndCorrected
  intro paint covers scaled
  have hpaint : paint = paintOps := rfl
  have hcovers : covers = fun r x y => rectHas r x y = true := by
    funext r x y
    exact propext (rectHas_iff r x y).symm
  have hscaled : scaled = scaledAt := rfl
  clear_value paint covers scaled
  subst hpaint hcovers hscaled
  refine ⟨rectHas_rectMeet, ?glyph, ?cell, ?border, ?window, ?layers, ?fill, ?text, ?sample, ?picture, ?blend, ?fade, ?matrix,
    fun _ _ _ => rfl, fun _ _ => rfl, fun p x y c _ => pixelAt_of_getElem?, fun _ _ _ _ _ _ _ _ _ _ _ _ _ => rfl,
    fun c => Matrix.apply_default, Drawing.pixel_eq_paintOps⟩
  case glyph =>
    intro left top scale clip colour coverage x y d
    rw [draw_glyph]
    exact ⟨fun h => if_neg h, fun h => if_pos h⟩
  case cell =>
    intro c rect clip glyphs cell x y d
    refine ⟨paint_cellOps_outside c rect clip glyphs d, fun hrect hclip => ?_⟩
    have hin := And.intro hrect hclip
    refine ⟨fun h => by rw [cellOps_empty c rect clip glyphs h, paintOps_nil], paint_cellOps_waiting c glyphs d hin,
      fun k n p hslot hp => ⟨fun h => paint_cellOps_fading c glyphs d hin h hslot hp, fun h => paint_cellOps_shown c glyphs d hin h hslot hp⟩,
      fun h => ?_⟩
    rw [paint_cellOps_broken c glyphs d hin h, markOps_eq]
    exact ⟨by rintro rfl; rfl, by rintro set rfl; rfl⟩
  case border =>
    intro w focus index rect clip x y d
    rw [paint_borderOps]
    exact ⟨fun h => if_pos h, fun h => if_neg h⟩
  case window =>
    intro c rect clip poster v x y d
    refine ⟨?_, fun hrect hclip => ?_⟩
    · rintro (hout | hidle)
      · exact (overRect_windowOps c rect clip poster v).paint_outside d hout
      · rw [windowOps_idle c rect clip poster hidle, paintOps_nil]
    have hin := And.intro hrect hclip
    refine ⟨paint_windowOps_priming c poster d hin, fun h => ?_, fun h => ?_⟩
    · rw [windowOps_picture c rect clip poster h, paint_onShowOps d hin]
      exact ⟨fun hnone => by rw [hnone]; rfl, fun p hp => by rw [hp]; rfl⟩
    · rw [windowOps_poster c rect clip poster h]
      refine ⟨?_, ?_, ?_⟩
      · rintro rfl
        exact draw_tint d hin _
      · rintro t rfl
        exact draw_tint d hin t
      · rintro n p rfl hp
        exact paint_posterOps_slot c d hin hp
  case layers =>
    intro c x screen m
    refine ⟨rfl, rfl, rfl, wallOps c x screen m.marks, lanesOps c x screen m.windows, itemsOps x screen m.items,
      fun n => min (m.marks.getD n 0) (x.views.length - 1), fun n => min (latestMoment m.windows n) (x.views.length - 1),
      fun n => min (latestMoment m.items n) (x.views.length - 1), rfl, fun n k h => ?order, fun hv n => ?_, fun n k h => ?mark,
      fun hs n k h => min_latestMoment_of_sorted hs _ h, fun hs n k h => min_latestMoment_of_sorted hs _ h,
      fun h => wallOps_none c x screen h _, fun w h => ?wall, List.flatMap_congr fun v _ => ?lane,
      List.flatMap_congr fun p _ => ?item⟩
    case order =>
      exact ⟨min_le_min_right _ (latestMoment_mono _ h), min_le_min_right _ (latestMoment_mono _ h)⟩
    · exact ⟨min_moment_lt_views x hv _, min_moment_lt_views x hv _, min_moment_lt_views x hv _⟩
    case mark => simp only [List.getD_eq_getElem?_getD, h, Option.getD_some]
    case wall =>
      rw [wallOps, h]
      rfl
    case lane =>
      cases x.shot.plan.windows.get v with
      | none => rfl
      | some w =>
        rw [PassContext.viewAt]
        cases x.views[min (latestMoment m.windows v.val) (x.views.length - 1)]? <;> rfl
    case item =>
      obtain ⟨_ | it, index⟩ := p
      · rfl
      · exact itemOps_eq screen it x.shot.focus index _
  case fill =>
    intro rect clip colour alpha x y d
    rw [draw_fill]
    exact ⟨fun h => if_pos h, fun h => if_neg h⟩
  case text =>
    intro it clip set
    rw [textOps_eq, it.textLeft_eq, it.textTop_eq]
    exact ⟨rfl, rfl⟩
  case sample => exact fun ws wd d hd => ⟨rfl, sampleAt_lt hd, sampleAt_same hd⟩
  case picture =>
    intro rect clip p alpha x y d
    rw [draw_picture]
    exact ⟨fun h => if_pos h, fun h => if_neg (by simpa [imp_iff_not_or] using h)⟩
  case blend =>
    exact fun sc a d ha hs hd => ⟨rfl, blend_le ha hs hd, blend_opaque sc d, blend_transparent sc d⟩
  case fade =>
    intro f c _ _
    simp only [fadeChannel_eq_blend, blend_opaque, blend_transparent, and_true]
    rw [← fadeChannel_eq_blend, fadeChannel]
  case matrix =>
    intro mr mg mb o c
    rw [matrixChannel_eq]
    exact ⟨clamp255_of_neg, clamp255_of_gt, clamp255_of_mem⟩

end Sys2Proof.Machine
end

section
/-!
The shared operations of the Lane Engine: a lane's record after a teardown (R82), the release of its clip's reader (R106), the
answer to a pending LANE_PLAY (R66), and a lane that goes HELD (R67, R68, R80).
-/

namespace Sys2Proof.Machine

open Sys2Proof

/-! ### One lane of three -/

theorem State.lane_setLane_other (s : State) {l m : Fin 3} (r : Lane) (h : m ≠ l) : (s.setLane l r).lane m = s.lane m := by
  simp [State.lane, Three.get_set, h]

@[simp] theorem State.setLane_setLane (s : State) (l : Fin 3) (r q : Lane) : (s.setLane l r).setLane l q = s.setLane l q := by
  match l with
  | 0 => rfl
  | 1 => rfl
  | 2 => rfl

@[simp] theorem State.setLane_self (s : State) (l : Fin 3) : s.setLane l (s.lane l) = s := by
  match l with
  | 0 => rfl
  | 1 => rfl
  | 2 => rfl

/-! ### Notices and replies beside a lane -/

/-- What a notice leaves of the Link depends on the Link alone (R190). -/
theorem notice_link_congr (kind : Nat) (payload : List Byte) {s t : State} (h : s.link = t.link) :
    (notice kind payload s).link = (notice kind payload t).link := by
  unfold notice
  rw [h]
  split <;> rfl

theorem notice_eq_setLink (kind : Nat) (payload : List Byte) (s : State) :
    notice kind payload s = s.setLink (notice kind payload s).link := by
  obtain ⟨l, h⟩ := notice_link kind payload s
  rw [h]
  rfl

@[simp] theorem reply_lane (kind tag : Nat) (status : Status) (data : List Byte) (s : State) (l : Fin 3) :
    (reply kind tag status data s).lane l = s.lane l := rfl

@[simp] theorem eraserStep_lane (s : State) (l : Fin 3) : (eraserStep s).lane l = s.lane l := rfl

@[simp] theorem eraserStep_shows (s : State) : (eraserStep s).shows = s.shows := rfl

@[simp] theorem notice_lane (kind : Nat) (payload : List Byte) (s : State) (l : Fin 3) :
    (notice kind payload s).lane l = s.lane l := by
  rw [State.lane, notice_lanes]
  rfl

/-- A notice that has room is on its way to the host (R190). -/
theorem mem_notice_queued (kind : Nat) (payload : List Byte) {s : State} (hh : s.link.helloSent = true)
    (ho : s.link.occupancy < 40) :
    ({ kind := kind, tag := 0, payload := payload } : LinkMsg) ∈ (notice kind payload s).link.queued := by
  rw [notice_queued, if_pos ⟨hh, ho⟩]
  exact List.mem_append_right _ (List.mem_singleton_self _)

/-! ### The answer to a pending LANE_PLAY (R66) -/

section Answer

variable (l : Fin 3) (status : Status) (data : List Byte) (s : State)

@[simp] theorem answerPlay_lane : (answerPlay l status data s).lane l = { s.lane l with pendingTag := none } := by
  unfold answerPlay
  split
  · exact State.lane_setLane _ l _
  · rename_i h
    rw [← h]

theorem answerPlay_lane_other {m : Fin 3} (h : m ≠ l) : (answerPlay l status data s).lane m = s.lane m := by
  unfold answerPlay
  split
  · exact State.lane_setLane_other s _ h
  · rfl

@[simp] theorem answerPlay_decoding : (answerPlay l status data s).lanes.decoding = s.lanes.decoding := by
  unfold answerPlay
  split <;> rfl

@[simp] theorem answerPlay_store : (answerPlay l status data s).store = s.store := by
  unfold answerPlay
  split <;> rfl

@[simp] theorem answerPlay_catalog : (answerPlay l status data s).catalog = s.catalog := by
  unfold answerPlay
  split <;> rfl

theorem answerPlay_link : (answerPlay l status data s).link = match (s.lane l).pendingTag with
    | some tag => s.link.fillPlace (replyMsg 0x40 tag status data .nothing)
    | none => s.link := by
  unfold answerPlay
  cases (s.lane l).pendingTag <;> rfl

theorem answerPlay_keeps : s.link.keeps (answerPlay l status data s).link := by
  rw [answerPlay_link]
  cases (s.lane l).pendingTag with
  | some tag => exact Link.keeps_fillPlace _ _
  | none => exact Link.keeps_refl _

theorem mem_answerPlay_queued {tag : Nat} (h : (s.lane l).pendingTag = some tag) :
    replyMsg 0x40 tag status data .nothing ∈ (answerPlay l status data s).link.queued := by
  rw [answerPlay_link, h]
  dsimp only
  rw [Link.queued_fillPlace]
  exact List.mem_append_right _ (List.mem_singleton_self _)

end Answer

/-! ### Readiness (R68, R79) -/

/-- Priming or recovery is done: two pictures are queued, or the end is passed, in priming with a picture (R68, R79). -/
def Lane.primed (r : Lane) : Prop :=
  r.state = .priming ∧ (2 ≤ r.queue.length ∨ r.pastEnd = true ∧ 1 ≤ r.queue.length) ∨
    r.state = .starved ∧ (2 ≤ r.queue.length ∨ r.pastEnd = true)

theorem Lane.readyTest_of_primed {r : Lane} (h : r.primed) (hr : r.ready = false) :
    r.readyTest = { r with ready := true, stallTimer := none } := by
  rcases h with ⟨hs, h⟩ | ⟨hs, h⟩
  · simp [Lane.readyTest, hs, hr, h]
  · simp [Lane.readyTest, hs, hr, h]

theorem Lane.readyTest_of_ready {r : Lane} (h : r.ready = true) : r.readyTest = r := by
  simp [Lane.readyTest, h]

theorem Lane.readyTest_of_not_primed {r : Lane} (h : ¬ r.primed) : r.readyTest = r := by
  unfold Lane.primed at h
  unfold Lane.readyTest
  cases hs : r.state <;> simp_all

/-- The test changes the ready mark and the stall timer alone (R68, R79). -/
theorem Lane.readyTest_frame (r : Lane) : ∃ ready timer, r.readyTest = { r with ready := ready, stallTimer := timer } := by
  by_cases hr : r.ready = true
  · exact ⟨r.ready, r.stallTimer, Lane.readyTest_of_ready hr⟩
  · by_cases h : r.primed
    · exact ⟨_, _, Lane.readyTest_of_primed h (by simpa using hr)⟩
    · exact ⟨r.ready, r.stallTimer, Lane.readyTest_of_not_primed h⟩

/-! ### Teardown (R82) -/

/-- The record of an active lane torn down to `goal` (R82). -/
def Lane.tornDown (goal : LaneState) (keepShow : Bool) (r : Lane) : Lane :=
  { r with
    state := goal, title := if goal = .idle then 0 else r.title, clip := none, stallTimer := none, index := [], demand := false
    skipping := false, ring := [], fill := 0, queue := [], onShow := if keepShow then r.onShow else none, ready := false
    header := none, request := none }

/-- A teardown before its reader is released: the lane's operations are withdrawn, one in progress is left to run to its end and
keeps the reader, the record is cleared and the clip decoder does not hold the lane (R82, R148). -/
def State.lanesCleared (l : Fin 3) (goal : LaneState) (keepShow : Bool) (s : State) : State :=
  { s with
    store := { s.store.withdraw (.lane l) with
      port := if s.store.inProgress (.lane l) then
          s.store.port.map fun p => { p with orphan := true, releaseReader := (s.lane l).clip }
        else s.store.port }
    lanes := { s.lanes with
      lane := s.lanes.lane.set l ((s.lane l).tornDown goal keepShow)
      decoding := if s.lanes.decoding = some l then none else s.lanes.decoding } }

section Teardown

variable (l : Fin 3) (goal : LaneState) (keepShow : Bool) (s : State)

/-- A teardown with no operation of the lane in progress releases the clip's reader at once. -/
theorem teardown_releases {uid : Nat} (hp : s.store.inProgress (.lane l) = false) (hc : (s.lane l).clip = some uid) :
    teardown l goal keepShow s = releaseReader uid (s.lanesCleared l goal keepShow) := by
  simp only [teardown, hp, hc, State.lanesCleared, Bool.false_eq_true, if_false]
  rfl

theorem teardown_of_no_clip (hp : s.store.inProgress (.lane l) = false) (hc : (s.lane l).clip = none) :
    teardown l goal keepShow s = s.lanesCleared l goal keepShow := by
  simp only [teardown, hp, hc, State.lanesCleared, Bool.false_eq_true, if_false]
  rfl

/-- An operation of the lane in progress keeps the clip's reader until its end. -/
theorem teardown_defers (hp : s.store.inProgress (.lane l) = true) :
    teardown l goal keepShow s = s.lanesCleared l goal keepShow := by
  simp only [teardown, hp, State.lanesCleared, if_true]
  rfl

/-- Beside clearing the lane a teardown settles a record (R82, R106). -/
theorem settling_teardown : Settling (s.lanesCleared l goal keepShow) (teardown l goal keepShow s) := by
  cases hp : s.store.inProgress (.lane l) with
  | true => rw [teardown_defers l goal keepShow s hp]; exact Settling.refl _
  | false =>
    cases hc : (s.lane l).clip with
    | none => rw [teardown_of_no_clip l goal keepShow s hp hc]; exact Settling.refl _
    | some uid => rw [teardown_releases l goal keepShow s hp hc]; exact settling_releaseReader uid _

theorem teardown_lanes : (teardown l goal keepShow s).lanes = (s.lanesCleared l goal keepShow).lanes := by
  obtain ⟨_, _, _, _, h⟩ := settling_teardown l goal keepShow s
  rw [h]

@[simp] theorem teardown_lane : (teardown l goal keepShow s).lane l = (s.lane l).tornDown goal keepShow := by
  rw [State.lane, teardown_lanes]
  exact Three.get_set_same _ l _

theorem teardown_lane_other {m : Fin 3} (h : m ≠ l) : (teardown l goal keepShow s).lane m = s.lane m := by
  rw [State.lane, teardown_lanes]
  simp [State.lanesCleared, Three.get_set, h, State.lane]

theorem teardown_decoding : (teardown l goal keepShow s).lanes.decoding ≠ some l := by
  rw [teardown_lanes]
  simp only [State.lanesCleared]
  split
  · exact fun h => nomatch h
  · assumption

@[simp] theorem teardown_link : (teardown l goal keepShow s).link = s.link := by
  obtain ⟨_, _, _, _, h⟩ := settling_teardown l goal keepShow s
  rw [h]
  rfl

@[simp] theorem teardown_mount : (teardown l goal keepShow s).store.mount = s.store.mount := by
  obtain ⟨_, _, _, _, h⟩ := settling_teardown l goal keepShow s
  rw [h]
  rfl

theorem Store.inProgress_eq_false_iff {st : Store} {c : Client} : st.inProgress c = false ↔
    ∀ p, st.port = some p → p.orphan = true ∨ clientOf p.purpose ≠ c := by
  cases h : st.port with
  | none => simp [Store.inProgress, h]
  | some p => cases ho : p.orphan <;> simp [Store.inProgress, h, ho]

/-- No operation of a lane that is torn down waits, and its reader is released now or at the end of its operation (R82, R106). -/
theorem readerReleased_teardown : readerReleased l s (teardown l goal keepShow s) := by
  refine ⟨fun w hw => ?_, fun uid a hclip hrec => ⟨fun p hp ho hc => ?_, fun hidle => ?_⟩⟩
  · obtain ⟨_, _, _, _, h⟩ := settling_teardown l goal keepShow s
    rw [h] at hw
    simp only [State.lanesCleared, Store.withdraw, List.mem_append, List.mem_filter] at hw
    rcases hw with ⟨-, hw⟩ | ⟨-, hw⟩ <;> simpa using hw
  · have hbusy : s.store.inProgress (.lane l) = true := by simp [Store.inProgress, hp, ho, hc]
    rw [teardown_defers l goal keepShow s hbusy]
    exact ⟨by simp [State.lanesCleared, hbusy, hp, hclip], hrec⟩
  · rw [teardown_releases l goal keepShow s (Store.inProgress_eq_false_iff.2 hidle) hclip]
    exact releaseReader_record uid _ a hrec

end Teardown

/-- The release of a lane's reader speaks of the store and the Catalog alone. -/
theorem readerReleased.congr {l : Fin 3} {s t s' t' : State} (h : readerReleased l s t)
    (hclip : (s'.lane l).clip = (s.lane l).clip) (hs : s'.store = s.store) (hc : s'.catalog = s.catalog)
    (ht : t'.store = t.store) (htc : t'.catalog = t.catalog) : readerReleased l s' t' := by
  unfold readerReleased
  rw [hclip, hs, hc, ht, htc]
  exact h

/-- The eraser asks for erases alone, and leaves the port as it is (R143). -/
theorem Store.eraser_asks (st : Store) : st.eraser.port = st.port ∧ st.eraser.mount = st.mount ∧
    ∀ w ∈ st.eraser.arbiter ++ st.eraser.heldBack, w ∈ st.arbiter ++ st.heldBack ∨ w.purpose = .eraseBatch := by
  unfold Store.eraser
  split
  · dsimp only
    split
    · exact ⟨rfl, rfl, fun w hw => .inl hw⟩
    · obtain ⟨t, ht, -⟩ := Store.modifyUnits_frame (fun _ r => { r with state := .erasing })
        ((st.unitsIn .freeDirty).take _) st
      rw [ht]
      unfold Store.place
      dsimp only
      split
      · refine ⟨rfl, rfl, fun w hw => ?_⟩
        rw [← List.append_assoc, List.mem_append, List.mem_singleton] at hw
        exact hw.imp_right fun h => by rw [h]
      · refine ⟨rfl, rfl, fun w hw => ?_⟩
        simp only [List.mem_append, List.mem_singleton] at hw ⊢
        rcases hw with (hw | rfl) | hw
        · exact .inl (.inl hw)
        · exact .inr rfl
        · exact .inl (.inr hw)
  · exact ⟨rfl, rfl, fun w hw => .inl hw⟩

theorem readerReleased.eraserStep {l : Fin 3} {s t : State} (h : readerReleased l s t) :
    readerReleased l s (eraserStep t) := by
  obtain ⟨hport, -, hasks⟩ := t.store.eraser_asks
  refine ⟨fun w hw hl => ?_, fun uid a hclip hrec => ?_⟩
  · rcases hasks w hw with hw | hw
    · exact h.1 w hw hl
    · rw [hw] at hl
      cases hl
  · have hp : (Machine.eraserStep t).store.port = t.store.port := hport
    rw [hp]
    exact h.2 uid a hclip hrec

/-! ### A lane that goes HELD (R67, R68, R80) -/

section Held

variable (l : Fin 3) (cause : HeldCause) (status : Status) (s : State)

@[simp] theorem laneHeld_lane : (laneHeld l cause status s).lane l =
    { (s.lane l).tornDown .held false with heldCause := some cause, pendingTag := none } := by
  simp [laneHeld]

theorem laneHeld_lane_other {m : Fin 3} (h : m ≠ l) : (laneHeld l cause status s).lane m = s.lane m := by
  simp [laneHeld, answerPlay_lane_other, State.lane_setLane_other, teardown_lane_other, h]

theorem laneHeld_decoding : (laneHeld l cause status s).lanes.decoding ≠ some l := by
  simpa [laneHeld] using teardown_decoding l .held false s

theorem laneHeld_store : (laneHeld l cause status s).store = (teardown l .held false s).store := by
  simp [laneHeld]

theorem laneHeld_catalog : (laneHeld l cause status s).catalog = (teardown l .held false s).catalog := by
  simp [laneHeld]

@[simp] theorem laneHeld_mount : (laneHeld l cause status s).store.mount = s.store.mount := by
  rw [laneHeld_store, teardown_mount]

theorem readerReleased_laneHeld : readerReleased l s (laneHeld l cause status s) :=
  (readerReleased_teardown l .held false s).congr rfl rfl rfl (laneHeld_store l cause status s)
    (laneHeld_catalog l cause status s)

/-- LANE_HELD is on its way to the host where it has room (R190, R200). -/
theorem laneHeld_notice (hh : s.link.helloSent = true) (ho : s.link.occupancy < 40) :
    ({ kind := 0xE4, tag := 0, payload := [byteOf l.val, byteOf (heldCode (some cause))] } : LinkMsg) ∈
      (laneHeld l cause status s).link.queued :=
  (answerPlay_keeps l status [] _).mem (mem_notice_queued _ _ (by simpa using hh) (by simpa using ho))

/-- A pending LANE_PLAY is answered with the status (R66). -/
theorem laneHeld_reply {tag : Nat} (h : (s.lane l).pendingTag = some tag) :
    replyMsg 0x40 tag status [] .nothing ∈ (laneHeld l cause status s).link.queued :=
  mem_answerPlay_queued l status [] _ (by simpa [Lane.tornDown] using h)

end Held

end Sys2Proof.Machine
end

section
/-!
The end of a lane's read on the port (R129, R148), with the reader whose release waited for it (R82, R106), and the requests
LANE_STOP and LANE_STATUS (R83, R84).
-/

namespace Sys2Proof.Machine

open Sys2Proof

/-! ### The port becomes free (R129, R148) -/

/-- The store once the operation `p` has left the port: its followers join the arbiter and its waiting unit releases are made. -/
def Store.portFreed (p : PortOp) (st : Store) : Store :=
  ({ st with
    port := none
    arbiter := st.arbiter ++ st.heldBack.filter fun w : WaitingOp => clientOf w.purpose == clientOf p.purpose
    heldBack := st.heldBack.filter fun w => !(clientOf w.purpose == clientOf p.purpose) } : Store).releaseHolders p.releaseUnits

theorem Store.portFreed_frame (p : PortOp) (st : Store) : ∃ units, st.portFreed p = { st with
    port := none
    arbiter := st.arbiter ++ st.heldBack.filter fun w : WaitingOp => clientOf w.purpose == clientOf p.purpose
    heldBack := st.heldBack.filter fun w => !(clientOf w.purpose == clientOf p.purpose)
    units := units } := by
  obtain ⟨units, h, -⟩ := Store.releaseHolders_frame p.releaseUnits ({ st with
    port := none
    arbiter := st.arbiter ++ st.heldBack.filter fun w : WaitingOp => clientOf w.purpose == clientOf p.purpose
    heldBack := st.heldBack.filter fun w => !(clientOf w.purpose == clientOf p.purpose) } : Store)
  exact ⟨units, h⟩

@[simp] theorem Store.portFreed_port (p : PortOp) (st : Store) : (st.portFreed p).port = none := by
  obtain ⟨units, h⟩ := st.portFreed_frame p
  rw [h]

@[simp] theorem Store.portFreed_mount (p : PortOp) (st : Store) : (st.portFreed p).mount = st.mount := by
  obtain ⟨units, h⟩ := st.portFreed_frame p
  rw [h]

theorem Store.mem_portFreed_arbiter {p : PortOp} {st : Store} {w : WaitingOp} (hw : w ∈ st.heldBack)
    (hc : clientOf w.purpose = clientOf p.purpose) : w ∈ (st.portFreed p).arbiter := by
  obtain ⟨units, h⟩ := st.portFreed_frame p
  rw [h]
  exact List.mem_append_right _ (List.mem_filter.2 ⟨hw, by simp [hc]⟩)

theorem portEnd_none {s : State} {p : PortOp} (hp : s.store.port = some p) (hr : p.releaseReader = none) :
    portEnd s = s.setStore (s.store.portFreed p) := portEnd_of_no_reader hp hr

theorem portEnd_some {s : State} {p : PortOp} {uid : Nat} (hp : s.store.port = some p) (hr : p.releaseReader = some uid) :
    portEnd s = releaseReader uid (s.setStore (s.store.portFreed p)) := by
  simp only [portEnd, hp, hr]
  rfl

/-- A free port stays free over the release of a reader. -/
theorem releaseReader_port_none {s : State} (uid : Nat) (h : s.store.port = none) :
    (releaseReader uid s).store.port = none := by
  unfold releaseReader
  generalize hs : s.setCatalog _ = t
  have ht : t.store.port = none := by rw [← hs]; exact h
  cases hr : t.catalog.record uid with
  | none => rw [settleRecord_none hr]; exact ht
  | some a =>
    rcases settleRecord_cases hr with ⟨-, h⟩ | ⟨-, -, -, -, h⟩ | ⟨-, -, h⟩
    · rw [h, removeRecord, hr]
      obtain ⟨units, hu, -⟩ := Store.releaseHolders_frame (t.store.unitsOfAsset a) t.store
      simp [ht, hu]
    · rw [h]; exact ht
    · rw [h]; exact ht

/-! ### A lane's read completes (R67, R71, R145) -/

/-- Pages that can all be read report nothing (R108). -/
theorem reportPages_readable (uid : Nat) (run : Run) {pages : List PageRead} (s : State) (h : pages.all readable = true) :
    reportPages uid run pages s = s := by
  have hall : ∀ p ∈ pages.zip (List.range' run.first run.count), readable p.1 = true := fun p hp =>
    List.all_eq_true.1 h p.1 (List.of_mem_zip hp).1
  unfold reportPages
  generalize pages.zip _ = ps at hall
  induction ps with
  | nil => rfl
  | cons p ps ih =>
    rw [List.foldl_cons, if_pos (hall p List.mem_cons_self)]
    exact ih fun q hq => hall q (List.mem_cons_of_mem _ hq)

section ReadDone

variable {s : State} {l : Fin 3} {p : PortOp} {run : Run} {pages : List PageRead} (hl : s.power.resetLow = false)
  (hp : s.store.port = some p) (hop : p.op = .pageRead run) (hn : pages.length = run.count)
include hl hp hop hn

theorem exec_laneReadDone (hpurpose : p.purpose = .laneUnits l) : exec (.laneReadDone l pages) s =
    .next ((eraserStep (mountIfWaiting
      (if p.orphan then orphanReadEnd p run pages s else unitsReadEnd l run pages s))).seenSince s) := by
  have hstep := live_of_live (act := laneReadDoneStep l pages) hl
  simp only [laneReadDoneStep, hp, hop, hpurpose, hn, and_self, if_true] at hstep
  exact hstep

theorem exec_laneHeaderReadDone (hpurpose : p.purpose = .laneHeader l) : exec (.laneHeaderReadDone l pages) s =
    .next ((eraserStep (mountIfWaiting
      (if p.orphan then orphanReadEnd p run pages s else headerReadEnd l run pages s))).seenSince s) := by
  have hstep := live_of_live (act := laneHeaderReadDoneStep l pages) hl
  simp only [laneHeaderReadDoneStep, hp, hop, hpurpose, hn, and_self, if_true] at hstep
  exact hstep

end ReadDone

/-- An operation that its lane left to run to its end, its pages readable, frees the port and releases the reader that waited for
it; what the lane has placed since joins the arbiter, and no lane takes the data (R82, R106, R148). -/
theorem orphanReadEnd_releases {s : State} {p : PortOp} {run : Run} {pages : List PageRead} {uid : Nat} {a : Asset}
    (hp : s.store.port = some p) (hr : p.releaseReader = some uid) (hread : pages.all readable = true)
    (hm : s.store.mount = .none) (ha : s.catalog.record uid = some a) :
    let t := eraserStep (mountIfWaiting (orphanReadEnd p run pages s))
    t.store.port = none ∧ t.lanes = s.lanes ∧ t.link = s.link ∧ t.catalog.record uid = a.afterRelease ∧
      ∀ w ∈ s.store.heldBack, clientOf w.purpose = clientOf p.purpose → w ∈ t.store.arbiter := by
  have hend : orphanReadEnd p run pages s = releaseReader uid (s.setStore (s.store.portFreed p)) := by
    simp only [orphanReadEnd, hr, reportPages_readable uid run s hread, portEnd_some hp hr]
  have hrec := releaseReader_record uid (s.setStore (s.store.portFreed p)) a ha
  have hport := releaseReader_port_none uid (s := s.setStore (s.store.portFreed p)) (Store.portFreed_port p s.store)
  rw [← hend] at hrec hport
  obtain ⟨_, _, _, _, hframe⟩ := settling_releaseReader uid (s.setStore (s.store.portFreed p))
  rw [← hend] at hframe
  rw [mountIfWaiting_of_none (by rw [hframe]; exact (Store.portFreed_mount p s.store).trans hm)]
  obtain ⟨heraser, -, -⟩ := (orphanReadEnd p run pages s).store.eraser_asks
  obtain ⟨added, _, hadded, -⟩ := (orphanReadEnd p run pages s).store.eraser_waiting
  refine ⟨heraser.trans hport, by rw [eraserStep_lanes, hframe]; rfl, by rw [eraserStep_link, hframe]; rfl, hrec,
    fun w hw hc => ?_⟩
  have hmem : w ∈ (orphanReadEnd p run pages s).store.arbiter := by
    rw [hframe]
    exact Store.mem_portFreed_arbiter hw hc
  rw [eraserStep, State.setStore_store, hadded]
  exact List.mem_append_left _ hmem

/-! ### LANE_STOP and LANE_STATUS (R83, R84) -/

section Requests

variable {s : State} {tag : Nat} (h : s.takes tag)
include h

theorem exec_laneStatus_no_lane {lane : Nat} (hn : 3 ≤ lane) :
    exec (.laneStatus tag lane) s = .next (answered 0x42 tag .badParam [] s) :=
  request_answered h rfl (by rw [laneStatusOwner, laneOf_eq_none hn])

theorem exec_laneStop_no_lane {lane : Nat} (hn : 3 ≤ lane) :
    exec (.laneStop tag lane) s = .next (answered 0x41 tag .badParam [] s) :=
  request_answered h rfl (by rw [laneStopOwner, laneOf_eq_none hn])

theorem exec_laneStatus (l : Fin 3) {data : List Byte} (hd : (s.lane l).info = data) :
    exec (.laneStatus tag l) s = .next (answered 0x42 tag .ok data s) :=
  request_answered h rfl (by rw [laneStatusOwner, laneOf_val, ← hd]; rfl)

/-- LANE_STOP of an IDLE lane leaves it as it is (R83). -/
theorem exec_laneStop_idle (l : Fin 3) (hs : (s.lane l).state = .idle) :
    exec (.laneStop tag l) s = .next (eraserStep (answered 0x41 tag .ok [] s)) := by
  have howner : laneStopOwner tag l (holdPlace s) = eraserStep (answered 0x41 tag .ok [] s) := by
    rw [← reply_holdPlace]
    simp [laneStopOwner, Lane.active, hs]
  have hexec : exec (.laneStop tag l) s = .next ((laneStopOwner tag l (holdPlace s)).seenSince s) := request_of_takes h
  rw [hexec, howner, State.seenSince_of_shows s (by rw [eraserStep_shows, answered_shows])]

/-- LANE_STOP of a HELD or ENDED lane clears its picture and its title (R83). -/
theorem exec_laneStop_still (l : Fin 3) (hs : (s.lane l).state = .held ∨ (s.lane l).state = .ended) :
    exec (.laneStop tag l) s = .next ((eraserStep (answered 0x41 tag .ok []
      (s.setLane l { s.lane l with state := .idle, title := 0, onShow := none }))).seenSince s) := by
  have howner : laneStopOwner tag l (holdPlace s) = eraserStep (answered 0x41 tag .ok []
      (s.setLane l { s.lane l with state := .idle, title := 0, onShow := none })) := by
    rw [← reply_holdPlace]
    rcases hs with hs | hs <;> simp [laneStopOwner, Lane.active, hs] <;> rfl
  rw [← howner]
  exact request_of_takes h

/-- LANE_STOP of an active lane tears it down and answers its pending LANE_PLAY first (R82, R83). -/
theorem exec_laneStop_active (l : Fin 3) (ha : (s.lane l).active = true) :
    ∃ t, exec (.laneStop tag l) s = .next t ∧
      t.lane l = { (s.lane l).tornDown .idle false with pendingTag := none } ∧ (∀ m, m ≠ l → t.lane m = s.lane m) ∧
      t.lanes.decoding ≠ some l ∧ readerReleased l s t ∧
      t.link = match (s.lane l).pendingTag with
        | some old => (s.link.push (replyMsg 0x40 old .stopped [] .nothing)).fillPlace (replyMsg 0x41 tag .ok [] .nothing)
        | none => s.link.push (replyMsg 0x41 tag .ok [] .nothing) := by
  have howner : laneStopOwner tag l (holdPlace s) = eraserStep (reply 0x41 tag .ok []
      (answerPlay l .stopped [] (teardown l .idle false (holdPlace s)))) := by
    simp only [laneStopOwner, laneOf_val, holdPlace_lane, ha, if_true]
  have hreleased : readerReleased l s (reply 0x41 tag .ok []
      (answerPlay l .stopped [] (teardown l .idle false (holdPlace s)))) :=
    (readerReleased_teardown l .idle false (holdPlace s)).congr rfl rfl rfl (by simp) (by simp)
  refine ⟨_, request_of_takes h, ?_⟩
  rw [howner]
  refine ⟨by simp, fun m hm => by simp [answerPlay_lane_other, teardown_lane_other, hm],
    by simpa using teardown_decoding l .idle false (holdPlace s), hreleased.eraserStep.congr rfl rfl rfl (by simp) (by simp), ?_⟩
  simp only [State.seenSince_link, eraserStep_link, reply_eq, State.setLink_link, answerPlay_link, teardown_lane,
    holdPlace_lane, teardown_link, Lane.tornDown]
  cases (s.lane l).pendingTag <;> simp [holdPlace, Link.fillPlace]

end Requests

theorem Lane.active_iff (r : Lane) : r.active = true ↔ r.state = .priming ∨ r.state = .playing ∨ r.state = .starved := by
  simp [Lane.active, or_assoc]

theorem Lane.active_eq_false_iff (r : Lane) : r.active = false ↔ r.state = .idle ∨ r.state = .held ∨ r.state = .ended := by
  cases h : r.state <;> simp [Lane.active, h]

/-- LANE_STATUS's data, field by field; a lane that shows no picture has all ones for its time (R84, R195). -/
theorem Lane.info_eq (r : Lane) : r.info = [byteOf r.state.code] ++ beBytes 2 r.title ++
    [byteOf r.clockScreen.val, byteOf r.endAction.code, byteOf r.loops] ++ beBytes 6 r.clock ++ beBytes 4 r.fill ++
    [byteOf r.queue.length] ++ (match r.onShow with | some p => beBytes 6 p.time | none => List.replicate 6 0xFF) ++
    beBytes 2 r.skipped ++ [byteOf (heldCode r.heldCause), byteOf (endedCode r.endedReason)] := by
  have hnone : beBytes 6 (256 ^ 6 - 1) = List.replicate 6 (0xFF : Byte) := by decide
  unfold Lane.info
  cases r.onShow with
  | some p => rfl
  | none => rw [Option.map_none, beOption, hnone]

/-- Settles O54: the end of an operation left to itself, and LANE_STOP by the lane's state. -/
theorem laneStopAndStatus : Obligations.LaneStopAndStatus := by
  refine ⟨fun s l p run pages uid a hl hp hop ho hr hn hread hm ha c hc => ?_, fun s tag lane h => ⟨fun hn =>
    ⟨exec_laneStop_no_lane h hn, exec_laneStatus_no_lane h hn⟩, ?_⟩⟩
  · obtain ⟨hport, hlanes, hlink, hrec, hjoin⟩ := orphanReadEnd_releases (run := run) hp hr hread hm ha
    have hrun : exec c s = .next ((eraserStep (mountIfWaiting (orphanReadEnd p run pages s))).seenSince s) ∧
        clientOf p.purpose = .lane l := by
      rcases hc with ⟨rfl, hpurpose⟩ | ⟨rfl, hpurpose⟩
      · exact ⟨by rw [exec_laneReadDone hl hp hop hn hpurpose, if_pos ho], by rw [hpurpose]; rfl⟩
      · exact ⟨by rw [exec_laneHeaderReadDone hl hp hop hn hpurpose, if_pos ho], by rw [hpurpose]; rfl⟩
    obtain ⟨hexec, hclient⟩ := hrun
    rw [hclient] at hjoin
    exact ⟨_, hexec, by simpa using hport, by simpa using hlanes, by simpa using hlink, by simpa using hrec,
      by simpa using hjoin⟩
  · rintro l rfl r
    refine ⟨exec_laneStatus h l (s.lane l).info_eq, fun hidle => ?_, fun hstill => ?_, fun hactive => ?_⟩
    · exact exec_laneStop_idle h l hidle
    · exact exec_laneStop_still h l hstill
    · obtain ⟨t, hexec, hlane, hother, hdecoding, hreleased, hlink⟩ :=
        exec_laneStop_active h l ((s.lane l).active_iff.2 hactive)
      refine ⟨t, hexec, ?_⟩
      rw [hlane]
      exact ⟨rfl, rfl, rfl, rfl, rfl, rfl, rfl, rfl, rfl, rfl, rfl, hother, hdecoding, hreleased, hlink⟩

end Sys2Proof.Machine
end

section
/-!
LANE_PLAY (R65, R66, R67): the clip a title names, the order of the refusals, and the lane as it begins to prime.
-/

namespace Sys2Proof.Machine

open Sys2Proof

@[simp] theorem EndAction.ofCode_code (e : EndAction) : EndAction.ofCode e.code = some e := by
  cases e <;> rfl

theorem EndAction.ofCode_eq_none {n : Nat} (h : 4 ≤ n) : EndAction.ofCode n = none := by
  match n, h with
  | _ + 4, _ => rfl

/-! ### The clip of a title (R65) -/

theorem Catalog.clipOf_eq_none {c : Catalog} {title : Nat} (h : ∀ x ∈ c.titles, x.number = title → x.clipKey = 0) :
    c.clipOf title = none := by
  unfold Catalog.clipOf
  cases hx : c.liveTitle title with
  | none => rfl
  | some x =>
    have hnumber : x.number = title := by simpa using List.find?_some hx
    exact if_pos (h x (List.mem_of_find?_eq_some hx) hnumber)

theorem Catalog.clipOf_eq_some {c : Catalog} {title : Nat} {x : TitleRec} {a : Asset}
    (hx : c.titles.find? (·.number == title) = some x) (hk : x.clipKey ≠ 0)
    (ha : c.pool.find? (fun a => a.inLive && a.key == x.clipKey) = some a) : c.clipOf title = some a := by
  rw [Catalog.clipOf, Catalog.liveTitle, hx]
  exact (if_neg hk).trans ha

/-! ### The start of a lane (R66, R67) -/

section Start

variable (l : Fin 3) (tag title : Nat) (clock : Fin 2) (e : EndAction) (loops stall : Nat) (a : Asset) (s : State)

theorem startLane_eq : startLane l tag title clock e loops stall a s = { s with
    lanes := { s.lanes with
      lane := s.lanes.lane.set l (primedLane tag title clock e loops stall a.uid (headerRuns a)) }
    catalog := s.catalog.modify a.uid fun a => { a with readers := a.readers + 1 }
    store := match headerRuns a with
      | r :: _ => s.store.place (.laneHeader l) .lane (.pageRead r)
      | [] => s.store } := by
  unfold startLane
  cases headerRuns a <;> rfl

@[simp] theorem startLane_lane : (startLane l tag title clock e loops stall a s).lane l =
    primedLane tag title clock e loops stall a.uid (headerRuns a) := by
  rw [startLane_eq]
  exact Three.get_set_same _ l _

theorem startLane_lane_other {m : Fin 3} (h : m ≠ l) :
    (startLane l tag title clock e loops stall a s).lane m = s.lane m := by
  rw [startLane_eq]
  simp [State.lane, Three.get_set, h]

/-- The clip's record has one reader more (R66, R107). -/
theorem startLane_reader {b : Asset} (hb : b ∈ (startLane l tag title clock e loops stall a s).catalog.pool)
    (hu : b.uid = a.uid) : ∃ c ∈ s.catalog.pool, c.uid = a.uid ∧ b = { c with readers := c.readers + 1 } := by
  rw [startLane_eq] at hb
  obtain ⟨c, hc, rfl⟩ := List.mem_map.1 hb
  by_cases h : c.uid = a.uid
  · exact ⟨c, hc, h, if_pos h⟩
  · rw [if_neg h] at hu
    exact absurd hu h

/-- The first run of the header read is placed in class LANE, and nothing else of the store changes (R67, R148). -/
theorem startLane_places {run : Run} {more : List Run} (h : headerRuns a = run :: more) :
    s.store.placed (.laneHeader l) .lane (.pageRead run) (startLane l tag title clock e loops stall a s).store ∧
      (startLane l tag title clock e loops stall a s).store = { s.store with
        arbiter := (startLane l tag title clock e loops stall a s).store.arbiter
        heldBack := (startLane l tag title clock e loops stall a s).store.heldBack } := by
  have hstore : (startLane l tag title clock e loops stall a s).store =
      s.store.place (.laneHeader l) .lane (.pageRead run) := by
    rw [startLane_eq, h]
  obtain ⟨_, _, hframe⟩ := Store.place_frame (.laneHeader l) .lane (.pageRead run) s.store
  rw [hstore]
  exact ⟨Store.place_placed _ _ _ _, by rw [hframe]⟩

end Start

/-! ### The request (R65) -/

theorem Store.reads_iff (st : Store) : st.reads = true ↔ st.state = .online ∨ st.state = .readOnly := by
  simp [Store.reads]

theorem Store.reads_eq_false_iff (st : Store) :
    st.reads = false ↔ st.state = .offline ∨ st.state = .absent ∨ st.state = .mounting := by
  cases h : st.state <;> simp [Store.reads, h]

section Requests

variable {s : State} {tag : Nat} (h : s.takes tag)
include h

theorem exec_lanePlay_outOfRange {lane clock action : Nat} (loops title stall : Nat)
    (hr : 3 ≤ lane ∨ 2 ≤ clock ∨ 4 ≤ action) :
    exec (.lanePlay tag lane clock action loops title stall) s = .next (answered 0x40 tag .badParam [] s) := by
  refine request_answered h rfl ?_
  rcases hr with hr | hr | hr
  · rw [lanePlayOwner, laneOf_eq_none hr]
  · rw [lanePlayOwner, screenOf_eq_none hr]
    cases laneOf lane <;> rfl
  · rw [lanePlayOwner, EndAction.ofCode_eq_none hr]
    cases laneOf lane <;> cases screenOf clock <;> rfl

variable (l : Fin 3) (i : Fin 2) (e : EndAction) (loops title stall : Nat)

theorem exec_lanePlay_busy (ha : (s.lane l).active = true) :
    exec (.lanePlay tag l i e.code loops title stall) s = .next (answered 0x40 tag .busy [] s) :=
  request_answered h rfl (by simp [lanePlayOwner, ha])

variable (ha : (s.lane l).active = false)
include ha

theorem exec_lanePlay_noSuch (hc : s.catalog.clipOf title = none) :
    exec (.lanePlay tag l i e.code loops title stall) s = .next (answered 0x40 tag .noSuch [] s) :=
  request_answered h rfl (by simp [lanePlayOwner, ha, hc])

variable {a : Asset} (hc : s.catalog.clipOf title = some a)
include hc

theorem exec_lanePlay_damaged (hd : a.damaged = true) :
    exec (.lanePlay tag l i e.code loops title stall) s = .next (answered 0x40 tag .damaged [] s) :=
  request_answered h rfl (by simp [lanePlayOwner, ha, hc, hd])

variable (hd : a.damaged = false)
include hd

theorem exec_lanePlay_notNow (hr : s.running i = false) :
    exec (.lanePlay tag l i e.code loops title stall) s = .next (answered 0x40 tag .notNow [] s) :=
  request_answered h rfl (by simp [lanePlayOwner, ha, hc, hd, hr])

variable (hr : s.running i = true)
include hr

theorem exec_lanePlay_storeOffline (hs : s.store.reads = false) :
    exec (.lanePlay tag l i e.code loops title stall) s = .next (answered 0x40 tag .storeOffline [] s) :=
  request_answered h rfl (by simp [lanePlayOwner, ha, hc, hd, hr, hs])

theorem exec_lanePlay_accepted (hs : s.store.reads = true) :
    exec (.lanePlay tag l i e.code loops title stall) s =
      .next ((startLane l tag title i e loops stall a (holdPlace s)).seenSince s) := by
  have howner : lanePlayOwner tag l i e.code loops title stall (holdPlace s) =
      startLane l tag title i e loops stall a (holdPlace s) := by
    simp [lanePlayOwner, ha, hc, hd, hr, hs]
  rw [← howner]
  exact request_of_takes h

end Requests

/-- Settles O53: the refusals in the order of R65, then the lane as it begins to prime. -/
theorem lanePlayIsCheckedAndPrimes : Obligations.LanePlayIsCheckedAndPrimes := by
  intro s tag lane clock action loops title stall h play refuse
  refine ⟨exec_lanePlay_outOfRange h loops title stall, ?_⟩
  rintro l i e rfl rfl rfl
  refine ⟨fun hactive => exec_lanePlay_busy h l i e loops title stall ((s.lane l).active_iff.2 hactive), fun hs => ?_⟩
  have ha := (s.lane l).active_eq_false_iff.2 hs
  refine ⟨fun hno => exec_lanePlay_noSuch h l i e loops title stall ha (Catalog.clipOf_eq_none hno), fun x a hx hk hfind => ?_⟩
  have hc := Catalog.clipOf_eq_some hx hk hfind
  refine ⟨exec_lanePlay_damaged h l i e loops title stall ha hc, fun hd =>
    ⟨exec_lanePlay_notNow h l i e loops title stall ha hc hd, fun hr => ⟨fun hoff =>
      exec_lanePlay_storeOffline h l i e loops title stall ha hc hd hr (s.store.reads_eq_false_iff.2 hoff), fun hon => ?_⟩⟩⟩
  refine ⟨_, primedLane tag title i e loops stall a.uid (headerRuns a),
    exec_lanePlay_accepted h l i e loops title stall ha hc hd hr (s.store.reads_iff.2 hon), ?_, ?_⟩
  · exact (State.lane_seenSince _ _ _).trans (startLane_lane l tag title i e loops stall a (holdPlace s))
  · refine ⟨rfl, rfl, rfl, rfl, rfl, rfl, rfl, rfl, rfl, rfl, rfl, rfl, rfl, rfl, rfl, rfl, rfl, rfl, rfl, rfl, rfl, rfl, rfl,
      rfl, ?_, ?_, ?_, ?_, ?_, ?_, ?_⟩
    · intro m hm
      rw [State.lane_seenSince, startLane_lane_other _ _ _ _ _ _ _ _ _ hm, holdPlace_lane]
    · intro b hb hu
      rw [State.seenSince_catalog] at hb
      exact startLane_reader l tag title i e loops stall a (holdPlace s) hb hu
    · intro run more hruns
      have hplaced := startLane_places l tag title i e loops stall a (holdPlace s) (run := run) (more := more) hruns
      have hheader : (primedLane tag title i e loops stall a.uid (run :: more)).header = some { rest := more, data := [] } :=
        rfl
      have hruns' : headerRuns a = run :: more := hruns
      exact ⟨by rw [hruns', hheader], by simpa using hplaced⟩
    · simp [startLane_eq]
    · simp [startLane_eq]
    · simp [startLane_eq]
    · simp [startLane_eq]

end Sys2Proof.Machine
end

section
/-!
The lanes at a VBLANK of their clock screen (R68, R76 to R79, R81, R82): the cues of the pictures that leave a queue, what each kind of
step leaves of the lane's record, and the whole command.
-/

namespace Sys2Proof.Machine

open Sys2Proof

/-! ### Cues (R78) -/

theorem cueNotice_eq_setLink (l : Fin 3) (passed : Bool) (p : LanePicture) (s : State) :
    cueNotice l passed p s = s.setLink (cueNotice l passed p s).link := by
  unfold cueNotice
  split
  · rfl
  · exact notice_eq_setLink _ _ _

theorem notice_setLane (kind : Nat) (payload : List Byte) (s : State) (l : Fin 3) (r : Lane) :
    notice kind payload (s.setLane l r) = (notice kind payload s).setLane l r := by
  unfold notice
  rw [State.setLane_link]
  split <;> rfl

theorem cueNotice_setLane (l m : Fin 3) (passed : Bool) (p : LanePicture) (s : State) (r : Lane) :
    cueNotice l passed p (s.setLane m r) = (cueNotice l passed p s).setLane m r := by
  unfold cueNotice
  split
  · rfl
  · exact notice_setLane _ _ s m r

/-- The cues of pictures that leave the queue together: the passed ones first, then the one that is shown (R78). -/
def sendCues (l : Fin 3) (due : List LanePicture) (s : State) : State :=
  due.getLast?.toList.foldl (fun s p => cueNotice l false p s) (due.dropLast.foldl (fun s p => cueNotice l true p s) s)

theorem foldl_cueNotice_eq_setLink (l : Fin 3) (passed : Bool) (ps : List LanePicture) (s : State) :
    ∃ lk, ps.foldl (fun s p => cueNotice l passed p s) s = s.setLink lk := by
  induction ps generalizing s with
  | nil => exact ⟨s.link, rfl⟩
  | cons p ps ih =>
    obtain ⟨lk, h⟩ := ih (cueNotice l passed p s)
    rw [List.foldl_cons, h, cueNotice_eq_setLink]
    exact ⟨lk, rfl⟩

theorem foldl_cueNotice_setLane (l m : Fin 3) (passed : Bool) (ps : List LanePicture) (s : State) (r : Lane) :
    ps.foldl (fun s p => cueNotice l passed p s) (s.setLane m r) =
      (ps.foldl (fun s p => cueNotice l passed p s) s).setLane m r := by
  induction ps generalizing s with
  | nil => rfl
  | cons p ps ih => rw [List.foldl_cons, List.foldl_cons, cueNotice_setLane, ih]

theorem sendCues_eq_setLink (l : Fin 3) (due : List LanePicture) (s : State) :
    sendCues l due s = s.setLink (sendCues l due s).link := by
  obtain ⟨a, ha⟩ := foldl_cueNotice_eq_setLink l true due.dropLast s
  obtain ⟨b, hb⟩ := foldl_cueNotice_eq_setLink l false due.getLast?.toList (s.setLink a)
  rw [sendCues, ha, hb]
  rfl

theorem sendCues_setLane (l m : Fin 3) (due : List LanePicture) (s : State) (r : Lane) :
    sendCues l due (s.setLane m r) = (sendCues l due s).setLane m r := by
  rw [sendCues, foldl_cueNotice_setLane, foldl_cueNotice_setLane]
  rfl

/-- Cues change the Link alone (R78). -/
theorem sendCues_frame (l : Fin 3) (due : List LanePicture) (s : State) : (sendCues l due s).lanes = s.lanes ∧
    (sendCues l due s).store = s.store ∧ (sendCues l due s).catalog = s.catalog := by
  rw [sendCues_eq_setLink]
  exact ⟨rfl, rfl, rfl⟩

/-! ### What a VBLANK's work leaves of a lane's record (R68, R77, R79, R81) -/

/-- The record at the tentative clock, the due pictures gone from the queue and the last of them on show (R77). -/
def Lane.shownAt (clock : Nat) (r : Lane) : Lane :=
  { r with
    clock := clock
    onShow := (r.queue.takeWhile fun p => p.time ≤ clock).getLast?.or r.onShow
    queue := r.queue.drop (r.queue.takeWhile fun p => p.time ≤ clock).length }

/-- The record of a lane whose clip has ended, by its end action (R81). -/
def Lane.clipEnded (r : Lane) : Lane :=
  let q : Lane := { r with endedReason := r.endReason }
  match r.endAction with
  | .freeze => q.tornDown .ended true
  | .loop => { q with endAction := .freeze : Lane }.tornDown .ended true
  | .poster => q.tornDown .ended false
  | .clear => q.tornDown .idle false

/-- The record of a PLAYING lane after a VBLANK with frame period `f` (R77). -/
def Lane.played (f : Nat) (r : Lane) : Lane :=
  let c := hold48 (r.clock + f)
  if r.starves c then { r with state := .starved, stallTimer := some r.stallLimit }
  else if (r.shownAt c).atEnd then (r.shownAt c).clipEnded else r.shownAt c

/-- The record of a primed lane that begins to play (R68). -/
def Lane.entered (r : Lane) : Lane :=
  match r.queue with
  | p :: rest => { r with state := .playing, clock := p.time, onShow := some p, queue := rest, ready := false, pendingTag := none }
  | [] => r

/-- The record of a lane after a VBLANK of its clock screen (R68, R77, R79). -/
def Lane.atVblank (f : Nat) (r : Lane) : Lane :=
  match r.state with
  | .playing => r.played f
  | .priming => if r.ready then r.entered else r
  | .starved => if r.ready then { r with state := .playing, ready := false : Lane }.played f else r
  | _ => r

/-! ### The end of a clip (R81) -/

section ClipEnd

variable (l : Fin 3) (s : State)

/-- A clip's end is LANE_ENDED, then a teardown of the lane with its end action settled (R81, R82). -/
theorem clipEnd_eq : ∃ (r : Lane) (goal : LaneState) (keepShow : Bool),
    clipEnd l s = teardown l goal keepShow ((laneEndedNotice l (s.lane l).endReason s).setLane l r) ∧
      r.clip = (s.lane l).clip ∧ r.tornDown goal keepShow = (s.lane l).clipEnded := by
  have hnotice : ∀ r, laneEndedNotice l (s.lane l).endReason (s.setLane l r) =
      (laneEndedNotice l (s.lane l).endReason s).setLane l r := notice_setLane _ _ s l
  unfold clipEnd Lane.clipEnded
  dsimp only
  rw [hnotice]
  cases he : (s.lane l).endAction with
  | loop =>
    refine ⟨{ s.lane l with endedReason := (s.lane l).endReason, endAction := .freeze }, .ended, true, ?_, rfl, rfl⟩
    dsimp only
    rw [State.setLane_setLane, State.lane_setLane]
  | freeze => exact ⟨_, .ended, true, rfl, rfl, rfl⟩
  | poster => exact ⟨_, .ended, false, rfl, rfl, rfl⟩
  | clear => exact ⟨_, .idle, false, rfl, rfl, rfl⟩

@[simp] theorem clipEnd_lane : (clipEnd l s).lane l = (s.lane l).clipEnded := by
  obtain ⟨r, goal, keepShow, h, -, hr⟩ := clipEnd_eq l s
  rw [h, teardown_lane, State.lane_setLane, hr]

theorem clipEnd_lane_other {m : Fin 3} (hm : m ≠ l) : (clipEnd l s).lane m = s.lane m := by
  obtain ⟨r, goal, keepShow, h, -, -⟩ := clipEnd_eq l s
  rw [h, teardown_lane_other _ _ _ _ hm, State.lane_setLane_other _ _ hm]
  exact notice_lane _ _ _ _

theorem clipEnd_link : (clipEnd l s).link = (laneEndedNotice l (s.lane l).endReason s).link := by
  obtain ⟨r, goal, keepShow, h, -, -⟩ := clipEnd_eq l s
  rw [h, teardown_link, State.setLane_link]

theorem readerReleased_clipEnd : readerReleased l s (clipEnd l s) := by
  obtain ⟨r, goal, keepShow, h, hclip, -⟩ := clipEnd_eq l s
  rw [h]
  exact (readerReleased_teardown l goal keepShow _).congr (by rw [State.lane_setLane, hclip])
    (by simp [laneEndedNotice]) (by simp [laneEndedNotice]) rfl rfl

end ClipEnd

/-! ### A PLAYING lane (R77) -/

section Play

variable {f : Nat} {l : Fin 3} {s : State}

/-- A lane that starves has nothing queued and clip left, so it is not ready at once (R77 step 2, R79). -/
theorem playStep_starves (h : (s.lane l).starves (hold48 ((s.lane l).clock + f)) = true) :
    playStep f l s = s.setLane l { s.lane l with state := .starved, stallTimer := some (s.lane l).stallLimit } := by
  have hempty := h
  simp only [Lane.starves, Bool.and_eq_true, List.isEmpty_iff, Bool.not_eq_true'] at hempty
  obtain ⟨⟨hqueue, hpast⟩, -⟩ := hempty
  rw [playStep, if_pos h, Lane.readyTest_of_not_primed]
  rintro (⟨hs, -⟩ | ⟨-, hlen | hend⟩)
  · cases hs
  · dsimp only at hlen
    rw [hqueue] at hlen
    cases hlen
  · exact Bool.noConfusion (hend.symm.trans hpast)

theorem playStep_shows (h : (s.lane l).starves (hold48 ((s.lane l).clock + f)) = false) :
    playStep f l s =
      let r := (s.lane l).shownAt (hold48 ((s.lane l).clock + f))
      let t := (sendCues l ((s.lane l).queue.takeWhile fun p => p.time ≤ hold48 ((s.lane l).clock + f)) s).setLane l r
      if r.atEnd then clipEnd l t else t := by
  unfold playStep
  dsimp only
  rw [if_neg (by rw [h]; decide), Lane.shownAt, sendCues]
  cases ((s.lane l).queue.takeWhile fun p => p.time ≤ hold48 ((s.lane l).clock + f)).getLast? with
  | none => simp only [foldl_cueNotice_setLane, Option.none_or, Option.toList, List.foldl_nil] <;> rfl
  | some p =>
    simp only [foldl_cueNotice_setLane, cueNotice_setLane, Option.some_or, Option.toList, List.foldl_cons, List.foldl_nil] <;>
      rfl

theorem playStep_lane : (playStep f l s).lane l = (s.lane l).played f := by
  unfold Lane.played
  by_cases h : (s.lane l).starves (hold48 ((s.lane l).clock + f)) = true
  · rw [playStep_starves h, State.lane_setLane]
    exact (if_pos h).symm
  · rw [playStep_shows (by simpa using h)]
    dsimp only
    rw [if_neg h]
    split
    · rw [clipEnd_lane, State.lane_setLane]
    · rw [State.lane_setLane]

theorem playStep_lane_other {m : Fin 3} (hm : m ≠ l) : (playStep f l s).lane m = s.lane m := by
  have hcues : ∀ due, (sendCues l due s).lane m = s.lane m := fun due => by
    rw [State.lane, (sendCues_frame l due s).1]; rfl
  cases h : (s.lane l).starves (hold48 ((s.lane l).clock + f)) with
  | true => rw [playStep_starves h, State.lane_setLane_other _ _ hm]
  | false =>
    rw [playStep_shows h]
    dsimp only
    split
    · rw [clipEnd_lane_other _ _ hm, State.lane_setLane_other _ _ hm, hcues]
    · rw [State.lane_setLane_other _ _ hm, hcues]

end Play

/-! ### A lane that begins to play (R68) -/

section Enter

variable {l : Fin 3} {s : State}

/-- A lane with a picture queued shows it, and answers its LANE_PLAY with the clip description (R66, R68). -/
theorem enterPlaying_cons {p : LanePicture} {rest : List LanePicture} (hq : (s.lane l).queue = p :: rest) :
    enterPlaying l s = answerPlay l .ok
      (beBytes 2 (s.lane l).desc.width ++ beBytes 2 (s.lane l).desc.height ++ beBytes 2 (s.lane l).desc.period ++
        beBytes 2 (s.lane l).desc.units)
      ((cueNotice l false p s).setLane l
        { s.lane l with state := .playing, clock := p.time, onShow := some p, queue := rest, ready := false }) := by
  rw [← cueNotice_setLane]
  simp only [enterPlaying, hq]

theorem enterPlaying_nil (hq : (s.lane l).queue = []) : enterPlaying l s = s := by
  simp only [enterPlaying, hq]

theorem enterPlaying_lane : (enterPlaying l s).lane l = (s.lane l).entered := by
  cases hq : (s.lane l).queue with
  | nil => rw [enterPlaying_nil hq, Lane.entered, hq]
  | cons p rest => rw [enterPlaying_cons hq, answerPlay_lane, State.lane_setLane, Lane.entered, hq]

theorem enterPlaying_lane_other {m : Fin 3} (hm : m ≠ l) : (enterPlaying l s).lane m = s.lane m := by
  cases hq : (s.lane l).queue with
  | nil => rw [enterPlaying_nil hq]
  | cons p rest =>
    rw [enterPlaying_cons hq, answerPlay_lane_other _ _ _ _ hm, State.lane_setLane_other _ _ hm, cueNotice_eq_setLink]
    rfl

theorem enterPlaying_link {p : LanePicture} {rest : List LanePicture} (hq : (s.lane l).queue = p :: rest) :
    (enterPlaying l s).link = match (s.lane l).pendingTag with
      | some tag => (cueNotice l false p s).link.fillPlace (replyMsg 0x40 tag .ok
          (beBytes 2 (s.lane l).desc.width ++ beBytes 2 (s.lane l).desc.height ++ beBytes 2 (s.lane l).desc.period ++
            beBytes 2 (s.lane l).desc.units) .nothing)
      | none => (cueNotice l false p s).link := by
  rw [enterPlaying_cons hq, answerPlay_link, State.lane_setLane]
  cases (s.lane l).pendingTag <;> rfl

end Enter

/-! ### One lane, and all lanes, at a VBLANK (R77, R97) -/

section Vblank

variable (f : Nat) {l : Fin 3} {s : State}

theorem laneVblank_playing (h : (s.lane l).state = .playing) : laneVblank f l s = playStep f l s := by
  simp only [laneVblank, h]

theorem laneVblank_priming (h : (s.lane l).state = .priming) :
    laneVblank f l s = if (s.lane l).ready then enterPlaying l s else s := by
  simp only [laneVblank, h]

theorem laneVblank_starved (h : (s.lane l).state = .starved) : laneVblank f l s =
    if (s.lane l).ready then playStep f l (s.setLane l { s.lane l with state := .playing, ready := false }) else s := by
  simp only [laneVblank, h]

theorem laneVblank_inactive (h : (s.lane l).state = .idle ∨ (s.lane l).state = .held ∨ (s.lane l).state = .ended) :
    laneVblank f l s = s := by
  rcases h with h | h | h <;> simp only [laneVblank, h]

theorem laneVblank_lane : (laneVblank f l s).lane l = (s.lane l).atVblank f := by
  unfold Lane.atVblank
  cases h : (s.lane l).state with
  | playing => rw [laneVblank_playing f h, playStep_lane]
  | priming =>
    rw [laneVblank_priming f h]
    dsimp only
    split
    · exact enterPlaying_lane
    · rfl
  | starved =>
    rw [laneVblank_starved f h]
    dsimp only
    split
    · rw [playStep_lane, State.lane_setLane]
    · rfl
  | idle => rw [laneVblank_inactive f (.inl h)]
  | held => rw [laneVblank_inactive f (.inr (.inl h))]
  | ended => rw [laneVblank_inactive f (.inr (.inr h))]

theorem laneVblank_lane_other {m : Fin 3} (hm : m ≠ l) : (laneVblank f l s).lane m = s.lane m := by
  cases h : (s.lane l).state with
  | playing => rw [laneVblank_playing f h, playStep_lane_other hm]
  | priming =>
    rw [laneVblank_priming f h]
    split
    · exact enterPlaying_lane_other hm
    · rfl
  | starved =>
    rw [laneVblank_starved f h]
    split
    · rw [playStep_lane_other hm, State.lane_setLane_other _ _ hm]
    · rfl
  | idle => rw [laneVblank_inactive f (.inl h)]
  | held => rw [laneVblank_inactive f (.inr (.inl h))]
  | ended => rw [laneVblank_inactive f (.inr (.inr h))]

end Vblank

/-- Steps that each change one lane's record by itself, over different lanes, change each of these by itself. -/
theorem foldl_lane {act : State → Fin 3 → State} {g : Lane → Lane} (hsame : ∀ s l, (act s l).lane l = g (s.lane l))
    (hother : ∀ s l m, m ≠ l → (act s l).lane m = s.lane m) {ls : List (Fin 3)} (hn : ls.Nodup) (s : State) (l : Fin 3) :
    (ls.foldl act s).lane l = if l ∈ ls then g (s.lane l) else s.lane l := by
  induction ls generalizing s with
  | nil => rfl
  | cons m ms ih =>
    obtain ⟨hm, hms⟩ := List.nodup_cons.1 hn
    rw [List.foldl_cons, ih hms]
    by_cases h : l = m
    · subst h
      rw [if_neg hm, if_pos List.mem_cons_self, hsame]
    · rw [hother s m l h]
      exact if_congr (by simp [h]) rfl rfl

/-- Every lane whose clock screen it is acts by itself, the others stay (R77, R97). -/
theorem lanesVblank_lane (i : Fin 2) (s : State) (l : Fin 3) : (lanesVblank i s).lane l =
    if (s.lane l).clockScreen = i then (s.lane l).atVblank (90000 / (s.screen i).active.rate) else s.lane l := by
  have hmem : l ∈ [(0 : Fin 3), 1, 2] := by revert l; decide
  unfold lanesVblank framePeriod
  rw [foldl_lane (g := fun r => if r.clockScreen = i then r.atVblank (90000 / (s.screen i).active.rate) else r)
    (fun s l => ?_) (fun s l m hm => ?_) (by decide), if_pos hmem]
  · split
    · exact laneVblank_lane _
    · rfl
  · split
    · exact laneVblank_lane_other _ hm
    · rfl

/-- Scanout's work leaves the lanes as they are (R97). -/
theorem scanoutVblank_lanes (i : Fin 2) (s : State) : (scanoutVblank i s).lanes = s.lanes := by
  by_cases hb : (s.screen i).back = .composing
  · rw [scanoutVblank_misses hb]; rfl
  · obtain ⟨_, _, _, _, _, _, _, hscan, -⟩ := scanoutVblank_frame hb
    rw [hscan]

/-- What a VBLANK leaves of each lane, in either order of the two works (R77, R97). -/
theorem vblank_lane {s : State} {i : Fin 2} (hl : s.power.resetLow = false) (hr : s.running i = true)
    (hf : (s.screen i).frameTimer = true) (lanesFirst : Bool) : ∃ t, exec (.vblank i lanesFirst) s = .next t ∧
      ∀ l, t.lane l = if (s.lane l).clockScreen = i then (s.lane l).atVblank (90000 / (s.screen i).active.rate)
        else s.lane l := by
  refine ⟨_, exec_vblank hl hr hf lanesFirst, fun l => ?_⟩
  rw [State.lane_seenSince, eraserStep_lane]
  cases lanesFirst with
  | true =>
    rw [if_pos rfl, State.lane, scanoutVblank_lanes]
    exact lanesVblank_lane i s l
  | false =>
    rw [if_neg (by decide), lanesVblank_lane, scanoutVblank_active, State.lane, scanoutVblank_lanes]
    rfl

end Sys2Proof.Machine
end

section
/-!
PLAYING lanes at a VBLANK (R68, R76 to R79, R81, R82): the conditions of R77 on the lane's record, the end of a clip field by field, and
the statement.
-/

namespace Sys2Proof.Machine

open Sys2Proof

/-! ### The conditions of R77 -/

theorem Lane.pastEnd_iff (r : Lane) :
    r.pastEnd = true ↔ ∃ k, r.finalPass = some k ∧ r.readingStopped = true ∧ k < r.decodePos.pass := by
  unfold Lane.pastEnd
  cases r.finalPass <;> simp

theorem Lane.starves_iff (r : Lane) (clock : Nat) : r.starves clock = true ↔
    r.queue = [] ∧ r.pastEnd = false ∧ displayTime r.desc r.decodePos ≤ clock := by
  simp [Lane.starves, and_assoc]

theorem Lane.atEnd_shownAt_iff (r : Lane) (clock : Nat) : (r.shownAt clock).atEnd = true ↔
    r.queue.drop (r.queue.takeWhile fun p => p.time ≤ clock).length = [] ∧ r.pastEnd = true ∧ r.endTime ≤ clock := by
  have hpast : (r.shownAt clock).pastEnd = r.pastEnd := rfl
  have hend : (r.shownAt clock).endTime = r.endTime := rfl
  rw [Lane.atEnd, hpast, hend, Bool.and_eq_true, Bool.and_eq_true, List.isEmpty_iff, decide_eq_true_eq, and_assoc]
  rfl

/-! ### The end of a clip, field by field (R81) -/

/-- Whatever the end action, the clip and all that was read of it are gone, and the ended reason is the end reason (R81, R82). -/
theorem Lane.clipEnded_clears (r : Lane) : r.clipEnded.endedReason = r.endReason ∧ r.clipEnded.ring = [] ∧
    r.clipEnded.queue = [] ∧ r.clipEnded.clip = none ∧ r.clipEnded.clock = r.clock ∧ r.clipEnded.fill = 0 ∧
    r.clipEnded.index = [] := by
  unfold Lane.clipEnded
  cases r.endAction <;> exact ⟨rfl, rfl, rfl, rfl, rfl, rfl, rfl⟩

/-- FREEZE and LOOP end with the picture kept and the end action FREEZE (R81). -/
theorem Lane.clipEnded_freezes {r : Lane} (h : r.endAction = .freeze ∨ r.endAction = .loop) :
    r.clipEnded.state = .ended ∧ r.clipEnded.onShow = r.onShow ∧ r.clipEnded.endAction = .freeze ∧
      r.clipEnded.title = r.title := by
  rcases h with h | h <;> simp [Lane.clipEnded, Lane.tornDown, h]

theorem Lane.clipEnded_poster {r : Lane} (h : r.endAction = .poster) : r.clipEnded.state = .ended ∧
    r.clipEnded.onShow = none ∧ r.clipEnded.endAction = .poster ∧ r.clipEnded.title = r.title := by
  simp [Lane.clipEnded, Lane.tornDown, h]

theorem Lane.clipEnded_clear {r : Lane} (h : r.endAction = .clear) :
    r.clipEnded.state = .idle ∧ r.clipEnded.onShow = none ∧ r.clipEnded.title = 0 := by
  simp [Lane.clipEnded, Lane.tornDown, h]

/-! ### A PLAYING lane within 48 bits (R63, R77) -/

section Play

variable {f : Nat} {l : Fin 3} {s : State} (hp : (s.lane l).state = .playing) (hc : (s.lane l).clock + f < 2 ^ 48)
include hp hc

theorem laneVblank_starves (h : (s.lane l).starves ((s.lane l).clock + f) = true) :
    laneVblank f l s = s.setLane l { s.lane l with state := .starved, stallTimer := some (s.lane l).stallLimit } := by
  have hhold : hold48 ((s.lane l).clock + f) = (s.lane l).clock + f := if_pos hc
  rw [laneVblank_playing f hp, playStep_starves (by rw [hhold]; exact h)]

/-- A PLAYING lane that does not starve takes the tentative clock, shows what is due, and may be at its end then (R77). -/
theorem laneVblank_shows (h : ¬ (s.lane l).starves ((s.lane l).clock + f) = true) :
    laneVblank f l s =
      let r := (s.lane l).shownAt ((s.lane l).clock + f)
      let t := (sendCues l ((s.lane l).queue.takeWhile fun p => p.time ≤ (s.lane l).clock + f) s).setLane l r
      if r.atEnd then clipEnd l t else t := by
  have hhold : hold48 ((s.lane l).clock + f) = (s.lane l).clock + f := if_pos hc
  rw [laneVblank_playing f hp, playStep_shows (by rw [hhold]; simpa using h), hhold]

end Play

/-- A lane's work leaves the screens, the plans and the cache alone. -/
theorem laneVblank_frame (f : Nat) (l : Fin 3) (s : State) : (laneVblank f l s).screens = s.screens ∧
    (laneVblank f l s).plans = s.plans ∧ (laneVblank f l s).cache = s.cache := by
  obtain ⟨_, _, _, _, h, -⟩ := laneWork_laneVblank f l s
  rw [h]
  exact ⟨rfl, rfl, rfl⟩

/-- Settles O57: the VBLANK lane by lane, the times of R76, and the work of one lane by its state. -/
theorem playingLanesShowTheDuePicture : Obligations.PlayingLanesShowTheDuePicture := by
  refine ⟨fun s i lanesFirst hl hr hf => ?_, fun d q h => if_pos h, fun r => ⟨r.pastEnd_iff, fun k hk h => ?_⟩, ?_⟩
  · obtain ⟨t, hexec, hlane⟩ := vblank_lane hl hr hf lanesFirst
    refine ⟨t, hexec, fun l => ⟨fun hc => ?_, fun hc => ?_⟩⟩
    · rw [hlane, if_pos hc, laneVblank_lane]
    · rw [hlane, if_neg hc]
  · rw [Lane.endTime, hk]
    exact if_pos h
  intro s l f r t due left shown cue cues
  have hcues : cues = sendCues l due s := rfl
  obtain ⟨-, hstore, hcatalog⟩ := sendCues_frame l due s
  obtain ⟨hscreens, hplans, hcache⟩ := laneVblank_frame f l s
  refine ⟨?playing, ?priming, ?starved, laneVblank_inactive f, hscreens, hplans, hcache,
    fun m hm => laneVblank_lane_other f hm⟩
  case playing =>
    intro hp hc starves ends
    have hstarves := r.starves_iff (r.clock + f)
    have hends := r.atEnd_shownAt_iff (r.clock + f)
    refine ⟨List.prefix_iff_eq_append.1 (List.takeWhile_prefix _), fun h => laneVblank_starves hp hc (hstarves.2 h),
      fun hs he => ?_, fun hs he => ?_⟩
    · have ht := laneVblank_shows hp hc (mt hstarves.1 hs)
      dsimp only at ht
      rw [if_neg (mt hends.1 he), sendCues_eq_setLink] at ht
      exact ht
    · have ht : t = clipEnd l ((sendCues l due s).setLane l (r.shownAt (r.clock + f))) :=
        (laneVblank_shows hp hc (mt hstarves.1 hs)).trans (if_pos (hends.2 he))
      have hlane : t.lane l = (r.shownAt (r.clock + f)).clipEnded := by rw [ht, clipEnd_lane, State.lane_setLane]
      have hreleased : readerReleased l s t := by
        rw [ht]
        exact (readerReleased_clipEnd l ((sendCues l due s).setLane l (r.shownAt (r.clock + f)))).congr
          (by rw [State.lane_setLane]; rfl) hstore.symm hcatalog.symm rfl rfl
      have hlink : t.link = (laneEndedNotice l r.endReason cues).link := by
        rw [ht, clipEnd_link, State.lane_setLane]
        exact notice_link_congr _ _ rfl
      obtain ⟨hreason, hring, hqueue, hclip, hclock, hfill, hindex⟩ := (r.shownAt (r.clock + f)).clipEnded_clears
      rw [hlane]
      refine ⟨hreason, hring, hqueue, hclip, hreleased, hclock, hfill, hindex, fun h => Lane.clipEnded_freezes h,
        fun h => Lane.clipEnded_poster h, fun h => Lane.clipEnded_clear h, hlink.trans ?_⟩
      unfold laneEndedNotice
      rcases r.endReason with _ | _ | _ | _ <;> rfl
  case priming =>
    intro hp
    have ht := laneVblank_priming f hp
    refine ⟨fun hr => ht.trans (if_neg (by rw [hr]; decide)), fun p rest hr hq => ?_⟩
    have hplays : t = enterPlaying l s := ht.trans (if_pos hr)
    rw [hplays, enterPlaying_lane, enterPlaying_link hq]
    exact ⟨by rw [Lane.entered, hq], rfl⟩
  case starved =>
    intro hp
    have ht := laneVblank_starved f hp
    refine ⟨fun hr => ht.trans (if_neg (by rw [hr]; decide)), fun hr => ht.trans ((if_pos hr).trans ?_)⟩
    exact (laneVblank_playing f (by rw [State.lane_setLane])).symm

end Sys2Proof.Machine
end

section
/-!
The clip decoder and the decode position (R68, R73 to R76, R79, R80): which unit stands at the decode position, skipping, what a lane
does with what has reached its decode position, the decoder's start and end, and the stall timer.
-/

namespace Sys2Proof.Machine

open Sys2Proof

/-! ### Readiness, read off a record (R68, R79) -/

/-- The readiness test writes the ready mark and the stall timer (R68, R79). -/
theorem Lane.readyTest_eq (r : Lane) {d : Decidable (r.ready = true ∨ r.primed)} {e : Decidable (r.ready = false ∧ r.primed)} :
    r.readyTest = { r with
      ready := decide (r.ready = true ∨ r.primed)
      stallTimer := if r.ready = false ∧ r.primed then none else r.stallTimer } := by
  by_cases h : r.ready = false ∧ r.primed
  · obtain ⟨hr, hp⟩ := h
    rw [Lane.readyTest_of_primed hp hr, if_pos ⟨hr, hp⟩, decide_eq_true (.inr hp)]
  · have hready : decide (r.ready = true ∨ r.primed) = r.ready := by
      rw [Bool.eq_iff_iff, decide_eq_true_iff]
      exact ⟨fun h' => h'.elim id fun hp => by simpa [hp] using h, .inl⟩
    have htest : r.readyTest = r := by
      by_cases hp : r.primed
      · exact Lane.readyTest_of_ready (by simpa [hp] using h)
      · exact Lane.readyTest_of_not_primed hp
    rw [if_neg h, hready, htest]

theorem Lane.readyTest_ready (r : Lane) : r.readyTest.ready = true ↔ r.ready = true ∨ r.primed := by
  rw [@Lane.readyTest_eq r (Classical.propDecidable _) (Classical.propDecidable _)]
  exact @decide_eq_true_iff _ (Classical.propDecidable _)

/-- A lane that becomes ready has its stall timer stopped (R68, R79). -/
theorem Lane.readyTest_stallTimer {r : Lane} (hr : r.ready = false) (h : r.readyTest.ready = true) :
    r.readyTest.stallTimer = none := by
  have hp : r.primed := (r.readyTest_ready.1 h).resolve_left (by rw [hr]; decide)
  rw [Lane.readyTest_of_primed hp hr]

/-- A lane in PRIMING or STARVED with a picture queued is ready at two pictures or past the end (R68, R79). -/
theorem Lane.primed_iff {r : Lane} (hs : r.state = .priming ∨ r.state = .starved) (hq : 1 ≤ r.queue.length) :
    r.primed ↔ 2 ≤ r.queue.length ∨ r.pastEnd = true := by
  rcases hs with hs | hs <;> simp [Lane.primed, hs, hq]

theorem Lane.not_primed_of_playing {r : Lane} (hs : r.state = .playing) : ¬ r.primed := by
  simp [Lane.primed, hs]

/-! ### The unit at the decode position (R73) -/

theorem Lane.headUnit_iff (r : Lane) (u : RingUnit) : r.headUnit = some u ↔
    r.ring.head? = some u ∧ u.arrived = true ∧ u.unit = r.decodePos.unit ∧ u.pass = r.decodePos.pass := by
  unfold Lane.headUnit
  cases r.ring with
  | nil => simp
  | cons v ring =>
    simp only [List.head?_cons, Option.some.injEq]
    split
    · rename_i h
      simp only [Bool.and_eq_true, beq_iff_eq, and_assoc] at h
      exact ⟨by rintro ⟨⟩; exact ⟨rfl, h⟩, fun h' => by rw [h'.1]⟩
    · rename_i h
      simp only [Bool.and_eq_true, beq_iff_eq, and_assoc] at h
      exact ⟨fun h' => (by cases h'), by rintro ⟨rfl, h'⟩; exact absurd h' h⟩

theorem Lane.eligible_iff (r : Lane) : r.eligible = true ↔ r.active = true ∧ r.skipping = false ∧ r.queue.length < 4 ∧
    ∃ u e, r.headUnit = some u ∧ r.index[u.unit]? = some e ∧ e.corrupt = false := by
  unfold Lane.eligible
  simp only [Bool.and_eq_true, Bool.not_eq_true', decide_eq_true_eq, and_assoc]
  refine and_congr_right fun _ => and_congr_right fun _ => and_congr_right fun _ => ?_
  cases r.headUnit with
  | none => simp
  | some u => cases he : r.index[u.unit]? <;> simp [he]

theorem nextPos_of_lt {d : ClipDesc} {p : UnitPos} (h : p.pass + 1 < 2 ^ 40) :
    nextPos d p = if p.unit + 1 < d.units then ⟨p.unit + 1, p.pass⟩ else ⟨0, p.pass + 1⟩ := by
  rw [nextPos, hold40, if_pos h]

/-! ### Skipping (R75) -/

/-- The record after the unit `u` at the decode position has been skipped (R75). -/
def Lane.skipUnit (u : RingUnit) (r : Lane) : Lane := ({ r with skipping := true }.consume u).countSkip

theorem Lane.primingFailed_iff (r : Lane) : r.primingFailed = true ↔
    r.state = .priming ∧ r.ready = false ∧ r.queue = [] ∧ 0 < r.decodePos.pass := by
  simp [Lane.primingFailed, and_assoc]

section Skip

variable {n : Nat} {r : Lane}

theorem Lane.skipRun_of_failed (h : r.primingFailed = true) : r.skipRun n = r := by
  cases n with
  | zero => rfl
  | succ n => rw [Lane.skipRun, if_pos h]

theorem Lane.skipRun_of_no_unit (h : r.headUnit = none) : r.skipRun n = r := by
  cases n with
  | zero => rfl
  | succ n =>
    rw [Lane.skipRun, h]
    exact ite_self r

variable {u : RingUnit} {e : UnitEntry}

/-- A corrupt unit, and while the lane skips a DELTA unit, is skipped (R75). -/
theorem Lane.skipRun_skips (hf : r.primingFailed = false) (hu : r.headUnit = some u) (he : r.index[u.unit]? = some e)
    (h : e.corrupt = true ∨ r.skipping = true ∧ e.isKey = false) : r.skipRun (n + 1) = (r.skipUnit u).skipRun n := by
  have hskip : (r.skipping || e.corrupt) = true := by
    rcases h with h | ⟨h, -⟩ <;> simp [h]
  have hkey : (e.isKey && !e.corrupt) = false := by
    rcases h with h | ⟨-, h⟩ <;> simp [h]
  simp only [Lane.skipRun, hf, hu, he, hskip, hkey, Bool.false_eq_true, if_false, if_true]
  rfl

/-- A clean KEY ends the skipping (R75). -/
theorem Lane.skipRun_resumes (hf : r.primingFailed = false) (hu : r.headUnit = some u) (he : r.index[u.unit]? = some e)
    (hs : r.skipping = true) (hc : e.corrupt = false) (hk : e.isKey = true) :
    r.skipRun (n + 1) = { r with skipping := false } := by
  simp [Lane.skipRun, hf, hu, he, hs, hc, hk]

/-- A clean unit stays at the decode position of a lane that does not skip (R75). -/
theorem Lane.skipRun_clean (hu : r.headUnit = some u) (he : r.index[u.unit]? = some e) (hs : r.skipping = false)
    (hc : e.corrupt = false) : r.skipRun n = r := by
  cases n with
  | zero => rfl
  | succ n => simp [Lane.skipRun, hu, he, hs, hc]

theorem Lane.skipRun_of_no_entry (hu : r.headUnit = some u) (he : r.index[u.unit]? = none) : r.skipRun n = r := by
  cases n with
  | zero => rfl
  | succ n => simp [Lane.skipRun, hu, he]

end Skip

/-- Skipping moves the decode position with the ring and its fill, and counts without losing a count (R75). -/
theorem Lane.skipRun_frame (n : Nat) (r : Lane) : ∃ ring fill demand pos skipping count,
    r.skipRun n = { r with ring := ring, fill := fill, demand := demand, decodePos := pos, skipping := skipping, skipped := count } ∧
      (r.skipped ≤ 65535 → r.skipped ≤ count) := by
  have hstay : ∀ r : Lane, ∃ ring fill demand pos skipping count, r = { r with
      ring := ring, fill := fill, demand := demand, decodePos := pos, skipping := skipping, skipped := count } ∧
      (r.skipped ≤ 65535 → r.skipped ≤ count) :=
    fun r => ⟨r.ring, r.fill, r.demand, r.decodePos, r.skipping, r.skipped, rfl, fun _ => le_rfl⟩
  induction n generalizing r with
  | zero => exact hstay r
  | succ n ih =>
    by_cases hf : r.primingFailed = true
    · rw [Lane.skipRun_of_failed hf]; exact hstay r
    cases hu : r.headUnit with
    | none => rw [Lane.skipRun_of_no_unit hu]; exact hstay r
    | some u =>
      cases he : r.index[u.unit]? with
      | none => rw [Lane.skipRun_of_no_entry hu he]; exact hstay r
      | some e =>
        have hf' : r.primingFailed = false := by simpa using hf
        by_cases hskip : e.corrupt = true ∨ r.skipping = true ∧ e.isKey = false
        · rw [Lane.skipRun_skips hf' hu he hskip]
          obtain ⟨ring, fill, demand, pos, skipping, count, h, hcount⟩ := ih (r.skipUnit u)
          rw [h]
          refine ⟨ring, fill, demand, pos, skipping, count, rfl, fun hle => ?_⟩
          have hskipped : (r.skipUnit u).skipped = min 65535 (r.skipped + 1) := rfl
          rw [hskipped] at hcount
          have := hcount (by omega)
          omega
        · obtain ⟨hc, hk⟩ : e.corrupt = false ∧ (r.skipping = true → e.isKey = true) := by
            simpa [not_or] using hskip
          by_cases hs : r.skipping = true
          · rw [Lane.skipRun_resumes hf' hu he hs hc (hk hs)]
            exact ⟨r.ring, r.fill, r.demand, r.decodePos, false, r.skipped, rfl, fun _ => le_rfl⟩
          · rw [Lane.skipRun_clean hu he (by simpa using hs) hc]; exact hstay r

/-! ### What a lane does with its decode position (R68, R73, R75, R79) -/

section Advance

variable {l : Fin 3} {s : State}

/-- A lane whose priming has failed is HELD with cause DAMAGED, whatever the decoder does (R68). -/
theorem laneAdvance_fails (hf : (s.lane l).primingFailed = true) : laneAdvance l s = laneHeld l .damaged .damaged s := by
  have hrun : (if s.lanes.decoding = some l then s.lane l else (s.lane l).skipRun ((s.lane l).ring.length + 1)) = s.lane l := by
    rw [Lane.skipRun_of_failed hf, ite_self]
  rw [laneAdvance, hrun, if_pos hf, State.setLane_self]

/-- While the decoder does not have its unit, a lane skips, gives its priming up or is tested for readiness (R68, R75, R79). -/
theorem laneAdvance_of_free (hd : s.lanes.decoding ≠ some l) : laneAdvance l s =
    let r := (s.lane l).skipRun ((s.lane l).ring.length + 1)
    if r.primingFailed then laneHeld l .damaged .damaged (s.setLane l r) else s.setLane l r.readyTest := by
  simp only [laneAdvance, if_neg hd]

/-- A lane that has nothing to skip is tested for readiness (R68, R79). -/
theorem laneAdvance_tests {r : Lane} (hd : s.lanes.decoding ≠ some l) (hr : (s.lane l).skipRun ((s.lane l).ring.length + 1) = r)
    (hf : r.primingFailed = false) : laneAdvance l s = s.setLane l r.readyTest := by
  rw [laneAdvance_of_free hd, hr]
  simp only [hf, Bool.false_eq_true, if_false]

/-- A unit skipped is one fewer to deal with (R75). -/
theorem laneAdvance_skips {u : RingUnit} (hd : s.lanes.decoding ≠ some l) (hu : (s.lane l).headUnit = some u)
    (h : (s.lane l).skipRun ((s.lane l).ring.length + 1) = ((s.lane l).skipUnit u).skipRun (s.lane l).ring.length) :
    laneAdvance l s = laneAdvance l (s.setLane l ((s.lane l).skipUnit u)) := by
  have hlen : ((s.lane l).skipUnit u).ring.length + 1 = (s.lane l).ring.length := by
    obtain ⟨hhead, -⟩ := ((s.lane l).headUnit_iff u).1 hu
    have hring : ((s.lane l).skipUnit u).ring = (s.lane l).ring.drop 1 := rfl
    rw [hring]
    cases hr : (s.lane l).ring with
    | nil => rw [hr] at hhead; cases hhead
    | cons v vs => rfl
  rw [laneAdvance_of_free hd, laneAdvance_of_free (s := s.setLane l _) (by exact hd), State.lane_setLane, hlen, h]
  simp only [State.setLane_setLane]

/-- A lane that is not priming, or has a picture queued, is not given up: its ring may be skipped on, and it is tested for readiness
(R68, R75, R79). -/
theorem laneAdvance_frame (h : (s.lane l).state ≠ .priming ∨ (s.lane l).queue ≠ []) :
    ∃ ring fill demand pos skipping count, laneAdvance l s = s.setLane l (Lane.readyTest { s.lane l with
        ring := ring, fill := fill, demand := demand, decodePos := pos, skipping := skipping, skipped := count }) ∧
      ((s.lane l).skipped ≤ 65535 → (s.lane l).skipped ≤ count) := by
  obtain ⟨ring, fill, demand, pos, skipping, count, hr, hcount⟩ : ∃ ring fill demand pos skipping count,
      (if s.lanes.decoding = some l then s.lane l else (s.lane l).skipRun ((s.lane l).ring.length + 1)) = { s.lane l with
        ring := ring, fill := fill, demand := demand, decodePos := pos, skipping := skipping, skipped := count } ∧
      ((s.lane l).skipped ≤ 65535 → (s.lane l).skipped ≤ count) := by
    split
    · exact (s.lane l).skipRun_frame 0
    · exact (s.lane l).skipRun_frame _
  refine ⟨ring, fill, demand, pos, skipping, count, ?_, hcount⟩
  rw [laneAdvance, hr]
  have hnot : Lane.primingFailed { s.lane l with
      ring := ring, fill := fill, demand := demand, decodePos := pos, skipping := skipping, skipped := count } ≠ true := by
    rw [Ne, Lane.primingFailed_iff]
    rintro ⟨hp, -, hq, -⟩
    exact h.elim (fun h => h hp) (fun h => h hq)
  exact if_neg hnot

end Advance

/-! ### The decoder's start and end, and the stall timer (R73, R74, R80) -/

/-- The clip decoder becomes idle (R74). -/
def State.decoderIdle (s : State) : State := { s with lanes := { s.lanes with decoding := none } }

@[simp] theorem State.lane_decoderIdle (s : State) (l : Fin 3) : s.decoderIdle.lane l = s.lane l := rfl

/-- The record once the picture `p` of its unit `u` has joined the queue with its display time (R74, R76). -/
def Lane.queued (u : RingUnit) (e : UnitEntry) (p : Picture) (r : Lane) : Lane :=
  let shown : LanePicture :=
    { unit := u.unit, pass := u.pass, cue := e.cue, picture := p
      time := u.pass * r.desc.units * r.desc.period + u.unit * r.desc.period }
  { r with queue := r.queue ++ [shown] }.consume u

theorem Lane.decoded_picture {u : RingUnit} {e : UnitEntry} {p : Picture} {r : Lane} (hw : p.width = r.desc.width)
    (hh : p.height = r.desc.height) (he : r.index[u.unit]? = some e)
    (ht : u.pass * r.desc.units * r.desc.period + u.unit * r.desc.period < 2 ^ 48) :
    r.decoded u (some p) = r.queued u e p := by
  have htime : displayTime r.desc ⟨u.unit, u.pass⟩ = u.pass * r.desc.units * r.desc.period + u.unit * r.desc.period :=
    if_pos ht
  simp only [Lane.decoded, Lane.queued, hw, hh, he, htime, and_self, if_true, Option.map_some, Option.getD_some]

theorem Lane.decoded_fails {u : RingUnit} {result : Option Picture} {r : Lane}
    (h : ∀ p, result = some p → p.width ≠ r.desc.width ∨ p.height ≠ r.desc.height) : r.decoded u result = r.skipUnit u := by
  cases result with
  | none => rfl
  | some p => exact if_neg (by simpa [imp_iff_not_or] using h p rfl)

section Events

variable {s : State} {l : Fin 3} (hl : s.power.resetLow = false)
include hl

theorem exec_clipDecodeStart (hd : s.lanes.decoding = none)
    (h : ((turnOrder s.lanes.lastServed).find? fun m => (s.lane m).eligible) = some l) :
    exec .clipDecodeStart s = .next { s with lanes := { s.lanes with decoding := some l, lastServed := l } } := by
  have hstep : clipDecodeStartStep s = { s with lanes := { s.lanes with decoding := some l, lastServed := l } } := by
    simp only [clipDecodeStartStep, hd, h]
  have hexec := live_of_shows (act := clipDecodeStartStep) hl (by rw [hstep]; rfl)
  rw [hstep] at hexec
  exact hexec

theorem exec_clipDecodeDone {u : RingUnit} (hd : s.lanes.decoding = some l) (hu : (s.lane l).headUnit = some u)
    (result : Option Picture) : exec (.clipDecodeDone result) s =
      .next ((eraserStep (laneAdvance l (s.decoderIdle.setLane l ((s.lane l).decoded u result)))).seenSince s) := by
  have hstep : clipDecodeDoneStep result s =
      eraserStep (laneAdvance l (s.decoderIdle.setLane l ((s.lane l).decoded u result))) := by
    have hu' : (s.decoderIdle.lane l).headUnit = some u := hu
    simp only [clipDecodeDoneStep, hd]
    rw [← State.decoderIdle, hu']
    rfl
  rw [← hstep]
  exact live_of_live hl

theorem exec_stallTimerExpiry (ht : (s.lane l).stallTimer.isSome = true) (ha : (s.lane l).active = true) :
    exec (.stallTimerExpiry l) s = .next ((eraserStep (laneHeld l .stall .stalled s)).seenSince s) := by
  have hstep := live_of_live (act := stallTimerExpiryStep l) hl
  rw [stallTimerExpiryStep, if_pos ⟨ht, ha⟩] at hstep
  exact hstep

end Events

end Sys2Proof.Machine
end

section
/-!
Clip units are decoded in turn (R68, R73 to R76, R79, R80, R82): the statement, from the decode position, the decoder and the stall timer.
-/

namespace Sys2Proof.Machine

open Sys2Proof

/-- What a finished picture leaves of its lane: it is queued, the unit is gone, and a lane in PRIMING or STARVED is tested for
readiness (R68, R74, R79). -/
theorem clipDecodeDone_queues {s : State} {l : Fin 3} {u : RingUnit} {e : UnitEntry} {p : Picture}
    (hl : s.power.resetLow = false) (hd : s.lanes.decoding = some l) (hu : (s.lane l).headUnit = some u)
    (hdone : (s.lane l).decoded u (some p) = (s.lane l).queued u e p) :
    ∃ (t : State) (q : Lane), exec (.clipDecodeDone (some p)) s = .next t ∧ t.lanes.decoding = none ∧ t.link = s.link ∧
      (∀ m, m ≠ l → t.lane m = s.lane m) ∧ t.lane l = q.readyTest ∧ q.queue = ((s.lane l).queued u e p).queue ∧
      q.onShow = (s.lane l).onShow ∧ q.clock = (s.lane l).clock ∧ q.state = (s.lane l).state ∧
      q.ready = (s.lane l).ready ∧ q.stallTimer = (s.lane l).stallTimer := by
  have hqueue : ((s.lane l).queued u e p).queue ≠ [] := by simp [Lane.queued, Lane.consume, Lane.setFill]
  obtain ⟨ring, fill, demand, pos, skipping, count, hadvance, -⟩ :=
    laneAdvance_frame (l := l) (s := s.decoderIdle.setLane l ((s.lane l).queued u e p))
      (.inr (by rw [State.lane_setLane]; exact hqueue))
  rw [State.lane_setLane, State.setLane_setLane] at hadvance
  refine ⟨_, { (s.lane l).queued u e p with
    ring := ring, fill := fill, demand := demand, decodePos := pos, skipping := skipping, skipped := count },
    exec_clipDecodeDone hl hd hu _, ?_⟩
  rw [hdone, hadvance]
  refine ⟨by simp [State.decoderIdle], by simp [State.decoderIdle], fun m hm => ?_, by simp, rfl, rfl, rfl, rfl, rfl, rfl⟩
  rw [State.lane_seenSince, eraserStep_lane, State.lane_setLane_other _ _ hm, State.lane_decoderIdle]

/-- Settles O56: the decode position, the decoder's start and end, and the stall timer. -/
theorem clipUnitsAreDecodedInTurn : Obligations.ClipUnitsAreDecodedInTurn := by
  unfold Obligations.ClipUnitsAreDecodedInTurn
  intro next taken skipped idle
  have hskipped : ∀ (r : Lane) (u : RingUnit), r.decodePos.pass + 1 < 2 ^ 40 → skipped r u = r.skipUnit u := fun r u h => by
    simp only [skipped, taken, next, Lane.skipUnit, Lane.consume, Lane.countSkip, Lane.setFill, nextPos_of_lt h]
  have hqueued : ∀ (r : Lane) (u : RingUnit) (e : UnitEntry) (p : Picture), r.decodePos.pass + 1 < 2 ^ 40 →
      r.queued u e p = { taken r u with
        queue := r.queue ++ [{ unit := u.unit, pass := u.pass, cue := e.cue, picture := p
                               time := u.pass * r.desc.units * r.desc.period + u.unit * r.desc.period }] } :=
    fun r u e p h => by simp only [taken, next, Lane.queued, Lane.consume, Lane.setFill, nextPos_of_lt h]
  refine ⟨Lane.headUnit_iff, ?position, fun s hl => ⟨fun l => exec_clipDecodeStart hl,
    by decide, fun l => ?eligible, ?queues, ?decodes, ?fails, ?stalls⟩⟩
  case position =>
    intro s l hd h r fails done tested
    have hfails : fails ↔ r.primingFailed = true := r.primingFailed_iff.symm
    have htested : tested r = r.readyTest := r.readyTest_eq.symm
    have hresumed : tested { r with skipping := false } = Lane.readyTest { r with skipping := false } :=
      (Lane.readyTest_eq { r with skipping := false }).symm
    refine ⟨?_, fun hf u e hu he => ?_, fun hf hu => ?_⟩
    · intro hf t
      have ht : t = laneHeld l .damaged .damaged s := laneAdvance_fails (hfails.1 hf)
      rw [ht, laneHeld_lane]
      exact ⟨rfl, rfl, rfl, rfl, rfl, rfl, readerReleased_laneHeld l _ _ s, fun tag htag => laneHeld_reply l _ _ s htag,
        laneHeld_notice l _ _ s, fun m hm => laneHeld_lane_other l _ _ s hm⟩
    · have hf' : r.primingFailed = false := by simpa using mt hfails.2 hf
      refine ⟨fun hskip => ?_, fun hs hc hk => ?_, fun hs hc => ?_⟩
      · rw [hskipped r u h]
        exact laneAdvance_skips hd hu (Lane.skipRun_skips hf' hu he hskip)
      · rw [hresumed]
        exact laneAdvance_tests hd (Lane.skipRun_resumes hf' hu he hs hc hk) hf'
      · rw [htested]
        exact laneAdvance_tests hd (Lane.skipRun_clean hu he hs hc) hf'
    · rw [htested]
      exact laneAdvance_tests hd (Lane.skipRun_of_no_unit hu) (by simpa using mt hfails.2 hf)
  case eligible =>
    simp only [Lane.eligible_iff, Lane.active_iff, Lane.headUnit_iff, and_assoc]
  case queues =>
    intro l u p e hd hu ha hw hh he ht
    obtain ⟨t, q, hexec, hidle, hlink, hother, hlane, hqueue, hshow, hclock, hstate, hready, htimer⟩ :=
      clipDecodeDone_queues hl hd hu (Lane.decoded_picture hw hh he ht)
    obtain ⟨b, timer, hframe⟩ := q.readyTest_frame
    have hkeeps : q.readyTest.queue = q.queue ∧ q.readyTest.pastEnd = q.pastEnd ∧ q.readyTest.onShow = q.onShow ∧
        q.readyTest.clock = q.clock ∧ q.readyTest.state = q.state := by
      rw [hframe]
      exact ⟨rfl, rfl, rfl, rfl, rfl⟩
    obtain ⟨hq, hp, ho, hc, hst⟩ := hkeeps
    refine ⟨t, hexec, hidle, ?_⟩
    rw [hlane, hq, ho, hc, hp, hst]
    refine ⟨hqueue, hshow, hclock, hlink, hstate, fun hplay => ?_, fun hplay => ⟨?_, fun hr => ?_⟩, hother⟩
    · rw [Lane.readyTest_of_not_primed (Lane.not_primed_of_playing (hstate.trans hplay))]
      exact ⟨hready, htimer⟩
    · have hpriming : q.state = .priming ∨ q.state = .starved := by
        rw [hstate]
        exact ((s.lane l).active_iff.1 ha).imp_right fun h => h.resolve_left hplay
      have hlen : 1 ≤ q.queue.length := by
        rw [hqueue, Lane.queued, Lane.consume, Lane.setFill]
        simp
      rw [Lane.readyTest_ready, Lane.primed_iff hpriming hlen, hready]
    · exact Lane.readyTest_stallTimer (hready.trans hr)
  case decodes =>
    intro l u hd hu h r
    refine ⟨fun p e hw hh he ht => ?_, fun result hbad => ?_⟩
    · rw [← hqueued r u e p h, ← Lane.decoded_picture hw hh he ht]
      exact exec_clipDecodeDone hl hd hu (some p)
    · rw [hskipped r u h, ← Lane.decoded_fails hbad]
      exact exec_clipDecodeDone hl hd hu result
  case fails =>
    intro l u hd hu hplay hlt
    have hfails : (s.lane l).decoded u none = (s.lane l).skipUnit u := rfl
    obtain ⟨ring, fill, demand, pos, skipping, count, hadvance, hcount⟩ :=
      laneAdvance_frame (l := l) (s := s.decoderIdle.setLane l ((s.lane l).skipUnit u))
        (.inl (by rw [State.lane_setLane]; exact fun h => by cases hplay.symm.trans h))
    rw [State.lane_setLane, State.setLane_setLane, Lane.readyTest_of_not_primed] at hadvance
    swap
    · exact Lane.not_primed_of_playing hplay
    have hone : ((s.lane l).skipUnit u).skipped = (s.lane l).skipped + 1 := Nat.min_eq_right (Nat.succ_le_of_lt hlt)
    rw [State.lane_setLane, hone] at hcount
    refine ⟨_, exec_clipDecodeDone hl hd hu none, ?_⟩
    rw [hfails, hadvance, State.lane_seenSince, eraserStep_lane, State.lane_setLane]
    exact ⟨by simp [State.decoderIdle], rfl, hcount (by omega), by simp [State.decoderIdle]⟩
  case stalls =>
    intro l ht hs
    have hreleased := (readerReleased_laneHeld l .stall .stalled s).eraserStep
    refine ⟨_, exec_stallTimerExpiry hl ht ((s.lane l).active_iff.2 (hs.imp_right .inr)), ?_⟩
    rw [State.lane_seenSince, eraserStep_lane, laneHeld_lane, State.seenSince_lanes, eraserStep_lanes, State.seenSince_link,
      eraserStep_link]
    refine ⟨rfl, rfl, rfl, rfl, rfl, rfl, rfl, rfl, rfl, laneHeld_decoding l _ _ s, fun tag htag => laneHeld_reply l _ _ s htag,
      laneHeld_notice l _ _ s, hreleased.congr rfl rfl rfl (by simp) (by simp), fun m hm => ?_⟩
    rw [State.lane_seenSince, eraserStep_lane, laneHeld_lane_other l _ _ s hm]

end Sys2Proof.Machine
end

section
/-!
What a lane reads (R67, R70, R201): the pages of runs and their reads, the header and index tests, and the units of a request.
-/

namespace Sys2Proof.Machine

open Sys2Proof

/-! ### The pages of runs (R52, R67, R70) -/

/-- The page numbers of runs, in order. -/
def pageNumbers (rs : List Run) : List Nat := rs.flatMap fun r => List.range' r.first r.count

@[simp] theorem pageNumbers_nil : pageNumbers [] = [] := rfl

@[simp] theorem pageNumbers_cons (r : Run) (rs : List Run) :
    pageNumbers (r :: rs) = List.range' r.first r.count ++ pageNumbers rs := rfl

@[simp] theorem pageNumbers_append (rs qs : List Run) : pageNumbers (rs ++ qs) = pageNumbers rs ++ pageNumbers qs :=
  List.flatMap_append

theorem pageNumbers_takePages (n : Nat) (rs : List Run) : pageNumbers (takePages n rs) = (pageNumbers rs).take n := by
  induction rs generalizing n with
  | nil => simp [takePages]
  | cons r rs ih =>
    rw [takePages, pageNumbers_cons, List.take_append, List.length_range']
    split
    next h => simp [h]
    next =>
      split
      next h => simp [List.take_range'_of_length_ge h, Nat.sub_eq_zero_of_le h]
      next h => rw [pageNumbers_cons, ih, List.take_range'_of_length_le (by omega)]

theorem pageNumbers_dropPages (n : Nat) (rs : List Run) : pageNumbers (dropPages n rs) = (pageNumbers rs).drop n := by
  induction rs generalizing n with
  | nil => simp [dropPages]
  | cons r rs ih =>
    rw [dropPages, pageNumbers_cons, List.drop_append, List.length_range', List.drop_range', Nat.mul_one]
    split
    next h => rw [pageNumbers_cons, Nat.sub_eq_zero_of_le (Nat.le_of_lt h), List.drop_zero]
    next h =>
      have hpast : r.count - n = 0 := by omega
      rw [ih, hpast, List.range'_zero, List.nil_append]

/-- A run split into reads has its pages. -/
theorem pageNumbers_splitRun (fuel : Nat) (r : Run) (h : r.count ≤ fuel) :
    pageNumbers (splitRun fuel r) = List.range' r.first r.count := by
  induction fuel generalizing r with
  | zero => simp [splitRun, Nat.le_zero.1 h]
  | succ fuel ih =>
    rw [splitRun]
    split
    next => simp
    next hr =>
      rw [pageNumbers_cons, ih ⟨r.first + 16, r.count - 16⟩ (by simp only; omega), List.range'_append_1]
      congr 1
      simp only
      omega

/-- The reads of a run are of at most 16 pages, and within it. -/
theorem splitRun_within {fuel : Nat} {r q : Run} (h : q ∈ splitRun fuel r) :
    q.count ≤ 16 ∧ r.first ≤ q.first ∧ q.first + q.count ≤ r.first + r.count := by
  induction fuel generalizing r with
  | zero => cases h
  | succ fuel ih =>
    rw [splitRun] at h
    split at h
    next hr =>
      obtain rfl := List.mem_singleton.1 h
      omega
    next hr =>
      rcases List.mem_cons.1 h with rfl | h
      · simp only
        omega
      · obtain ⟨hcount, hfirst, hlast⟩ := ih h
        simp only at hfirst hlast
        omega

theorem pageNumbers_readRuns (rs : List Run) : pageNumbers (readRuns rs) = pageNumbers rs := by
  induction rs with
  | nil => rfl
  | cons r rs ih =>
    have hcons : readRuns (r :: rs) = splitRun r.count r ++ readRuns rs := rfl
    rw [hcons, pageNumbers_append, ih, pageNumbers_splitRun r.count r le_rfl, pageNumbers_cons]

theorem readRuns_within {rs : List Run} {r : Run} (h : r ∈ readRuns rs) :
    r.count ≤ 16 ∧ ∃ q ∈ rs, q.first ≤ r.first ∧ r.first + r.count ≤ q.first + q.count := by
  obtain ⟨q, hq, hr⟩ := List.mem_flatMap.1 h
  obtain ⟨hcount, hwithin⟩ := splitRun_within hr
  exact ⟨hcount, q, hq, hwithin⟩

/-! ### The header and the index (R67, R201) -/

theorem clipHeaderOk_iff (data : List Byte) (d : ClipDesc) : clipHeaderOk data d = true ↔
    12 ≤ data.length ∧ fieldAt data 0 1 = 2 ∧ fieldAt data 1 1 = 0 ∧ fieldAt data 10 2 = 0 ∧ fieldAt data 2 2 = d.width ∧
    d.width ≤ 960 ∧ fieldAt data 4 2 = d.height ∧ d.height ≤ 540 ∧ 1500 ≤ fieldAt data 6 2 ∧ fieldAt data 6 2 ≤ 9000 ∧
    1 ≤ d.units ∧ d.units ≤ 8192 ∧ fieldAt data 8 2 = d.units := by
  simp only [clipHeaderOk, Bool.and_eq_true, decide_eq_true_eq, beq_iff_eq, and_assoc]

theorem unitEntryAt_eq (data : List Byte) (i : Nat) : unitEntryAt data i =
    { offset := fieldAt data (12 + 10 * i) 4, length := fieldAt data (16 + 10 * i) 4
      isKey := decide (fieldAt data (20 + 10 * i) 1 = 0), cue := fieldAt data (21 + 10 * i) 1, corrupt := false } := by
  have hlength : 12 + 10 * i + 4 = 16 + 10 * i := by omega
  have hkind : 12 + 10 * i + 8 = 20 + 10 * i := by omega
  have hcue : 12 + 10 * i + 9 = 21 + 10 * i := by omega
  simp only [unitEntryAt, hlength, hkind, hcue]
  rfl

/-- Each unit ends at or before the next one's offset. -/
theorem unitsInOrder_iff (es : List UnitEntry) :
    unitsInOrder es = true ↔ es.IsChain fun a b => a.offset + a.length ≤ b.offset := by
  induction es with
  | nil => simp [unitsInOrder]
  | cons a es ih =>
    cases es with
    | nil => simp [unitsInOrder]
    | cons b es => rw [unitsInOrder, Bool.and_eq_true, decide_eq_true_eq, ih, List.isChain_cons_cons]

theorem clipIndexOk_iff (data : List Byte) {n : Nat} (length : Nat) (hn : 0 < n) :
    clipIndexOk data n length ((List.range n).map (unitEntryAt data)) = true ↔
      12 + 10 * n ≤ data.length ∧ (∀ i, i < n → fieldAt data (20 + 10 * i) 1 ≤ 1) ∧
      (∀ i, i < n → 1 ≤ (unitEntryAt data i).length ∧ (unitEntryAt data i).length ≤ 262144) ∧
      (∀ i, i + 1 < n → (unitEntryAt data i).offset + (unitEntryAt data i).length ≤ (unitEntryAt data (i + 1)).offset) ∧
      12 + 10 * n + (unitEntryAt data (n - 1)).offset + (unitEntryAt data (n - 1)).length ≤ length ∧
      fieldAt data 20 1 = 0 := by
  obtain ⟨k, rfl⟩ : ∃ k, n = k + 1 := ⟨n - 1, by omega⟩
  have hlast : ((List.range (k + 1)).map (unitEntryAt data)).getLast? = some (unitEntryAt data k) := by
    simp [List.range_succ]
  have hhead : ((List.range (k + 1)).map (unitEntryAt data)).head? = some (unitEntryAt data 0) := by
    simp [List.range_succ_eq_map]
  have hkind : ∀ i, 12 + 10 * i + 8 = 20 + 10 * i := fun i => by omega
  have hkey : (unitEntryAt data 0).isKey = true ↔ fieldAt data 20 1 = 0 := by simp [unitEntryAt]
  have horder : unitsInOrder ((List.range (k + 1)).map (unitEntryAt data)) = true ↔ ∀ i, i + 1 < k + 1 →
      (unitEntryAt data i).offset + (unitEntryAt data i).length ≤ (unitEntryAt data (i + 1)).offset := by
    rw [unitsInOrder_iff, List.isChain_map, List.isChain_range_succ]
    simp
  simp only [clipIndexOk, hlast, hhead, Bool.and_eq_true, horder, hkey, hkind, decide_eq_true_eq, List.all_eq_true,
    List.mem_range, List.forall_mem_map, Nat.add_sub_cancel, and_assoc]

/-! ### The units of a request (R70) -/

/-- The units taken fit with what was taken before them, and the next one does not. -/
theorem requestCount_spec (total : Nat) (es : List UnitEntry) (h : total ≤ 65536) :
    total + ((es.take (requestCount total es)).map (·.length)).sum ≤ 65536 ∧
      ∀ e, es[requestCount total es]? = some e →
        65536 < total + ((es.take (requestCount total es)).map (·.length)).sum + e.length := by
  induction es generalizing total with
  | nil => simpa [requestCount] using h
  | cons e es ih =>
    rw [requestCount]
    split
    next hfit =>
      obtain ⟨hsum, hnext⟩ := ih (total + e.length) hfit
      simp only [List.take_succ_cons, List.map_cons, List.sum_cons, List.getElem?_cons_succ, ← Nat.add_assoc]
      exact ⟨hsum, hnext⟩
    next hbig =>
      refine ⟨by simpa using h, fun e' he => ?_⟩
      obtain rfl : e = e' := by simpa using he
      simpa using hbig

theorem requestCount_le (total : Nat) (es : List UnitEntry) : requestCount total es ≤ es.length := by
  induction es generalizing total with
  | nil => exact le_rfl
  | cons e es ih =>
    rw [requestCount]
    split
    next => exact Nat.succ_le_succ (ih _)
    next => exact Nat.zero_le _

/-- A request takes whole units in index order, as many as fit, and at least one (R70). -/
theorem requestUnits_spec {es : List UnitEntry} (h : es ≠ []) :
    requestUnits es <+: es ∧ requestUnits es ≠ [] ∧
      ((requestUnits es).length = 1 ∨ ((requestUnits es).map (·.length)).sum ≤ 65536) ∧
      ∀ e, es[(requestUnits es).length]? = some e → 65536 < ((requestUnits es).map (·.length)).sum + e.length := by
  obtain ⟨hsum, hnext⟩ := requestCount_spec 0 es (by decide)
  simp only [Nat.zero_add] at hsum hnext
  have hcount := requestCount_le 0 es
  have hlen : 0 < es.length := List.length_pos_iff.2 h
  refine ⟨List.take_prefix _ _, by simp [requestUnits, h], ?_⟩
  cases hk : requestCount 0 es with
  | zero =>
    have hone : requestUnits es = es.take 1 := by rw [requestUnits, hk]; rfl
    rw [hone]
    cases es with
    | nil => exact absurd rfl h
    | cons a es =>
      have hbig : 65536 < a.length := by simpa [hk] using hnext a
      simp only [List.take_succ_cons, List.take_zero, List.length_singleton, List.map_cons, List.map_nil, List.sum_singleton]
      exact ⟨.inl trivial, fun e _ => by omega⟩
  | succ k =>
    have hmany : requestUnits es = es.take (requestCount 0 es) := by rw [requestUnits, Nat.max_eq_right (by omega)]
    have hlength : (requestUnits es).length = requestCount 0 es := by rw [hmany, List.length_take, Nat.min_eq_left hcount]
    rw [hlength, hmany]
    exact ⟨.inr hsum, hnext⟩

end Sys2Proof.Machine
end

section
/-!
A completed read of a lane reports its pages (R108), and the end of a lane's header read (R67).
-/

namespace Sys2Proof.Machine

open Sys2Proof

/-! ### The report of pages (R108, R200) -/

section Report

variable {uid page : Nat} {s : State} {a : Asset}

theorem reportDamage_of_damaged (ha : s.catalog.record uid = some a) (hd : a.damaged = true) : reportDamage uid page s = s := by
  simp only [reportDamage, ha, hd, if_true]

theorem reportDamage_of_fresh (ha : s.catalog.record uid = some a) (hd : a.damaged = false) : reportDamage uid page s =
    notice 0xE5 (beBytes 4 a.key ++ beBytes 4 a.check ++ [byteOf a.kind.code] ++ beBytes 4 page)
      (s.setCatalog (s.catalog.modify uid fun a => { a with damaged := true })) := by
  simp only [reportDamage, ha, hd, Bool.false_eq_true, if_false]

/-- The record a report names is DAMAGED after it. -/
theorem reportDamage_record (ha : s.catalog.record uid = some a) :
    (reportDamage uid page s).catalog.record uid = some { a with damaged := true } := by
  cases hd : a.damaged with
  | true =>
    rw [reportDamage_of_damaged ha hd, ha, ← hd]
  | false =>
    rw [reportDamage_of_fresh ha hd, notice_catalog]
    refine (Catalog.record_modify uid (fun a => { a with damaged := true }) s.catalog fun _ => rfl).trans ?_
    rw [ha]
    rfl

theorem reportPages_of_damaged (run : Run) (pages : List PageRead) (ha : s.catalog.record uid = some a)
    (hd : a.damaged = true) : reportPages uid run pages s = s := by
  unfold reportPages
  generalize pages.zip _ = ps
  induction ps with
  | nil => rfl
  | cons p ps ih => rw [List.foldl_cons, reportDamage_of_damaged ha hd, ite_self, ih]

/-- Only the first unreadable page of a read reports (R108). -/
theorem reportPages_first {run : Run} {pre post : List PageRead} {pg : PageRead} (ha : s.catalog.record uid = some a)
    (hn : (pre ++ pg :: post).length = run.count) (hpre : pre.all readable = true) (hbad : readable pg = false) :
    reportPages uid run (pre ++ pg :: post) s = reportDamage uid (run.first + pre.length) s := by
  have hcount : run.count = pre.length + (post.length + 1) := by
    rw [← hn, List.length_append, List.length_cons]
  have hsplit : reportPages uid run (pre ++ pg :: post) s =
      reportPages uid ⟨run.first + pre.length + 1, post.length⟩ post
        (reportDamage uid (run.first + pre.length) (reportPages uid ⟨run.first, pre.length⟩ pre s)) := by
    have hzip : (pre ++ pg :: post).zip (List.range' run.first run.count) =
        pre.zip (List.range' run.first pre.length) ++
          (pg, run.first + pre.length) :: post.zip (List.range' (run.first + pre.length + 1) post.length) := by
      rw [hcount, ← List.range'_append_1, List.zip_append (by simp), List.range'_succ, List.zip_cons_cons]
    rw [reportPages, hzip, List.foldl_append, List.foldl_cons, if_neg (by rw [hbad]; decide)]
    rfl
  rw [hsplit, reportPages_readable uid _ s hpre]
  exact reportPages_of_damaged _ _ (reportDamage_record ha) rfl

end Report

/-- A read with an unreadable page has a first one. -/
theorem exists_first_unreadable {pages : List PageRead} (h : pages.all readable = false) :
    ∃ pre pg post, pages = pre ++ pg :: post ∧ pre.all readable = true ∧ readable pg = false := by
  cases hf : pages.find? fun p => !readable p with
  | none =>
    have hall : pages.all readable = true := by simpa [List.find?_eq_none] using hf
    rw [hall] at h
    cases h
  | some pg =>
    obtain ⟨hbad, pre, post, rfl, hpre⟩ := List.find?_eq_some_iff_append.1 hf
    exact ⟨pre, pg, post, rfl, by simpa using hpre, by simpa using hbad⟩

/-- A notice takes at most one place of the outbound queue (R190). -/
theorem notice_room (kind : Nat) (payload : List Byte) (s : State) :
    (notice kind payload s).link.helloSent = s.link.helloSent ∧ (notice kind payload s).link.occupancy ≤ s.link.occupancy + 1 := by
  unfold notice
  split
  · simp only [State.setLink_link, Link.push, Link.startSend]
    split
    next h =>
      simp only [Link.occupancy] at h ⊢
      have hlen := congrArg List.length h
      simp only [List.length_append, List.length_cons, List.length_nil] at hlen
      exact ⟨trivial, by omega⟩
    next =>
      simp only [Link.occupancy, List.length_append, List.length_cons, List.length_nil]
      exact ⟨trivial, by omega⟩
  · exact ⟨rfl, Nat.le_succ _⟩

/-- The report of a completed read takes at most one place of the outbound queue (R108, R190). -/
theorem reportPages_room {uid : Nat} {run : Run} {pages : List PageRead} {s : State} {a : Asset}
    (ha : s.catalog.record uid = some a) (hn : pages.length = run.count) :
    (reportPages uid run pages s).link.helloSent = s.link.helloSent ∧
      (reportPages uid run pages s).link.occupancy ≤ s.link.occupancy + 1 := by
  cases hread : pages.all readable with
  | true =>
    rw [reportPages_readable uid run s hread]
    exact ⟨rfl, Nat.le_succ _⟩
  | false =>
    obtain ⟨pre, pg, post, rfl, hpre, hbad⟩ := exists_first_unreadable hread
    rw [reportPages_first ha hn hpre hbad]
    cases hd : a.damaged with
    | true =>
      rw [reportDamage_of_damaged ha hd]
      exact ⟨rfl, Nat.le_succ _⟩
    | false =>
      rw [reportDamage_of_fresh ha hd]
      exact notice_room _ _ _

/-! ### A port without followers (R148) -/

/-- With nothing held back behind the operation, the arbiter stays as it is when the port becomes free. -/
theorem Store.portFreed_quiet {p : PortOp} {st : Store} (h : st.heldBack = []) :
    (st.portFreed p).arbiter = st.arbiter ∧ (st.portFreed p).heldBack = [] := by
  obtain ⟨units, hf⟩ := st.portFreed_frame p
  rw [hf, h]
  simp

/-- A free port takes the operation into the arbiter. -/
theorem Store.place_of_free {purpose : Purpose} {cls : OpClass} {op : StoreOp} {st : Store} (h : st.port = none) :
    st.place purpose cls op =
      { st with arbiter := st.arbiter ++ [{ purpose := purpose, cls := cls, op := op, passed := 0 }] } := by
  simp [Store.place, Store.leftRunning, h]

/-- What has been placed with the arbiter of a store without followers comes right after what waited there, whatever the eraser
asks for. -/
theorem place_portFreed_eraser {purpose : Purpose} {cls : OpClass} {op : StoreOp} {p : PortOp} {st : Store}
    (h : st.heldBack = []) : ∃ rest, ((st.portFreed p).place purpose cls op).eraser.arbiter =
      st.arbiter ++ { purpose := purpose, cls := cls, op := op, passed := 0 } :: rest := by
  obtain ⟨added, _, hadded, -⟩ := ((st.portFreed p).place purpose cls op).eraser_waiting
  refine ⟨added, ?_⟩
  rw [hadded, Store.place_of_free (Store.portFreed_port p st), (Store.portFreed_quiet h).1, List.append_assoc]
  rfl

/-! ### The end of a header read (R67) -/

section HeaderEnd

variable {s : State} {l : Fin 3} {p : PortOp} {run : Run} {pages : List PageRead} {h : HeaderRead} {uid : Nat}

section Ends

variable (hp : s.store.port = some p) (hr : p.releaseReader = none) (hh : (s.lane l).header = some h)
  (hc : (s.lane l).clip = some uid)
include hp hr hh hc

theorem headerReadEnd_next {n : Run} {more : List Run} (hread : pages.all readable = true) (hrest : h.rest = n :: more) :
    headerReadEnd l run pages s = ((s.setStore (s.store.portFreed p)).setLane l
      { s.lane l with header := some { rest := more, data := h.data ++ pages.flatMap pageBytes } }).setStore
        ((s.store.portFreed p).place (.laneHeader l) .lane (.pageRead n)) := by
  simp only [headerReadEnd, hh, hc, reportPages_readable uid run s hread, portEnd_none hp hr, hread, hrest, if_true]
  rw [← hc]
  rfl

theorem headerReadEnd_last {a : Asset} (hread : pages.all readable = true) (hrest : h.rest = [])
    (ha : s.catalog.record uid = some a) : headerReadEnd l run pages s =
      checkHeader l a (h.data ++ pages.flatMap pageBytes) (s.setStore (s.store.portFreed p)) := by
  have ha' : (s.setStore (s.store.portFreed p)).catalog.record uid = some a := ha
  simp only [headerReadEnd, hh, hc, reportPages_readable uid run s hread, portEnd_none hp hr, hread, hrest, ha', if_true]

theorem headerReadEnd_unreadable (hread : pages.all readable = false) : headerReadEnd l run pages s =
    laneHeld l .damaged .damaged ((reportPages uid run pages s).setStore (s.store.portFreed p)) := by
  obtain ⟨c, k, hframe⟩ := reportPages_frame uid run pages s
  have hstore : (reportPages uid run pages s).store = s.store := by rw [hframe]
  have hend : portEnd (reportPages uid run pages s) = (reportPages uid run pages s).setStore (s.store.portFreed p) := by
    rw [portEnd_none (hstore.symm ▸ hp) hr, hstore]
  simp only [headerReadEnd, hh, hc, hend, hread, Bool.false_eq_true, if_false]

end Ends

/-- The clip's header and index pass the test of R67 against its record. -/
def clipTestsOk (a : Asset) (data : List Byte) : Bool :=
  clipHeaderOk data a.desc && clipIndexOk data a.desc.units a.length ((List.range a.desc.units).map (unitEntryAt data))

theorem checkHeader_ok {a : Asset} {data : List Byte} (hok : clipTestsOk a data = true) : checkHeader l a data s =
    s.setLane l { s.lane l with
      header := none, index := (List.range a.desc.units).map (unitEntryAt data)
      desc := { width := a.desc.width, height := a.desc.height, period := fieldAt data 6 2, units := a.desc.units } } :=
  if_pos hok

theorem checkHeader_fails {a : Asset} {data : List Byte} (hbad : clipTestsOk a data = false) :
    checkHeader l a data s = laneHeld l .damaged .damaged s := if_neg (by rw [clipTestsOk] at hbad; rw [hbad]; decide)

/-- A header read that fails holds the lane, its pages reported and its port free (R67, R108). -/
theorem headerReadEnd_fails {a : Asset} (hp : s.store.port = some p) (hr : p.releaseReader = none)
    (hh : (s.lane l).header = some h) (hc : (s.lane l).clip = some uid) (ha : s.catalog.record uid = some a)
    (hbad : pages.all readable = false ∨ h.rest = [] ∧ clipTestsOk a (h.data ++ pages.flatMap pageBytes) = false) :
    headerReadEnd l run pages s =
      laneHeld l .damaged .damaged ((reportPages uid run pages s).setStore (s.store.portFreed p)) := by
  cases hread : pages.all readable with
  | false => exact headerReadEnd_unreadable hp hr hh hc hread
  | true =>
    obtain ⟨hrest, htests⟩ := hbad.resolve_left (by rw [hread]; decide)
    rw [headerReadEnd_last hp hr hh hc hread hrest ha, checkHeader_fails htests, reportPages_readable uid run s hread]

/-- The end of a header read that its lane still waits for, no mount waiting for the port. -/
theorem exec_headerReadEnd (hl : s.power.resetLow = false) (hp : s.store.port = some p) (hop : p.op = .pageRead run)
    (hn : pages.length = run.count) (hpurpose : p.purpose = .laneHeader l) (ho : p.orphan = false)
    (hm : (headerReadEnd l run pages s).store.mount = .none) :
    exec (.laneHeaderReadDone l pages) s = .next ((eraserStep (headerReadEnd l run pages s)).seenSince s) := by
  rw [exec_laneHeaderReadDone hl hp hop hn hpurpose, ho, if_neg Bool.false_ne_true, mountIfWaiting_of_none hm]

end HeaderEnd

end Sys2Proof.Machine
end

section
/-!
The issue of a lane's read request (R69, R70, R72): when a lane may read, what it claims, and the wrap test at the end of a pass.
-/

namespace Sys2Proof.Machine

open Sys2Proof

theorem Lane.mayRead_iff (r : Lane) : r.mayRead = true ↔ (r.state = .priming ∨ r.state = .playing ∨ r.state = .starved) ∧
    r.header = none ∧ r.index ≠ [] ∧ r.demand = true ∧ r.readingStopped = false ∧ r.request = none := by
  simp [Lane.mayRead, Lane.active_iff, and_assoc]

/-! ### What a request claims (R70) -/

/-- The request for the units from `first` to `last` (R70). -/
def Lane.requestFor (first last : UnitEntry) (runs : List Run) (r : Lane) : LaneRequest :=
  let base := 12 + 10 * r.desc.units
  { start := base + first.offset, stop := base + last.offset + last.length, nextPage := (base + first.offset) / 4096
    rest := runs.drop 1, data := [] }

/-- The reads of the request for the units from `first` to `last` of the clip `a` (R70). -/
def Lane.runsFor (a : Asset) (first last : UnitEntry) (r : Lane) : List Run :=
  let base := 12 + 10 * r.desc.units
  let start := base + first.offset
  readRuns (takePages (pagesFor (base + last.offset + last.length) - start / 4096) (dropPages (start / 4096) a.extents))

/-- The record with the units `us` claimed from the read position and the request `q` outstanding (R70). -/
def Lane.claim (us : List UnitEntry) (q : LaneRequest) (r : Lane) : Lane :=
  Lane.setFill (r.fill + (us.map (·.length)).sum) { r with
    ring := r.ring ++ us.zipIdx.map fun p =>
      { unit := r.readPos.unit + p.2, pass := r.readPos.pass, length := p.1.length, arrived := false, bytes := [] }
    request := some q }

/-- The record with its read position moved to unit `n` of the pass, or at the pass's end by the wrap test (R72). -/
def Lane.advanceRead (n : Nat) (live : Bool) (r : Lane) : Lane :=
  if n < r.desc.units then { r with readPos := ⟨n, r.readPos.pass⟩ } else r.wrap live r.readPos.pass

theorem Lane.claim_ring_length (us : List UnitEntry) (q : LaneRequest) (r : Lane) :
    (r.claim us q).ring.length = r.ring.length + us.length := by
  simp [Lane.claim, Lane.setFill]

/-- The read demand is tested as the fill grows (R69). -/
theorem Lane.claim_demand {r : Lane} (us : List UnitEntry) (q : LaneRequest) (h : r.demand = true) :
    (r.claim us q).demand = decide (r.fill + (us.map (·.length)).sum < 458752) := by
  have hdemand : (r.claim us q).demand = (if r.fill + (us.map (·.length)).sum < 131072 then true
    else if 458752 ≤ r.fill + (us.map (·.length)).sum then false else r.demand) := rfl
  rw [hdemand, h, eq_comm]
  split
  next hlow => exact decide_eq_true (by omega)
  next =>
    split
    next hhigh => exact decide_eq_false (by omega)
    next => exact decide_eq_true (by omega)

/-! ### The read position (R72) -/

section Advance

variable {n : Nat} {live : Bool} {r : Lane}

theorem Lane.advanceRead_frame (n : Nat) (live : Bool) (r : Lane) : ∃ pos stopped final loops reason, r.advanceRead n live =
    { r with readPos := pos, readingStopped := stopped, finalPass := final, loops := loops, endReason := reason } := by
  unfold Lane.advanceRead
  split
  · exact ⟨_, r.readingStopped, r.finalPass, r.loops, r.endReason, rfl⟩
  · rw [Lane.wrap]
    split
    · exact ⟨_, r.readingStopped, r.finalPass, _, r.endReason, rfl⟩
    · exact ⟨_, _, _, r.loops, _, rfl⟩

theorem Lane.advanceRead_of_lt (h : n < r.desc.units) : r.advanceRead n live = { r with readPos := ⟨n, r.readPos.pass⟩ } :=
  if_pos h

/-- A LOOP lane with loops left and a live clip goes on with the next pass (R72). -/
theorem Lane.advanceRead_loops (h : n = r.desc.units) (hend : r.endAction = .loop) (hloops : 1 ≤ r.loops) (hlive : live = true)
    (hk : r.readPos.pass + 1 < 2 ^ 40) : r.advanceRead n live = { r with
      readPos := ⟨0, r.readPos.pass + 1⟩, loops := if r.loops = 255 then 255 else r.loops - 1 } := by
  rw [Lane.advanceRead, if_neg (by omega), Lane.wrap, if_pos ⟨hend, hloops, hlive⟩, hold40, if_pos hk]

/-- Any other lane stops reading with this final pass (R72). -/
theorem Lane.advanceRead_stops (h : n = r.desc.units) (hstop : r.endAction ≠ .loop ∨ r.loops = 0 ∨ live = false) :
    r.advanceRead n live = { r with
      readPos := ⟨r.desc.units, r.readPos.pass⟩, readingStopped := true, finalPass := some r.readPos.pass
      endReason := some (if r.endAction = .loop ∧ 1 ≤ r.loops then .retired else .clipEnd) } := by
  rw [Lane.advanceRead, if_neg (by omega), Lane.wrap, if_neg]
  rintro ⟨hend, hloops, hlive⟩
  rcases hstop with h | h | h
  · exact h hend
  · omega
  · rw [h] at hlive
    cases hlive

end Advance

/-! ### LANE_READ_ISSUE (R70) -/

section Issue

variable {s : State} {l : Fin 3}

theorem exec_laneReadIssue (hl : s.power.resetLow = false) :
    exec (.laneReadIssue l) s = .next ((laneReadIssueStep l s).seenSince s) := live_of_live hl

theorem exec_laneReadIssue_nothing (hl : s.power.resetLow = false) (h : laneReadIssueStep l s = s) :
    exec (.laneReadIssue l) s = .next s := by
  have hexec := live_of_shows (act := laneReadIssueStep l) hl (by rw [h])
  rw [h] at hexec
  exact hexec

/-- A lane that may not read, or whose next request does not fit, issues none (R69, R70). -/
theorem laneReadIssueStep_nothing (h : ¬ ((s.lane l).mayRead = true ∧
    (s.lane l).fill + ((requestUnits ((s.lane l).index.drop (s.lane l).readPos.unit)).map (·.length)).sum ≤ 524287)) :
    laneReadIssueStep l s = s := by
  unfold laneReadIssueStep
  dsimp only
  split
  · rw [if_neg h]
  · rfl

/-- A request that fits is claimed and its first read placed (R70). -/
theorem laneReadIssueStep_issues {us : List UnitEntry} {first last : UnitEntry} {a : Asset} {uid : Nat}
    (hus : requestUnits ((s.lane l).index.drop (s.lane l).readPos.unit) = us) (hfirst : us.head? = some first)
    (hlast : us.getLast? = some last) (hc : (s.lane l).clip = some uid) (ha : s.catalog.record uid = some a)
    (hm : (s.lane l).mayRead = true) (hfit : (s.lane l).fill + (us.map (·.length)).sum ≤ 524287) :
    let runs := (s.lane l).runsFor a first last
    let t := laneReadIssueStep l s
    t.lane l = ((s.lane l).claim us ((s.lane l).requestFor first last runs)).advanceRead
        ((s.lane l).readPos.unit + us.length) a.inLive ∧
      (∀ m, m ≠ l → t.lane m = s.lane m) ∧ t.link = s.link ∧ t.catalog = s.catalog ∧
      ∀ run more, runs = run :: more → s.store.placed (.laneUnits l) .lane (.pageRead run) t.store := by
  intro runs t
  have hstep : t = match runs with
      | run :: _ => (s.setLane l (((s.lane l).claim us ((s.lane l).requestFor first last runs)).advanceRead
          ((s.lane l).readPos.unit + us.length) a.inLive)).setStore (s.store.place (.laneUnits l) .lane (.pageRead run))
      | [] => s.setLane l (((s.lane l).claim us ((s.lane l).requestFor first last runs)).advanceRead
          ((s.lane l).readPos.unit + us.length) a.inLive) := by
    have hrecord : (s.lane l).clip.bind s.catalog.record = some a := by rw [hc]; exact ha
    have hmay : (s.lane l).mayRead = true ∧ (s.lane l).fill + (us.map (·.length)).sum ≤ 524287 := ⟨hm, hfit⟩
    simp only [t, laneReadIssueStep, hus, hfirst, hlast, hrecord, if_pos hmay]
    rfl
  rw [hstep]
  cases hr : runs with
  | nil =>
    refine ⟨State.lane_setLane _ _ _, fun m hne => State.lane_setLane_other _ _ hne, rfl, rfl, fun run more h => ?_⟩
    cases h
  | cons run more =>
    refine ⟨State.lane_setLane _ _ _, fun m hne => State.lane_setLane_other _ _ hne, rfl, rfl, fun run' more' h => ?_⟩
    cases h
    exact Store.place_placed _ _ _ s.store

end Issue

end Sys2Proof.Machine
end

section
/-!
The end of an operation of a lane's read request (R70, R71): the corrupt flags its pages give, the units it puts into the ring, and
the lane's decode position after it.
-/

namespace Sys2Proof.Machine

open Sys2Proof

/-! ### A lane with nothing to skip (R68, R75) -/

/-- With clean units alone and no skipping begun, nothing is skipped (R75). -/
theorem Lane.skipRun_still {r : Lane} (n : Nat) (hs : r.skipping = false) (hc : ∀ e ∈ r.index, e.corrupt = false) :
    r.skipRun n = r := by
  cases hu : r.headUnit with
  | none => exact Lane.skipRun_of_no_unit hu
  | some u =>
    cases he : r.index[u.unit]? with
    | none => exact Lane.skipRun_of_no_entry hu he
    | some e => exact Lane.skipRun_clean hu he hs (hc e (List.mem_of_getElem? he))

/-- A lane whose priming has not failed and that skips nothing is tested for readiness alone (R68, R75, R79). -/
theorem laneAdvance_still {l : Fin 3} {s : State} {r : Lane} (hs : r.skipping = false) (hc : ∀ e ∈ r.index, e.corrupt = false)
    (hf : r.primingFailed = false) : laneAdvance l (s.setLane l r) = s.setLane l r.readyTest := by
  have hrun : (if (s.setLane l r).lanes.decoding = some l then (s.setLane l r).lane l
      else ((s.setLane l r).lane l).skipRun (((s.setLane l r).lane l).ring.length + 1)) = r := by
    rw [State.lane_setLane, Lane.skipRun_still _ hs hc, ite_self]
  rw [laneAdvance, hrun]
  simp only [hf, Bool.false_eq_true, if_false, State.setLane_setLane]

theorem Lane.primingFailed_eq_false {r : Lane} (h : r.state = .playing ∨ r.state = .starved ∨
    r.state = .priming ∧ (r.decodePos.pass = 0 ∨ r.ready = true ∨ r.queue ≠ [])) : r.primingFailed = false := by
  rw [Bool.eq_false_iff, Ne, Lane.primingFailed_iff]
  rintro ⟨hstate, hready, hqueue, hpass⟩
  rcases h with h | h | ⟨-, h | h | h⟩
  · cases h.symm.trans hstate
  · cases h.symm.trans hstate
  · omega
  · cases h.symm.trans hready
  · exact h hqueue

@[simp] theorem laneAdvance_mount (l : Fin 3) (s : State) : (laneAdvance l s).store.mount = s.store.mount := by
  unfold laneAdvance
  dsimp only
  generalize (if s.lanes.decoding = some l then s.lane l else (s.lane l).skipRun ((s.lane l).ring.length + 1)) = r
  split
  · rw [laneHeld_mount]
    rfl
  · rfl

/-! ### The corrupt flags (R71) -/

theorem touchesBadPage_iff (base nextPage : Nat) (pages : List PageRead) (e : UnitEntry) :
    touchesBadPage base nextPage pages e = true ↔ ∃ m pg, pages[m]? = some pg ∧ readable pg = false ∧
      base + e.offset < 4096 * (nextPage + m + 1) ∧ 4096 * (nextPage + m) < base + e.offset + e.length := by
  simp only [touchesBadPage, List.any_eq_true, Prod.exists, List.mem_zipIdx_iff_getElem?, Bool.and_eq_true, Bool.not_eq_true',
    decide_eq_true_eq, and_assoc]
  exact exists_comm

theorem touchesBadPage_readable {pages : List PageRead} (base nextPage : Nat) (e : UnitEntry) (h : pages.all readable = true) :
    touchesBadPage base nextPage pages e = false := by
  rw [Bool.eq_false_iff, Ne, touchesBadPage_iff]
  rintro ⟨m, pg, hm, hbad, -⟩
  rw [List.all_eq_true.1 h pg (List.mem_of_getElem? hm)] at hbad
  cases hbad

/-- Readable pages flag nothing. -/
theorem Lane.flagCorrupt_readable {pages : List PageRead} (q : LaneRequest) (r : Lane) (h : pages.all readable = true) :
    r.flagCorrupt q pages = r := by
  simp [Lane.flagCorrupt, touchesBadPage_readable _ _ _ h]

/-- The completed operation flags an entry's unit: it is of the request and has a byte in an unreadable page (R71). -/
def Lane.hit (q : LaneRequest) (pages : List PageRead) (r : Lane) (e : UnitEntry) : Bool :=
  let base := 12 + 10 * r.desc.units
  q.start ≤ base + e.offset && base + e.offset + e.length ≤ q.stop && touchesBadPage base q.nextPage pages e

theorem Lane.hit_iff (q : LaneRequest) (pages : List PageRead) (r : Lane) (e : UnitEntry) : r.hit q pages e = true ↔
    q.start ≤ 12 + 10 * r.desc.units + e.offset ∧ 12 + 10 * r.desc.units + e.offset + e.length ≤ q.stop ∧
      ∃ m pg, pages[m]? = some pg ∧ readable pg = false ∧ 12 + 10 * r.desc.units + e.offset < 4096 * (q.nextPage + m + 1) ∧
        4096 * (q.nextPage + m) < 12 + 10 * r.desc.units + e.offset + e.length := by
  simp only [Lane.hit, Bool.and_eq_true, decide_eq_true_eq, and_assoc, touchesBadPage_iff]

/-- An entry keeps its flag, and is flagged when the operation hits its unit (R71). -/
theorem Lane.flagCorrupt_getElem? {q : LaneRequest} {pages : List PageRead} {r : Lane} {n : Nat} {e : UnitEntry}
    (he : r.index[n]? = some e) : ∃ b, (r.flagCorrupt q pages).index[n]? = some { e with corrupt := b } ∧
      (b = true ↔ e.corrupt = true ∨ r.hit q pages e = true) := by
  have hget : (r.flagCorrupt q pages).index[n]? = some (if r.hit q pages e then { e with corrupt := true } else e) := by
    rw [Lane.flagCorrupt, List.getElem?_map, he]
    rfl
  rw [hget]
  cases r.hit q pages e with
  | true => exact ⟨true, rfl, by simp⟩
  | false => exact ⟨e.corrupt, rfl, by simp⟩

theorem Lane.flagCorrupt_length (q : LaneRequest) (pages : List PageRead) (r : Lane) :
    (r.flagCorrupt q pages).index.length = r.index.length := List.length_map _

/-! ### The units of a request in the ring (R71) -/

/-- A unit that has arrived: its bytes are those of the request's data from its place on. -/
def Lane.arrived (q : LaneRequest) (data : List Byte) (r : Lane) (u : RingUnit) : RingUnit :=
  if u.arrived then u
  else
    let at_ := 12 + 10 * r.desc.units + ((r.index[u.unit]?).map (·.offset)).getD 0 - 4096 * (q.start / 4096)
    { u with arrived := true, bytes := (data.drop at_).take u.length }

theorem Lane.arrive_eq (q : LaneRequest) (data : List Byte) (r : Lane) :
    r.arrive q data = { r with request := none, ring := r.ring.map (r.arrived q data) } := rfl

/-- A unit arrives with its place, pass and length kept. -/
theorem Lane.arrived_frame (q : LaneRequest) (data : List Byte) (r : Lane) (u : RingUnit) :
    (r.arrived q data u).arrived = true ∧ (r.arrived q data u).unit = u.unit ∧ (r.arrived q data u).pass = u.pass ∧
      (r.arrived q data u).length = u.length := by
  unfold Lane.arrived
  split
  next h => exact ⟨h, rfl, rfl, rfl⟩
  next => exact ⟨rfl, rfl, rfl, rfl⟩

theorem Lane.arrived_of_entry {q : LaneRequest} {data : List Byte} {r : Lane} {u : RingUnit} {e : UnitEntry}
    (he : r.index[u.unit]? = some e) : r.arrived q data u = if u.arrived then u else
      { u with
        arrived := true
        bytes := (data.drop (12 + 10 * r.desc.units + e.offset - 4096 * (q.start / 4096))).take u.length } := by
  rw [Lane.arrived, he]
  rfl

/-! ### The end of an operation of a request (R70, R71) -/

section UnitsEnd

variable {s : State} {l : Fin 3} {p : PortOp} {run : Run} {pages : List PageRead} {q : LaneRequest} {uid : Nat}
  (hp : s.store.port = some p) (hr : p.releaseReader = none) (hq : (s.lane l).request = some q)
  (hc : (s.lane l).clip = some uid)
include hp hr

/-- The state with the read's pages reported and its port free. -/
theorem portEnd_reportPages : portEnd (reportPages uid run pages s) =
    (reportPages uid run pages s).setStore (s.store.portFreed p) := by
  obtain ⟨c, k, hframe⟩ := reportPages_frame uid run pages s
  have hstore : (reportPages uid run pages s).store = s.store := by rw [hframe]
  rw [portEnd_none (hstore.symm ▸ hp) hr, hstore]

include hq hc

theorem unitsReadEnd_next {n : Run} {more : List Run} (hrest : q.rest = n :: more) : unitsReadEnd l run pages s =
    laneAdvance l (((reportPages uid run pages s).setStore
      ((s.store.portFreed p).place (.laneUnits l) .lane (.pageRead n))).setLane l { (s.lane l).flagCorrupt q pages with
        request := some { q with
          nextPage := q.nextPage + run.count, rest := more, data := q.data ++ pages.flatMap pageBytes } }) := by
  obtain ⟨c, k, hframe⟩ := reportPages_frame uid run pages s
  have hlane : ((reportPages uid run pages s).setStore (s.store.portFreed p)).lane l = s.lane l := by rw [hframe]; rfl
  simp only [unitsReadEnd, hq, hc, portEnd_reportPages hp hr, hrest, hlane]
  rfl

theorem unitsReadEnd_last (hrest : q.rest = []) : unitsReadEnd l run pages s =
    laneAdvance l (((reportPages uid run pages s).setStore (s.store.portFreed p)).setLane l
      (((s.lane l).flagCorrupt q pages).arrive q (q.data ++ pages.flatMap pageBytes))) := by
  obtain ⟨c, k, hframe⟩ := reportPages_frame uid run pages s
  have hlane : ((reportPages uid run pages s).setStore (s.store.portFreed p)).lane l = s.lane l := by rw [hframe]; rfl
  simp only [unitsReadEnd, hq, hc, portEnd_reportPages hp hr, hrest, hlane]

/-- Whatever is left of the request, the pages are reported, their flags set, and the lane deals with its decode position. -/
theorem unitsReadEnd_frame : ∃ ring request st, unitsReadEnd l run pages s =
    laneAdvance l (((reportPages uid run pages s).setStore st).setLane l
      { (s.lane l).flagCorrupt q pages with ring := ring, request := request }) := by
  cases hrest : q.rest with
  | nil => exact ⟨_, _, _, unitsReadEnd_last hp hr hq hc hrest⟩
  | cons n more => exact ⟨_, _, _, unitsReadEnd_next hp hr hq hc hrest⟩

theorem unitsReadEnd_mount : (unitsReadEnd l run pages s).store.mount = s.store.mount := by
  cases hrest : q.rest with
  | nil =>
    rw [unitsReadEnd_last hp hr hq hc hrest, laneAdvance_mount]
    exact Store.portFreed_mount p s.store
  | cons n more =>
    rw [unitsReadEnd_next hp hr hq hc hrest, laneAdvance_mount, State.setLane_store, State.setStore_store,
      Store.place_of_free (Store.portFreed_port p s.store)]
    exact Store.portFreed_mount p s.store

/-- The end of an operation of a request that its lane still waits for, no mount waiting for the port. -/
theorem exec_unitsReadEnd (hl : s.power.resetLow = false) (hop : p.op = .pageRead run) (hn : pages.length = run.count)
    (hpurpose : p.purpose = .laneUnits l) (ho : p.orphan = false) (hm : s.store.mount = .none) :
    exec (.laneReadDone l pages) s = .next ((eraserStep (unitsReadEnd l run pages s)).seenSince s) := by
  rw [exec_laneReadDone hl hp hop hn hpurpose, ho, if_neg Bool.false_ne_true,
    mountIfWaiting_of_none ((unitsReadEnd_mount hp hr hq hc).trans hm)]

end UnitsEnd

end Sys2Proof.Machine
end

section
/-!
Lane reads fill the ring (R67, R69 to R72, R201): the statement, from the header read, the issue of a request and the end of its
operations.
-/

namespace Sys2Proof.Machine

open Sys2Proof

/-- A port without followers and without releases waiting is free and nothing else. -/
theorem Store.portFreed_idle {p : PortOp} {st : Store} (h : st.heldBack = []) (hu : p.releaseUnits = []) :
    st.portFreed p = { st with port := none } := by
  have hnone : st.portFreed p = { st with
      port := none
      arbiter := st.arbiter ++ st.heldBack.filter fun w : WaitingOp => clientOf w.purpose == clientOf p.purpose
      heldBack := st.heldBack.filter fun w => !(clientOf w.purpose == clientOf p.purpose) } := by
    rw [Store.portFreed, hu]
    rfl
  rw [hnone, h, List.filter_nil, List.filter_nil, List.append_nil]

section HeaderRead

variable {s : State} {l : Fin 3} {p : PortOp} {run : Run} {pages : List PageRead} {h : HeaderRead} {uid : Nat}
  (hl : s.power.resetLow = false) (hp : s.store.port = some p) (hpurpose : p.purpose = .laneHeader l)
  (hop : p.op = .pageRead run) (ho : p.orphan = false) (hr : p.releaseReader = none) (hn : pages.length = run.count)
  (hm : s.store.mount = .none) (hh : (s.lane l).header = some h) (hc : (s.lane l).clip = some uid)
include hl hp hpurpose hop ho hr hn hm hh hc

/-- A header read with more to read asks for the next run (R67). -/
theorem headerRead_goes_on {n : Run} {more : List Run} (hread : pages.all readable = true) (hrest : h.rest = n :: more)
    (hback : s.store.heldBack = []) : ∃ t rest, exec (.laneHeaderReadDone l pages) s = .next t ∧
      (t.lane l).header = some { rest := more, data := h.data ++ pages.flatMap pageBytes } ∧
      t.store.arbiter = s.store.arbiter ++ { purpose := .laneHeader l, cls := .lane, op := .pageRead n, passed := 0 } :: rest := by
  have hend := headerReadEnd_next (run := run) hp hr hh hc hread hrest
  have hmount : (headerReadEnd l run pages s).store.mount = .none := by
    rw [hend, State.setStore_store, Store.place_of_free (Store.portFreed_port p s.store)]
    exact (Store.portFreed_mount p s.store).trans hm
  obtain ⟨rest, hrest'⟩ := place_portFreed_eraser (purpose := .laneHeader l) (cls := .lane) (op := .pageRead n) (p := p) hback
  refine ⟨_, rest, exec_headerReadEnd hl hp hop hn hpurpose ho hmount, ?_, ?_⟩
  · rw [State.lane_seenSince, eraserStep_lane, hend]
    exact congrArg Lane.header (State.lane_setLane _ l _)
  · rw [State.seenSince_store, eraserStep, State.setStore_store, hend]
    exact hrest'

/-- The last header read leaves the lane with its clip's index when header and index pass (R67). -/
theorem headerRead_ends {a : Asset} (hread : pages.all readable = true) (hrest : h.rest = [])
    (ha : s.catalog.record uid = some a) (hok : clipTestsOk a (h.data ++ pages.flatMap pageBytes) = true) :
    ∃ t, exec (.laneHeaderReadDone l pages) s = .next t ∧ t.lane l = { s.lane l with
      header := none
      index := (List.range a.desc.units).map (unitEntryAt (h.data ++ pages.flatMap pageBytes))
      desc := { width := a.desc.width, height := a.desc.height, period := fieldAt (h.data ++ pages.flatMap pageBytes) 6 2
                units := a.desc.units } } := by
  have hend := (headerReadEnd_last (run := run) hp hr hh hc hread hrest ha).trans (checkHeader_ok hok)
  have hmount : (headerReadEnd l run pages s).store.mount = .none := by
    rw [hend]
    exact (Store.portFreed_mount p s.store).trans hm
  refine ⟨_, exec_headerReadEnd hl hp hop hn hpurpose ho hmount, ?_⟩
  rw [State.lane_seenSince, eraserStep_lane, hend, State.lane_setLane]
  rfl

/-- A header read that cannot be read, or whose header or index fails, holds the lane with cause DAMAGED (R67). -/
theorem headerRead_fails {a : Asset} (ha : s.catalog.record uid = some a)
    (hbad : pages.all readable = false ∨ h.rest = [] ∧ clipTestsOk a (h.data ++ pages.flatMap pageBytes) = false) :
    ∃ t, exec (.laneHeaderReadDone l pages) s = .next t ∧
      t.lane l = { (s.lane l).tornDown .held false with heldCause := some .damaged, pendingTag := none } ∧
      (s.link.helloSent = true → s.link.occupancy < 39 →
        ({ kind := 0xE4, tag := 0, payload := [byteOf l.val, 3] } : LinkMsg) ∈ t.link.queued) ∧
      ∀ tag, (s.lane l).pendingTag = some tag → replyMsg 0x40 tag .damaged [] .nothing ∈ t.link.queued := by
  have hend := headerReadEnd_fails (run := run) hp hr hh hc ha hbad
  obtain ⟨c, k, hframe⟩ := reportPages_frame uid run pages s
  have hlane : ((reportPages uid run pages s).setStore (s.store.portFreed p)).lane l = s.lane l := by rw [hframe]; rfl
  have hmount : (headerReadEnd l run pages s).store.mount = .none := by
    rw [hend, laneHeld_mount]
    exact (Store.portFreed_mount p s.store).trans hm
  obtain ⟨hhello, hroom⟩ := reportPages_room ha hn
  refine ⟨_, exec_headerReadEnd hl hp hop hn hpurpose ho hmount, ?_⟩
  rw [State.lane_seenSince, eraserStep_lane, State.seenSince_link, eraserStep_link, hend, laneHeld_lane, hlane]
  refine ⟨rfl, fun hs hocc => laneHeld_notice l .damaged .damaged _ (hhello.trans hs) ?_,
    fun tag htag => laneHeld_reply l .damaged .damaged _ (hlane.symm ▸ htag)⟩
  exact Nat.lt_of_le_of_lt hroom (by omega)

end HeaderRead

section UnitsRead

variable {s : State} {l : Fin 3} {p : PortOp} {run : Run} {pages : List PageRead} {q : LaneRequest} {uid : Nat}
  (hl : s.power.resetLow = false) (hp : s.store.port = some p) (hpurpose : p.purpose = .laneUnits l)
  (hop : p.op = .pageRead run) (ho : p.orphan = false) (hr : p.releaseReader = none) (hn : pages.length = run.count)
  (hm : s.store.mount = .none) (hq : (s.lane l).request = some q) (hc : (s.lane l).clip = some uid)
include hl hp hpurpose hop ho hr hn hm hq hc

/-- The last operation of a request puts its units into the ring (R71). -/
theorem unitsRead_arrive (hread : pages.all readable = true) (hrest : q.rest = [])
    (hf : (s.lane l).state = .playing ∨ (s.lane l).state = .starved ∨ (s.lane l).state = .priming ∧
      ((s.lane l).decodePos.pass = 0 ∨ (s.lane l).ready = true ∨ (s.lane l).queue ≠ []))
    (hs : (s.lane l).skipping = false) (hclean : ∀ e ∈ (s.lane l).index, e.corrupt = false) :
    ∃ t ready timer, exec (.laneReadDone l pages) s = .next t ∧ t.store.port = none ∧ t.lane l = { s.lane l with
      request := none, ring := (s.lane l).ring.map ((s.lane l).arrived q (q.data ++ pages.flatMap pageBytes))
      ready := ready, stallTimer := timer } := by
  obtain ⟨ready, timer, htest⟩ := ((s.lane l).arrive q (q.data ++ pages.flatMap pageBytes)).readyTest_frame
  have hend : unitsReadEnd l run pages s = (s.setStore (s.store.portFreed p)).setLane l
      ((s.lane l).arrive q (q.data ++ pages.flatMap pageBytes)).readyTest := by
    rw [unitsReadEnd_last hp hr hq hc hrest, reportPages_readable uid run s hread, Lane.flagCorrupt_readable q _ hread]
    exact laneAdvance_still hs hclean (Lane.primingFailed_eq_false hf)
  refine ⟨_, ready, timer, exec_unitsReadEnd hp hr hq hc hl hop hn hpurpose ho hm, ?_, ?_⟩
  · rw [State.seenSince_store, eraserStep, State.setStore_store, (Store.eraser_asks _).1, hend]
    exact Store.portFreed_port p s.store
  · rw [State.lane_seenSince, eraserStep_lane, hend, State.lane_setLane, htest]
    rfl

/-- After the last operation of a request the lane deals with its decode position (R71, R73). -/
theorem unitsRead_advances (hread : pages.all readable = true) (hrest : q.rest = []) (hback : s.store.heldBack = [])
    (hu : p.releaseUnits = []) : exec (.laneReadDone l pages) s =
      .next ((eraserStep (laneAdvance l ((s.setStore { s.store with port := none }).setLane l { s.lane l with
        request := none, ring := (s.lane l).ring.map ((s.lane l).arrived q (q.data ++ pages.flatMap pageBytes)) }))).seenSince s) := by
  rw [exec_unitsReadEnd hp hr hq hc hl hop hn hpurpose ho hm, unitsReadEnd_last hp hr hq hc hrest,
    reportPages_readable uid run s hread, Lane.flagCorrupt_readable q _ hread, Store.portFreed_idle hback hu]
  rfl

/-- An operation with more to read asks for the next run (R70). -/
theorem unitsRead_goes_on {n : Run} {more : List Run} (hrest : q.rest = n :: more) (hread : pages.all readable = true)
    (hback : s.store.heldBack = []) (hplay : (s.lane l).state = .playing) (hs : (s.lane l).skipping = false)
    (hclean : ∀ e ∈ (s.lane l).index, e.corrupt = false) :
    ∃ t rest, exec (.laneReadDone l pages) s = .next t ∧ (t.lane l).ring = (s.lane l).ring ∧ (t.lane l).state = .playing ∧
      (t.lane l).request = some { q with
        nextPage := q.nextPage + run.count, rest := more, data := q.data ++ pages.flatMap pageBytes } ∧
      t.store.arbiter = s.store.arbiter ++ { purpose := .laneUnits l, cls := .lane, op := .pageRead n, passed := 0 } :: rest := by
  have hend : unitsReadEnd l run pages s = (s.setStore ((s.store.portFreed p).place (.laneUnits l) .lane (.pageRead n))).setLane l
      { s.lane l with request := some { q with
        nextPage := q.nextPage + run.count, rest := more, data := q.data ++ pages.flatMap pageBytes } } := by
    rw [unitsReadEnd_next hp hr hq hc hrest, reportPages_readable uid run s hread, Lane.flagCorrupt_readable q _ hread]
    exact (laneAdvance_still (by exact hs) (by exact hclean) (Lane.primingFailed_eq_false (.inl (by exact hplay)))).trans
      (congrArg _ (Lane.readyTest_of_not_primed (Lane.not_primed_of_playing hplay)))
  obtain ⟨rest, hrest'⟩ := place_portFreed_eraser (purpose := .laneUnits l) (cls := .lane) (op := .pageRead n) (p := p) hback
  refine ⟨_, rest, exec_unitsReadEnd hp hr hq hc hl hop hn hpurpose ho hm, ?_⟩
  rw [State.lane_seenSince, eraserStep_lane, State.seenSince_store, eraserStep, State.setStore_store, hend, State.lane_setLane]
  exact ⟨rfl, hplay, rfl, hrest'⟩

/-- Of a PLAYING lane an operation sets the corrupt flags its pages give, and its pages are reported (R71, R108). -/
theorem unitsRead_flags (hplay : (s.lane l).state = .playing) : ∃ t, exec (.laneReadDone l pages) s = .next t ∧
    (t.lane l).state = .playing ∧ (t.lane l).index = ((s.lane l).flagCorrupt q pages).index ∧
    t.catalog = (reportPages uid run pages s).catalog ∧ t.link = (reportPages uid run pages s).link := by
  obtain ⟨ring, request, st, hend⟩ := unitsReadEnd_frame (run := run) (pages := pages) hp hr hq hc
  obtain ⟨ring', fill, demand, pos, skipping, count, hadvance, -⟩ :=
    laneAdvance_frame (l := l) (s := ((reportPages uid run pages s).setStore st).setLane l
      { (s.lane l).flagCorrupt q pages with ring := ring, request := request })
      (.inl (by rw [State.lane_setLane]; exact fun h => by cases hplay.symm.trans h))
  rw [State.lane_setLane, State.setLane_setLane, Lane.readyTest_of_not_primed] at hadvance
  swap
  · exact Lane.not_primed_of_playing hplay
  refine ⟨_, exec_unitsReadEnd hp hr hq hc hl hop hn hpurpose ho hm, ?_⟩
  rw [State.lane_seenSince, eraserStep_lane, State.seenSince_catalog, State.seenSince_link, eraserStep_link, hend, hadvance,
    State.lane_setLane]
  exact ⟨hplay, rfl, rfl, rfl⟩

end UnitsRead

end Sys2Proof.Machine
end

section
/-!
Lane reads fill the ring (R67, R69 to R72, R201): the issue of a request read off the lane's record, and the statement.
-/

namespace Sys2Proof.Machine

open Sys2Proof

/-- A request that fits is issued: the units are claimed, the first read placed, and the read position moved on (R69, R70, R72). -/
theorem laneReadIssue_issues {s : State} {l : Fin 3} {a : Asset} {uid : Nat} {us : List UnitEntry} {total : Nat}
    (hl : s.power.resetLow = false) (hm : (s.lane l).mayRead = true) (hc : (s.lane l).clip = some uid)
    (ha : s.catalog.record uid = some a) (hus : requestUnits ((s.lane l).index.drop (s.lane l).readPos.unit) = us)
    (hne : us ≠ []) (htotal : (us.map (·.length)).sum = total) (hfit : (s.lane l).fill + total ≤ 524287) :
    ∃ t q, exec (.laneReadIssue l) s = .next t ∧
      t.lane l = ((s.lane l).claim us q).advanceRead ((s.lane l).readPos.unit + us.length) a.inLive ∧
      (∀ (first last : UnitEntry) (run : Run) (more : List Run), us.head? = some first → us.getLast? = some last →
        (s.lane l).runsFor a first last = run :: more → q = (s.lane l).requestFor first last (run :: more) ∧
          s.store.placed (.laneUnits l) .lane (.pageRead run) t.store) ∧
      t.link = s.link ∧ t.catalog = s.catalog ∧ ∀ m : Fin 3, m ≠ l → t.lane m = s.lane m := by
  obtain ⟨first, hfirst⟩ : ∃ first, us.head? = some first := ⟨_, List.head?_eq_some_head hne⟩
  obtain ⟨last, hlast⟩ : ∃ last, us.getLast? = some last := ⟨_, List.getLast?_eq_some_getLast hne⟩
  obtain ⟨hlane, hother, hlink, hcatalog, hplaced⟩ :=
    laneReadIssueStep_issues hus hfirst hlast hc ha hm (htotal.symm ▸ hfit)
  refine ⟨_, _, exec_laneReadIssue hl, by rw [State.lane_seenSince]; exact hlane, fun first' last' run more h h' hruns => ?_,
    by rw [State.seenSince_link]; exact hlink, by rw [State.seenSince_catalog]; exact hcatalog,
    fun m hne => by rw [State.lane_seenSince]; exact hother m hne⟩
  obtain rfl : first = first' := Option.some.inj (hfirst.symm.trans h)
  obtain rfl : last = last' := Option.some.inj (hlast.symm.trans h')
  rw [State.seenSince_store, hruns]
  exact ⟨rfl, hplaced run more hruns⟩

/-- Settles O55: header and index, claims of ring space, and the units of a request in the ring. -/
theorem laneReadsFillTheRing : Obligations.LaneReadsFillTheRing := by
  unfold Obligations.LaneReadsFillTheRing
  intro pagesOf
  refine ⟨fun rs n => ⟨pageNumbers_readRuns rs, pageNumbers_takePages n rs, pageNumbers_dropPages n rs, rfl,
      fun r hr => readRuns_within hr⟩, clipHeaderOk_iff, unitEntryAt_eq, fun data n length hn => clipIndexOk_iff data length hn,
    fun es hes => requestUnits_spec hes, fun s l hl => ⟨?header, ?fails, Lane.mayRead_iff _, ?idle, ?issue, ?units⟩⟩
  case header =>
    intro p run pages h uid hp hpurpose hop ho hr hn hread hm hh hc data
    refine ⟨fun n more hrest hback => headerRead_goes_on hl hp hpurpose hop ho hr hn hm hh hc hread hrest hback,
      fun a hrest ha hheader hindex => ?_⟩
    have hok : clipTestsOk a data = true := by rw [clipTestsOk, hheader, hindex]; rfl
    obtain ⟨t, hexec, hlane⟩ := headerRead_ends hl hp hpurpose hop ho hr hn hm hh hc hread hrest ha hok
    refine ⟨t, hexec, ?_⟩
    rw [hlane]
    exact ⟨rfl, rfl, rfl, rfl⟩
  case fails =>
    intro p run pages h uid a hp hpurpose hop ho hr hn hm hh hc ha data hbad
    have htests : pages.all readable = false ∨ h.rest = [] ∧ clipTestsOk a data = false := by
      simpa only [clipTestsOk, Bool.and_eq_false_iff] using hbad
    obtain ⟨t, hexec, hlane, hnotice, hreply⟩ := headerRead_fails hl hp hpurpose hop ho hr hn hm hh hc ha htests
    refine ⟨t, hexec, ?_⟩
    rw [hlane]
    exact ⟨rfl, rfl, rfl, rfl, rfl, hnotice, fun tag htag => ⟨rfl, hreply tag htag⟩⟩
  case idle =>
    intro hm
    exact exec_laneReadIssue_nothing hl (laneReadIssueStep_nothing fun h => by cases hm.symm.trans h.1)
  case issue =>
    intro a uid hm hc ha hpos us total
    refine ⟨fun hbig => exec_laneReadIssue_nothing hl (laneReadIssueStep_nothing fun h => absurd h.2 (Nat.not_le.2 hbig)),
      fun hfit hunits => ?_⟩
    obtain ⟨-, -, -, hdemand, hstopped, -⟩ := (s.lane l).mayRead_iff.1 hm
    have hne : us ≠ [] := (requestUnits_spec (List.ne_nil_of_length_pos (by rw [List.length_drop]; omega))).2.1
    obtain ⟨t, q, hexec, hlane, hplaced, hlink, hcatalog, hother⟩ := laneReadIssue_issues hl hm hc ha rfl hne rfl hfit
    obtain ⟨pos, stopped, final, loops, reason, hframe⟩ :=
      ((s.lane l).claim us q).advanceRead_frame ((s.lane l).readPos.unit + us.length) a.inLive
    refine ⟨t, hexec, ?fill, ?request, ?ring, ?queue, ?state, ?demand, ?placed, fun hlt => ?_,
      fun heq => ⟨fun hend hloops hlive hk => ?_, fun hstop => ?_⟩, hlink, hcatalog, hother⟩
    case placed =>
      intro first last run more hf hla start stop hruns
      obtain ⟨hq, hst⟩ := hplaced first last run more hf hla hruns
      rw [hlane, hframe]
      exact ⟨congrArg some hq, hst⟩
    all_goals rw [hlane]
    case fill | request | queue | state => rw [hframe]; rfl
    case ring => rw [hframe]; exact Lane.claim_ring_length us q _
    case demand => rw [hframe]; exact Lane.claim_demand us q hdemand
    · rw [Lane.advanceRead_of_lt (by exact hlt)]
      exact ⟨rfl, hstopped⟩
    · rw [Lane.advanceRead_loops (by exact heq) (by exact hend) (by exact hloops) hlive (by exact hk)]
      exact ⟨rfl, hstopped, rfl⟩
    · rw [Lane.advanceRead_stops (by exact heq) (by exact hstop)]
      exact ⟨rfl, rfl, rfl, rfl⟩
  case units =>
    intro p run pages q uid hp hpurpose hop ho hr hn hm hq hc base data
    refine ⟨fun hread hrest hf hs hclean => ?_, fun hread hrest hback hu => ?_, fun n more hrest hread hback hplay hs hclean =>
      unitsRead_goes_on hl hp hpurpose hop ho hr hn hm hq hc hrest hread hback hplay hs hclean, fun hplay => ?_⟩
    · obtain ⟨t, ready, timer, hexec, hport, hlane⟩ :=
        unitsRead_arrive hl hp hpurpose hop ho hr hn hm hq hc hread hrest hf hs hclean
      refine ⟨t, hexec, hport, ?_⟩
      rw [hlane]
      refine ⟨rfl, List.forall_mem_map.2 fun u _ => ((s.lane l).arrived_frame q data u).1, List.length_map _,
        fun n u e hu he => ?_, rfl, rfl, rfl, rfl⟩
      rw [← Lane.arrived_of_entry he, List.getElem?_map, hu]
      rfl
    · refine ⟨_, unitsRead_advances hl hp hpurpose hop ho hr hn hm hq hc hread hrest hback hu, ?_,
        List.forall_mem_map.2 fun u _ => ((s.lane l).arrived_frame q data u).1⟩
      rw [List.map_map]
      refine List.map_congr_left fun u _ => ?_
      obtain ⟨-, hunit, hpass, hlength⟩ := (s.lane l).arrived_frame q data u
      simp only [Function.comp_apply]
      rw [hunit, hpass, hlength]
    · obtain ⟨t, hexec, hstate, hindex, hcatalog, hlink⟩ := unitsRead_flags hl hp hpurpose hop ho hr hn hm hq hc hplay
      refine ⟨t, hexec, hstate, by rw [hindex, Lane.flagCorrupt_length], fun n e he => ?_,
        fun a pre post pg ha hpages hpre hbad => ?_⟩
      · rw [hindex]
        obtain ⟨b, hget, hb⟩ := Lane.flagCorrupt_getElem? (q := q) (pages := pages) he
        exact ⟨b, hget, hb.trans (or_congr_right (Lane.hit_iff q pages _ e))⟩
      · subst hpages
        rw [hcatalog, hlink, reportPages_first ha hn hpre hbad, reportDamage_record ha]
        refine ⟨rfl, fun hd => by rw [reportDamage_of_damaged ha hd], fun hd => ?_⟩
        rw [reportDamage_of_fresh ha hd]
        exact notice_link_congr _ _ rfl

end Sys2Proof.Machine
end

section
/-!
Scanout's records across the other blocks (R89, R91, R25): no operation of the Link, the Plan Unit, the Still Cache, the Lane Engine,
the Catalog or the Store Controller writes a screen record or a pass context, which is said once for each.
-/

namespace Sys2Proof.Machine

open Sys2Proof

/-- What Scanout and the Compositor hold: the screen records with the panel pins, the matrices and the pass contexts (R25, R89). -/
def State.scanout (s : State) : Two Screen × Two CompScreen := (s.screens, s.comp)

/-! ### Updates of other blocks -/

section Updates

variable (s : State)

@[simp] theorem scanout_setLink (l : Link) : (s.setLink l).scanout = s.scanout := rfl
@[simp] theorem scanout_setPlan (i : Fin 2) (p : PlanScreen) : (s.setPlan i p).scanout = s.scanout := rfl
@[simp] theorem scanout_setLight (i : Fin 2) (l : LightScreen) : (s.setLight i l).scanout = s.scanout := rfl
@[simp] theorem scanout_setLightAll (l : Light) : (s.setLightAll l).scanout = s.scanout := rfl
@[simp] theorem scanout_setCache (c : StillCache) : (s.setCache c).scanout = s.scanout := rfl
@[simp] theorem scanout_setStore (st : Store) : (s.setStore st).scanout = s.scanout := rfl
@[simp] theorem scanout_setCatalog (c : Catalog) : (s.setCatalog c).scanout = s.scanout := rfl
@[simp] theorem scanout_setPower (p : Power) : (s.setPower p).scanout = s.scanout := rfl
@[simp] theorem scanout_setLane (l : Fin 3) (r : Lane) : (s.setLane l r).scanout = s.scanout := rfl
@[simp] theorem scanout_setGlyphMemory (g : Option (List Byte)) : (s.setGlyphMemory g).scanout = s.scanout := rfl
@[simp] theorem scanout_setIntake (k : Intake) : (s.setIntake k).scanout = s.scanout := rfl
@[simp] theorem scanout_setPublish (p : Publish) : (s.setPublish p).scanout = s.scanout := rfl
@[simp] theorem scanout_setTest (t : SelfTest) : (s.setTest t).scanout = s.scanout := rfl
@[simp] theorem scanout_reply (kind tag : Nat) (st : Status) (data : List Byte) : (reply kind tag st data s).scanout = s.scanout := rfl
@[simp] theorem scanout_notice (kind : Nat) (payload : List Byte) : (notice kind payload s).scanout = s.scanout := by
  obtain ⟨l, h⟩ := notice_link kind payload s
  rw [h]
  rfl
@[simp] theorem scanout_holdPlace : (holdPlace s).scanout = s.scanout := rfl
@[simp] theorem scanout_eraserStep : (eraserStep s).scanout = s.scanout := rfl
@[simp] theorem scanout_emptyCatalog : (emptyCatalog s).scanout = s.scanout := rfl
@[simp] theorem scanout_beginMount : (beginMount s).scanout = s.scanout := rfl
@[simp] theorem scanout_mountIfWaiting : (mountIfWaiting s).scanout = s.scanout := by
  unfold mountIfWaiting
  split <;> simp

end Updates

/-- A list of steps that each leave Scanout alone leaves it alone. -/
theorem scanout_foldl {α : Type} {f : State → α → State} (hf : ∀ s x, (f s x).scanout = s.scanout) (xs : List α) (s : State) :
    (xs.foldl f s).scanout = s.scanout := by
  induction xs generalizing s with
  | nil => rfl
  | cons x xs ih => exact (ih (f s x)).trans (hf s x)

/-! ### Records, readers and what stops with the store (R82, R85, R106 to R108, R119, R123, R134, R142) -/

section Shared

theorem LaneWork.scanout {s t : State} (h : LaneWork s t) : t.scanout = s.scanout := by
  obtain ⟨_, _, _, _, rfl, -⟩ := h
  rfl

theorem Settling.scanout {s t : State} (h : Settling s t) : t.scanout = s.scanout := by
  obtain ⟨_, _, _, _, rfl⟩ := h
  rfl

theorem GlyphWork.scanout {s t : State} (h : GlyphWork s t) : t.scanout = s.scanout := by
  obtain ⟨_, _, _, _, _, _, _, _, rfl⟩ := h
  rfl

variable (s : State)

@[simp] theorem scanout_settleRecord (uid : Nat) : (settleRecord uid s).scanout = s.scanout := (settling_settleRecord uid s).scanout
@[simp] theorem scanout_settleRecords (uids : List Nat) : (settleRecords uids s).scanout = s.scanout :=
  (settling_settleRecords uids s).scanout
@[simp] theorem scanout_dropStaged (uid : Nat) : (dropStaged uid s).scanout = s.scanout := by simp [dropStaged]
@[simp] theorem scanout_takeReader (uid : Nat) : (takeReader uid s).scanout = s.scanout := rfl
@[simp] theorem scanout_releaseReader (uid : Nat) : (releaseReader uid s).scanout = s.scanout := (settling_releaseReader uid s).scanout
@[simp] theorem scanout_reportPages (uid : Nat) (run : Run) (pages : List PageRead) :
    (reportPages uid run pages s).scanout = s.scanout := by
  obtain ⟨c, l, h⟩ := reportPages_frame uid run pages s
  rw [h]
  rfl
@[simp] theorem scanout_portEnd : (portEnd s).scanout = s.scanout := by
  unfold portEnd
  split
  · rfl
  · dsimp only
    split <;> simp

@[simp] theorem scanout_failLoad (k : Nat) (listed : Bool) : (failLoad k listed s).scanout = s.scanout := by
  obtain ⟨ca, c, st, h⟩ := failLoad_frame k listed s
  rw [h]
  rfl
@[simp] theorem scanout_failWaitingLoads : (failWaitingLoads s).scanout = s.scanout := by
  obtain ⟨ca, c, st, h⟩ := failWaitingLoads_frame s
  rw [h]
  rfl
@[simp] theorem scanout_failGlyphLoad : (failGlyphLoad s).scanout = s.scanout := by
  obtain ⟨c, st, h⟩ := failGlyphLoad_frame s
  rw [h]
  rfl
@[simp] theorem scanout_failWaitingGlyph : (failWaitingGlyph s).scanout = s.scanout := by
  obtain ⟨c, st, h⟩ := failWaitingGlyph_frame s
  rw [h]
  rfl
@[simp] theorem scanout_failIntake (status : Status) : (failIntake status s).scanout = s.scanout := by
  obtain ⟨c, st, l, h⟩ := failIntake_frame status s
  rw [h]
  rfl
@[simp] theorem scanout_failPublish : (failPublish s).scanout = s.scanout := by
  obtain ⟨c, st, l, h⟩ := failPublish_frame s
  rw [h]
  rfl
@[simp] theorem scanout_failStream (image : Bool) (status : Status) : (failStream image status s).scanout = s.scanout := by
  unfold failStream
  split <;> simp
@[simp] theorem scanout_failRootWrites (status : Status) : (failRootWrites status s).scanout = s.scanout := by
  obtain ⟨st, p, l, h⟩ := failRootWrites_frame status s
  rw [h]
  rfl
@[simp] theorem scanout_becomeReadOnly (cause : StoreCause) : (becomeReadOnly cause s).scanout = s.scanout := by
  obtain ⟨c, st, p, l, h⟩ := becomeReadOnly_frame cause s
  rw [h]
  rfl
@[simp] theorem scanout_addBad (u : Nat) : (addBad u s).scanout = s.scanout := by
  obtain ⟨c, st, p, l, h⟩ := addBad_frame u s
  rw [h]
  rfl
@[simp] theorem scanout_stateNotice (prev : StoreState) (cause : StoreCause) : (stateNotice prev cause s).scanout = s.scanout :=
  scanout_notice s _ _

end Shared

/-! ### Lanes (R63 to R88) -/

section Lanes

variable (l : Fin 3) (s : State)

@[simp] theorem scanout_teardown (goal : LaneState) (keepShow : Bool) : (teardown l goal keepShow s).scanout = s.scanout :=
  (laneWork_teardown l goal keepShow s).scanout
@[simp] theorem scanout_answerPlay (status : Status) (data : List Byte) : (answerPlay l status data s).scanout = s.scanout :=
  (laneWork_answerPlay l status data s).scanout
@[simp] theorem scanout_lanesVblank (i : Fin 2) : (lanesVblank i s).scanout = s.scanout := (laneWork_lanesVblank i s).scanout
@[simp] theorem scanout_laneHeld (cause : HeldCause) (status : Status) : (laneHeld l cause status s).scanout = s.scanout := by
  simp [laneHeld]
@[simp] theorem scanout_lanesStoreLoss : (lanesStoreLoss s).scanout = s.scanout :=
  scanout_foldl (fun s l => by split <;> simp) _ s
@[simp] theorem scanout_lanePowerStop : (lanePowerStop l s).scanout = s.scanout := by
  unfold lanePowerStop
  dsimp only
  split <;> simp [laneEndedNotice]
@[simp] theorem scanout_lanesScreenStop (i : Fin 2) : (lanesScreenStop i s).scanout = s.scanout :=
  scanout_foldl (fun s l => by split <;> simp) _ s
@[simp] theorem scanout_laneAdvance : (laneAdvance l s).scanout = s.scanout := by
  unfold laneAdvance
  dsimp only
  split <;> split <;> simp
@[simp] theorem scanout_startLane (tag title : Nat) (clock : Fin 2) (ea : EndAction) (loops stall : Nat) (a : Asset) :
    (startLane l tag title clock ea loops stall a s).scanout = s.scanout := by
  unfold startLane
  dsimp only
  split <;> simp
@[simp] theorem scanout_lanePlayOwner (tag lane clock action loops title stall : Nat) :
    (lanePlayOwner tag lane clock action loops title stall s).scanout = s.scanout := by
  unfold lanePlayOwner
  repeat' split
  all_goals simp
@[simp] theorem scanout_laneStopOwner (tag lane : Nat) : (laneStopOwner tag lane s).scanout = s.scanout := by
  unfold laneStopOwner
  split
  · rw [scanout_eraserStep, scanout_reply]
    repeat' split
    all_goals simp
  · simp
@[simp] theorem scanout_laneStatusOwner (tag lane : Nat) : (laneStatusOwner tag lane s).scanout = s.scanout := by
  unfold laneStatusOwner
  split <;> simp
@[simp] theorem scanout_orphanReadEnd (p : PortOp) (run : Run) (pages : List PageRead) :
    (orphanReadEnd p run pages s).scanout = s.scanout := by
  unfold orphanReadEnd
  split <;> simp
@[simp] theorem scanout_checkHeader (a : Asset) (data : List Byte) : (checkHeader l a data s).scanout = s.scanout := by
  unfold checkHeader
  dsimp only
  split <;> simp
@[simp] theorem scanout_headerReadEnd (run : Run) (pages : List PageRead) : (headerReadEnd l run pages s).scanout = s.scanout := by
  unfold headerReadEnd
  dsimp only
  repeat' split
  all_goals simp
@[simp] theorem scanout_unitsReadEnd (run : Run) (pages : List PageRead) : (unitsReadEnd l run pages s).scanout = s.scanout := by
  unfold unitsReadEnd
  repeat' split
  all_goals simp
@[simp] theorem scanout_laneHeaderReadDoneStep (pages : List PageRead) : (laneHeaderReadDoneStep l pages s).scanout = s.scanout := by
  unfold laneHeaderReadDoneStep
  repeat' split
  all_goals simp
@[simp] theorem scanout_laneReadDoneStep (pages : List PageRead) : (laneReadDoneStep l pages s).scanout = s.scanout := by
  unfold laneReadDoneStep
  repeat' split
  all_goals simp
@[simp] theorem scanout_laneReadIssueStep : (laneReadIssueStep l s).scanout = s.scanout := by
  unfold laneReadIssueStep
  dsimp only
  repeat' split
  all_goals simp
@[simp] theorem scanout_clipDecodeStartStep : (clipDecodeStartStep s).scanout = s.scanout := by
  unfold clipDecodeStartStep
  split <;> rfl
@[simp] theorem scanout_clipDecodeDoneStep (result : Option Picture) : (clipDecodeDoneStep result s).scanout = s.scanout := by
  unfold clipDecodeDoneStep
  dsimp only
  repeat' split
  · rfl
  · simp only [scanout_eraserStep, scanout_laneAdvance, scanout_setLane]
    rfl
  · rfl
@[simp] theorem scanout_stallTimerExpiryStep : (stallTimerExpiryStep l s).scanout = s.scanout := by
  unfold stallTimerExpiryStep
  split <;> simp

end Lanes

/-! ### Plans (R1 to R24) -/

section Plans

variable (s : State)

@[simp] theorem scanout_editPlan (kind tag screen : Nat) (rule : Plan → Except Status Plan) :
    (editPlan kind tag screen rule s).scanout = s.scanout := by
  unfold editPlan
  dsimp only
  repeat' split
  all_goals simp
@[simp] theorem scanout_planBackdropOwner (tag screen : Nat) (c : Rgb) : (planBackdropOwner tag screen c s).scanout = s.scanout :=
  scanout_editPlan s _ _ _ _
@[simp] theorem scanout_planWallOwner (tag screen presence : Nat) (rect : Rect) (cols rows gap border : Nat) (focus : Rgb) :
    (planWallOwner tag screen presence rect cols rows gap border focus s).scanout = s.scanout := scanout_editPlan s _ _ _ _
@[simp] theorem scanout_planTitlesOwner (tag screen start count : Nat) (titles : List Nat) :
    (planTitlesOwner tag screen start count titles s).scanout = s.scanout := scanout_editPlan s _ _ _ _
@[simp] theorem scanout_planItemOwner (tag screen index : Nat) (rect : Rect) (normal lit : Fill) (text : Rgb) (al scale : Nat)
    (glyphs : List Byte) : (planItemOwner tag screen index rect normal lit text al scale glyphs s).scanout = s.scanout :=
  scanout_editPlan s _ _ _ _
@[simp] theorem scanout_planItemClearOwner (tag screen index : Nat) : (planItemClearOwner tag screen index s).scanout = s.scanout :=
  scanout_editPlan s _ _ _ _
@[simp] theorem scanout_planWindowOwner (tag screen window lane : Nat) (rect : Rect) :
    (planWindowOwner tag screen window lane rect s).scanout = s.scanout := scanout_editPlan s _ _ _ _
@[simp] theorem scanout_planRevertOwner (tag screen : Nat) : (planRevertOwner tag screen s).scanout = s.scanout := by
  unfold planRevertOwner
  split <;> simp
@[simp] theorem scanout_presentOwner (tag screen kind length : Nat) : (presentOwner tag screen kind length s).scanout = s.scanout := by
  unfold presentOwner
  dsimp only
  repeat' split
  all_goals simp
@[simp] theorem scanout_scrollOwner (tag screen speed target : Nat) : (scrollOwner tag screen speed target s).scanout = s.scanout := by
  unfold scrollOwner
  dsimp only
  repeat' split
  all_goals simp
@[simp] theorem scanout_focusOwner (tag screen kind index : Nat) : (focusOwner tag screen kind index s).scanout = s.scanout := by
  unfold focusOwner
  split <;> simp
@[simp] theorem scanout_passStartWork (i : Fin 2) : (passStartWork i s).scanout = s.scanout := by
  obtain ⟨_, _, _, _, _, _, h, -⟩ := passStartWork_frame i s
  rw [h]
  rfl
@[simp] theorem scanout_planLeaveRunning (i : Fin 2) : (planLeaveRunning i s).scanout = s.scanout := by
  unfold planLeaveRunning
  dsimp only
  split <;> simp
@[simp] theorem scanout_plansOnSwitch : (plansOnSwitch s).scanout = s.scanout := rfl
@[simp] theorem scanout_announceSwitch : (announceSwitch s).scanout = s.scanout := by simp [announceSwitch]

end Plans

/-! ### Stills (R43 to R62) and the light (R151 to R163) -/

section Stills

variable (s : State)

@[simp] theorem scanout_nextStillRead (k : Nat) (cls : FetchClass) (rest : List Run) :
    (nextStillRead k cls rest s).scanout = s.scanout := by
  unfold nextStillRead
  split <;> simp
@[simp] theorem scanout_fetchTakeStep : (fetchTakeStep s).scanout = s.scanout := by
  unfold fetchTakeStep
  dsimp only
  repeat' split
  all_goals simp [startLoad]
@[simp] theorem scanout_stillReadEnd (k : Nat) (run : Run) (pages : List PageRead) :
    (stillReadEnd k run pages s).scanout = s.scanout := by
  unfold stillReadEnd
  dsimp only
  repeat' split
  all_goals simp
@[simp] theorem scanout_stillReadDoneStep (pages : List PageRead) : (stillReadDoneStep pages s).scanout = s.scanout := by
  unfold stillReadDoneStep
  repeat' split
  all_goals simp
@[simp] theorem scanout_stillDecodeStartStep : (stillDecodeStartStep s).scanout = s.scanout := by
  unfold stillDecodeStartStep
  split <;> simp
@[simp] theorem scanout_completeLoad (k : Nat) (l : Load) (i : Ident) (p : Picture) : (completeLoad k l i p s).scanout = s.scanout := by
  simp [completeLoad]
@[simp] theorem scanout_stillDecodeDoneStep (result : Option Picture) : (stillDecodeDoneStep result s).scanout = s.scanout := by
  unfold stillDecodeDoneStep
  dsimp only
  repeat' split
  all_goals simp
@[simp] theorem scanout_cacheInfoOwner (tag : Nat) : (cacheInfoOwner tag s).scanout = s.scanout := rfl
@[simp] theorem scanout_cacheFlushOwner (tag : Nat) : (cacheFlushOwner tag s).scanout = s.scanout := by simp [cacheFlushOwner]
@[simp] theorem scanout_sensorNotice (sensor : Nat) (before after : Sensor) (r : Option Int) :
    (sensorNotice sensor before after r s).scanout = s.scanout := by
  unfold sensorNotice
  repeat' split
  all_goals simp
@[simp] theorem scanout_noteSample : (noteSample s).scanout = s.scanout := rfl
@[simp] theorem scanout_processSample (r0 r1 r2 : Option Int) : (processSample r0 r1 r2 s).scanout = s.scanout := by
  simp [processSample]
@[simp] theorem scanout_sampleRead (reads : List (Option Int)) (r : Option Int) : (sampleRead reads r s).scanout = s.scanout := by
  unfold sampleRead
  split <;> simp
@[simp] theorem scanout_sampleTimerStep : (sampleTimerStep s).scanout = s.scanout := by
  unfold sampleTimerStep
  split <;> simp
@[simp] theorem scanout_lightStatusOwner (tag : Nat) : (lightStatusOwner tag s).scanout = s.scanout := rfl
@[simp] theorem scanout_lightModeOwner (tag screen mode level : Nat) : (lightModeOwner tag screen mode level s).scanout = s.scanout := by
  unfold lightModeOwner
  dsimp only
  repeat' split
  all_goals simp

end Stills

/-! ### The Catalog's requests (R109 to R125) -/

section Content

variable (s : State)

@[simp] theorem scanout_stageOpenOwner (tag mode : Nat) : (stageOpenOwner tag mode s).scanout = s.scanout := by
  unfold stageOpenOwner
  dsimp only
  repeat' split
  all_goals simp
@[simp] theorem scanout_stageDiscardOwner (tag : Nat) : (stageDiscardOwner tag s).scanout = s.scanout := by
  unfold stageDiscardOwner
  repeat' split
  all_goals simp [discardStage]
@[simp] theorem scanout_titlePutOwner (tag title badge : Nat) (tint : Rgb) (stillKey clipKey : Nat) (name : List Byte) :
    (titlePutOwner tag title badge tint stillKey clipKey name s).scanout = s.scanout := by
  unfold titlePutOwner
  dsimp only
  repeat' split
  all_goals simp
@[simp] theorem scanout_titleDropOwner (tag title : Nat) : (titleDropOwner tag title s).scanout = s.scanout := by
  unfold titleDropOwner
  repeat' split
  all_goals simp
@[simp] theorem scanout_titleGetReply (tag number : Nat) (found : Option TitleRec) :
    (titleGetReply tag number found s).scanout = s.scanout := by
  unfold titleGetReply
  split <;> simp
@[simp] theorem scanout_titleGetOwner (tag generation mode title : Nat) :
    (titleGetOwner tag generation mode title s).scanout = s.scanout := by
  unfold titleGetOwner
  repeat' split
  all_goals simp
@[simp] theorem scanout_setGlyphsOwner (tag key : Nat) : (setGlyphsOwner tag key s).scanout = s.scanout := by
  unfold setGlyphsOwner
  repeat' split
  all_goals simp
@[simp] theorem scanout_intakeAsk : (intakeAsk s).scanout = s.scanout := by
  unfold intakeAsk
  dsimp only
  split <;> simp
@[simp] theorem scanout_dropIntake : (dropIntake s).scanout = s.scanout := by simp [dropIntake]
@[simp] theorem scanout_judgeIntake : (judgeIntake s).scanout = s.scanout := by
  unfold judgeIntake
  dsimp only
  repeat' split
  all_goals simp
@[simp] theorem scanout_beginIntake (key : Nat) (kind : AssetKind) (length check : Nat) :
    (beginIntake key kind length check s).scanout = s.scanout := by
  unfold beginIntake
  dsimp only
  split <;> simp
@[simp] theorem scanout_assetBeginOwner (tag key kind length check : Nat) :
    (assetBeginOwner tag key kind length check s).scanout = s.scanout := by
  unfold assetBeginOwner
  repeat' split
  all_goals simp
@[simp] theorem scanout_acceptChunk (tag : Nat) (a : Asset) (chunk : List Byte) : (acceptChunk tag a chunk s).scanout = s.scanout := by
  unfold acceptChunk
  dsimp only
  split <;> simp
@[simp] theorem scanout_offerChunk (tag offset : Nat) (chunk : List Byte) (a : Asset) :
    (offerChunk tag offset chunk a s).scanout = s.scanout := by
  unfold offerChunk
  dsimp only
  repeat' split
  all_goals simp
@[simp] theorem scanout_assetDataOwner (tag key offset : Nat) (chunk : List Byte) :
    (assetDataOwner tag key offset chunk s).scanout = s.scanout := by
  unfold assetDataOwner
  dsimp only
  repeat' split
  all_goals simp
@[simp] theorem scanout_assetAbortOwner (tag key : Nat) : (assetAbortOwner tag key s).scanout = s.scanout := by
  unfold assetAbortOwner
  dsimp only
  repeat' split
  all_goals simp
@[simp] theorem scanout_assetInfoReply (tag : Nat) (found : Option Asset) : (assetInfoReply tag found s).scanout = s.scanout := by
  unfold assetInfoReply
  split <;> simp
@[simp] theorem scanout_assetInfoOwner (tag generation key : Nat) : (assetInfoOwner tag generation key s).scanout = s.scanout := by
  unfold assetInfoOwner
  repeat' split
  all_goals simp
@[simp] theorem scanout_imageAsk : (imageAsk s).scanout = s.scanout := by
  unfold imageAsk
  split <;> simp
@[simp] theorem scanout_publishOwner (tag : Nat) : (publishOwner tag s).scanout = s.scanout := by
  unfold publishOwner
  repeat' split
  all_goals simp [beginPublish]
@[simp] theorem scanout_startGlyphLoad (a : Asset) : (startGlyphLoad a s).scanout = s.scanout := (startGlyphLoad_work a s).scanout
@[simp] theorem scanout_glyphSwitch (before : Option Nat) : (glyphSwitch before s).scanout = s.scanout :=
  (glyphSwitch_work before s).scanout
@[simp] theorem scanout_publishSwitch : (publishSwitch s).scanout = s.scanout := by
  unfold publishSwitch
  split <;> simp
@[simp] theorem scanout_finishGlyphLoad (g : GlyphLoad) : (finishGlyphLoad g s).scanout = s.scanout := by
  unfold finishGlyphLoad
  dsimp only
  repeat' split
  all_goals simp
@[simp] theorem scanout_glyphReadEnd (run : Run) (pages : List PageRead) : (glyphReadEnd run pages s).scanout = s.scanout := by
  unfold glyphReadEnd
  dsimp only
  repeat' split
  all_goals simp
@[simp] theorem scanout_glyphReadDoneStep (pages : List PageRead) : (glyphReadDoneStep pages s).scanout = s.scanout := by
  unfold glyphReadDoneStep
  repeat' split
  all_goals simp

end Content

/-! ### Programs, root writes and erases (R129 to R149) -/

section Programs

variable (s : State) (image : Bool)

@[simp] theorem scanout_setWriter (w : Writer) : (s.setWriter image w).scanout = s.scanout := by
  unfold State.setWriter
  split <;> simp
@[simp] theorem scanout_placeProgram (data : List Byte) : (placeProgram image data s).scanout = s.scanout := rfl
@[simp] theorem scanout_takeUnit (u : Nat) : (takeUnit image u s).scanout = s.scanout := by
  unfold takeUnit
  dsimp only
  split <;> simp
@[simp] theorem scanout_waitClean (w : CleanWait) : (waitClean image w s).scanout = s.scanout := by
  unfold waitClean
  split <;> simp
@[simp] theorem scanout_sendProgram (w : WaitingOp) (page : Nat) : (sendProgram w page s).scanout = s.scanout := rfl
@[simp] theorem scanout_grantProgram (w : WaitingOp) : (grantProgram image w s).scanout = s.scanout := by
  unfold grantProgram
  dsimp only
  split <;> simp
@[simp] theorem scanout_relocNext (r : Relocation) : (relocNext image r s).scanout = s.scanout := by
  unfold relocNext
  dsimp only
  split <;> simp
@[simp] theorem scanout_takeFresh (r : Relocation) : (takeFresh image r s).scanout = s.scanout := by
  unfold takeFresh
  split <;> simp
@[simp] theorem scanout_streamFail (page : Nat) : (streamFail image page s).scanout = s.scanout := by
  unfold streamFail
  dsimp only
  repeat' split
  all_goals simp
@[simp] theorem scanout_setExtents (uid : Nat) (old new : List Run) : (setExtents uid old new s).scanout = s.scanout := rfl
@[simp] theorem scanout_intakeOpenTest : (intakeOpenTest s).scanout = s.scanout := by
  unfold intakeOpenTest
  dsimp only
  split <;> simp
@[simp] theorem scanout_enterPage (page : Nat) : (enterPage page s).scanout = s.scanout := by
  unfold enterPage
  dsimp only
  repeat' split
  all_goals simp
@[simp] theorem scanout_dropFailedUnits : (dropFailedUnits s).scanout = s.scanout := by
  unfold dropFailedUnits
  split <;> simp
@[simp] theorem scanout_imagePageDone : (imagePageDone s).scanout = s.scanout := by
  unfold imagePageDone
  dsimp only
  repeat' split
  all_goals simp
@[simp] theorem scanout_streamPass (page : Nat) : (streamPass image page s).scanout = s.scanout := by
  unfold streamPass
  dsimp only
  repeat' split
  all_goals simp
@[simp] theorem scanout_advanceStream : (advanceStream image s).scanout = s.scanout := by
  unfold advanceStream
  split <;> simp
@[simp] theorem scanout_sealFill : (sealFill s).scanout = s.scanout := by
  unfold sealFill
  dsimp only
  repeat' split
  all_goals simp
@[simp] theorem scanout_assetProgramEnd (ok : Bool) (p : PortOp) : (assetProgramEnd ok p s).scanout = s.scanout := by
  unfold assetProgramEnd
  dsimp only
  repeat' split
  all_goals simp
@[simp] theorem scanout_imageProgramEnd (ok : Bool) (p : PortOp) : (imageProgramEnd ok p s).scanout = s.scanout := by
  unfold imageProgramEnd
  repeat' split
  all_goals simp
@[simp] theorem scanout_readBackEnd (page : PageRead) : (readBackEnd image page s).scanout = s.scanout := by
  unfold readBackEnd
  split <;> simp
@[simp] theorem scanout_relocationReadDoneStep (page : PageRead) : (relocationReadDoneStep page s).scanout = s.scanout := by
  unfold relocationReadDoneStep
  dsimp only
  repeat' split
  all_goals simp
@[simp] theorem scanout_rootPlace (record : RootRecord) : (rootPlace record s).scanout = s.scanout := by
  unfold rootPlace
  dsimp only
  split <;> simp
@[simp] theorem scanout_rootForm (job : RootJob) (settings : List Nat) (failures : Nat) :
    (rootForm job settings failures s).scanout = s.scanout := by simp [rootForm]
@[simp] theorem scanout_rootWriteStartStep : (rootWriteStartStep s).scanout = s.scanout := by
  unfold rootWriteStartStep
  repeat' split
  all_goals simp
@[simp] theorem scanout_answerSave (status : Status) (data : List Byte) : (answerSave status data s).scanout = s.scanout := by
  unfold answerSave
  split <;> simp
@[simp] theorem scanout_rootFails (client : RootClient) : (rootFails client s).scanout = s.scanout := by
  unfold rootFails
  split <;> simp
@[simp] theorem scanout_rootAdvance : (rootAdvance s).scanout = s.scanout := rfl
@[simp] theorem scanout_rootVerified (w : RootWrite) (page : Nat) : (rootVerified w page s).scanout = s.scanout := by
  unfold rootVerified
  dsimp only
  split <;> simp
@[simp] theorem scanout_rootProgramEnd (ok : Bool) (p : PortOp) : (rootProgramEnd ok p s).scanout = s.scanout := by
  unfold rootProgramEnd
  repeat' split
  all_goals simp
@[simp] theorem scanout_pageProgramDoneStep (outcome : ProgramOutcome) : (pageProgramDoneStep outcome s).scanout = s.scanout := by
  unfold pageProgramDoneStep
  dsimp only
  repeat' split
  all_goals simp
@[simp] theorem scanout_beginOp (w : WaitingOp) : (beginOp w s).scanout = s.scanout := by
  unfold beginOp
  dsimp only
  repeat' split
  all_goals simp [grantRootPage]
@[simp] theorem scanout_portGrantStep : (portGrantStep s).scanout = s.scanout := by
  unfold portGrantStep
  split <;> simp
@[simp] theorem scanout_wakeClean : (wakeClean s).scanout = s.scanout := by
  unfold wakeClean
  dsimp only
  repeat' split
  all_goals simp
@[simp] theorem scanout_cleanUnit (u : Nat) : (cleanUnit u s).scanout = s.scanout := by simp [cleanUnit]
@[simp] theorem scanout_noSpaceTest : (noSpaceTest s).scanout = s.scanout := by
  unfold noSpaceTest
  repeat' split
  all_goals simp
@[simp] theorem scanout_stoppedRootWrites : (stoppedRootWrites s).scanout = s.scanout := by
  unfold stoppedRootWrites
  split <;> simp
@[simp] theorem scanout_batchEnd : (batchEnd s).scanout = s.scanout := by simp [batchEnd]
@[simp] theorem scanout_rootEraseFails : (rootEraseFails s).scanout = s.scanout := by
  unfold rootEraseFails
  dsimp only
  repeat' split
  all_goals simp
@[simp] theorem scanout_rootErased (u : Nat) : (rootErased u s).scanout = s.scanout := by
  unfold rootErased
  dsimp only
  split <;> simp
@[simp] theorem scanout_batchReport (u : Nat) (passed : Bool) (rest : List Nat) : (batchReport u passed rest s).scanout = s.scanout := by
  unfold batchReport
  repeat' split
  all_goals simp
@[simp] theorem scanout_eraseUnitReportStep (u : Nat) (passed : Bool) : (eraseUnitReportStep u passed s).scanout = s.scanout := by
  unfold eraseUnitReportStep
  dsimp only
  repeat' split
  all_goals simp
@[simp] theorem scanout_eraseDeadlineStep : (eraseDeadlineStep s).scanout = s.scanout := by
  unfold eraseDeadlineStep
  dsimp only
  repeat' split
  all_goals simp [scanout_foldl fun s u => scanout_addBad s u]
@[simp] theorem scanout_storeInfoOwner (tag : Nat) : (storeInfoOwner tag s).scanout = s.scanout := rfl
@[simp] theorem scanout_settingsSaveOwner (tag : Nat) : (settingsSaveOwner tag s).scanout = s.scanout := by
  unfold settingsSaveOwner
  repeat' split
  all_goals simp

end Programs

/-! ### Mounts (R126, R130, R136, R137) and the Link's own requests (R187 to R193) -/

section Mounts

variable (s : State)

@[simp] theorem scanout_hello : (hello s).scanout = s.scanout := rfl
@[simp] theorem scanout_answerRemount : (answerRemount s).scanout = s.scanout := by
  unfold answerRemount
  split <;> simp
@[simp] theorem scanout_mountGlyphs : (mountGlyphs s).scanout = s.scanout := by
  unfold mountGlyphs
  repeat' split
  all_goals simp
@[simp] theorem scanout_mountEnd (new : StoreState) (cause : StoreCause) : (mountEnd new cause s).scanout = s.scanout := by
  unfold mountEnd
  dsimp only
  split <;> simp
@[simp] theorem scanout_mountService (record : Option RootRecord) : (mountService record s).scanout = s.scanout := by
  unfold mountService
  split <;> simp
@[simp] theorem scanout_imageLost (record : RootRecord) : (imageLost record s).scanout = s.scanout := by simp [imageLost]
@[simp] theorem scanout_imageRead (record : RootRecord) (data : List Byte) : (imageRead record data s).scanout = s.scanout := by
  unfold imageRead
  split <;> simp
@[simp] theorem scanout_catalogImageReadDoneStep (pages : List PageRead) : (catalogImageReadDoneStep pages s).scanout = s.scanout := by
  unfold catalogImageReadDoneStep
  dsimp only
  repeat' split
  all_goals simp
@[simp] theorem scanout_beginRoots (d : Descriptor) : (beginRoots d s).scanout = s.scanout := by
  unfold beginRoots
  dsimp only
  split <;> simp
@[simp] theorem scanout_reissue (p : PortOp) : (reissue p s).scanout = s.scanout := rfl
@[simp] theorem scanout_echoOwner (tag : Nat) (data : List Byte) : (echoOwner tag data s).scanout = s.scanout := by
  unfold echoOwner
  split <;> simp
@[simp] theorem scanout_statusOwner (tag : Nat) : (statusOwner tag s).scanout = s.scanout := rfl
@[simp] theorem scanout_setLinkRateOwner (tag rate : Nat) : (setLinkRateOwner tag rate s).scanout = s.scanout := by
  unfold setLinkRateOwner
  split <;> rfl
@[simp] theorem scanout_resetOwner (tag : Nat) : (resetOwner tag s).scanout = s.scanout := rfl
@[simp] theorem scanout_refuse (f : Frame) (status : Status) (data : List Byte) : (refuse f status data s).scanout = s.scanout := rfl
@[simp] theorem scanout_rxCharacterStep (b : Byte) (stopHigh : Bool) : (rxCharacterStep b stopHigh s).scanout = s.scanout := by
  unfold rxCharacterStep
  dsimp only
  split <;> simp
@[simp] theorem scanout_frameTimeoutStep : (frameTimeoutStep s).scanout = s.scanout := rfl
@[simp] theorem scanout_causesOwner (tag : Nat) : (causesOwner tag s).scanout = s.scanout := rfl
@[simp] theorem scanout_settingGetOwner (tag index : Nat) : (settingGetOwner tag index s).scanout = s.scanout := by
  unfold settingGetOwner
  split <;> simp [settingReply]
@[simp] theorem scanout_screenStatusOwner (tag n : Nat) : (screenStatusOwner tag n s).scanout = s.scanout := by
  unfold screenStatusOwner
  split <;> simp
@[simp] theorem scanout_endChange : (endChange s).scanout = s.scanout := by
  unfold endChange
  dsimp only
  split <;> simp
@[simp] theorem scanout_reportTarget (i : Fin 2) : (reportTarget i s).scanout = s.scanout := by
  unfold reportTarget
  dsimp only
  repeat' split
  all_goals simp

end Mounts

end Sys2Proof.Machine
end

section
/-!
O8: what Scanout itself does to its records (R91 to R98, R165 to R168), what the settings and the resets leave of them (R102, R171,
R174, R175), and the invariant over every command.
-/

namespace Sys2Proof.Machine

open Sys2Proof

/-! ### The invariant, screen by screen -/

/-- A screen record is in line with its panel pins, and its pass context with its back buffer (R91 to R98). -/
def State.inLine (s : State) (i : Fin 2) : Prop :=
  (s.screen i).consistent ∧ ((s.compScreen i).context.isSome ↔ (s.screen i).back = .composing)

theorem scanoutConsistent_iff (s : State) : s.scanoutConsistent ↔ ∀ i, s.inLine i := Iff.rfl

/-- The invariant reads Scanout's records alone. -/
theorem scanoutConsistent_congr {s t : State} (h : t.scanout = s.scanout) : t.scanoutConsistent ↔ s.scanoutConsistent := by
  obtain ⟨hscreens, hcomp⟩ := Prod.mk.inj h
  simp only [State.scanoutConsistent, State.screen, State.compScreen]
  rw [hscreens, hcomp]

theorem State.scanoutConsistent.congr {s t : State} (hs : s.scanoutConsistent) (h : t.scanout = s.scanout) : t.scanoutConsistent :=
  (scanoutConsistent_congr h).2 hs

/-- What the open passes see of a command opens and closes no pass (R35, R39). -/
theorem scanoutConsistent_seenSince {t : State} (s : State) (h : t.scanoutConsistent) : (t.seenSince s).scanoutConsistent := by
  intro i
  rw [context_isSome_seenSince, State.screen_seenSince]
  exact h i

theorem State.screen_setScreen_other (s : State) {i j : Fin 2} (c : Screen) (h : j ≠ i) : (s.setScreen i c).screen j = s.screen j :=
  Two.get_set_other _ _ h

theorem State.compScreen_setComp_other (s : State) {i j : Fin 2} (c : CompScreen) (h : j ≠ i) :
    (s.setComp i c).compScreen j = s.compScreen j := Two.get_set_other _ _ h

section Screens

variable {s : State} {i : Fin 2}

/-- One screen's record and context are written: the invariant holds again once they are in line. -/
theorem scanoutConsistent_write {c : Screen} {x : CompScreen} (hs : s.scanoutConsistent) (hc : c.consistent)
    (hx : x.context.isSome ↔ c.back = .composing) : ((s.setScreen i c).setComp i x).scanoutConsistent := by
  intro j
  by_cases hj : j = i
  · subst hj
    simpa using ⟨hc, hx⟩
  · rw [State.screen_setComp, State.screen_setScreen_other s c hj, State.compScreen_setComp_other _ x hj, State.compScreen_setScreen]
    exact hs j

@[simp] theorem State.setComp_self (s : State) (i : Fin 2) : s.setComp i (s.compScreen i) = s := by
  simp [State.setComp, State.compScreen]

/-- One screen's record is written. -/
theorem scanoutConsistent_setScreen {c : Screen} (hs : s.scanoutConsistent) (hc : c.consistent)
    (hx : c.back = .composing ↔ (s.screen i).back = .composing) : (s.setScreen i c).scanoutConsistent := by
  have h := scanoutConsistent_write (i := i) (x := s.compScreen i) hs hc ((hs i).2.trans hx.symm)
  rwa [← State.compScreen_setScreen s i c i, State.setComp_self] at h

/-- One matrix is written. -/
theorem scanoutConsistent_setMatrix (hs : s.scanoutConsistent) (m : Matrix) :
    (s.setComp i { s.compScreen i with matrix := m }).scanoutConsistent := by
  have h := scanoutConsistent_write (i := i) (c := s.screen i) (x := { s.compScreen i with matrix := m }) hs (hs i).1 (hs i).2
  simpa [State.setScreen, State.screen] using h

end Screens

/-! ### A screen record in each screen state (R91 to R96) -/

section Record

variable {c : Screen}

theorem Screen.consistent_off (h : c.state = .off) : c.consistent ↔
    c.sequence = none ∧ c.frameTimer = false ∧ c.back = .free ∧ c.powerEnable = false ∧ c.videoSignal = false := by
  simp [Screen.consistent, h]

theorem Screen.consistent_waking (h : c.state = .waking) : c.consistent ↔
    c.frameTimer = false ∧ c.back = .free ∧ c.powerEnable = true ∧
      (c.sequence = some .wake20 ∧ c.videoSignal = false ∨ c.sequence = some .wake100 ∧ c.videoSignal = true) := by
  simp [Screen.consistent, h]

theorem Screen.consistent_running (h : c.state = .running) : c.consistent ↔
    c.sequence = none ∧ c.frameTimer = true ∧ c.powerEnable = true ∧ c.videoSignal = true := by
  simp [Screen.consistent, h]

theorem Screen.consistent_sleeping (h : c.state = .sleeping) : c.consistent ↔
    c.frameTimer = false ∧ c.back = .free ∧ c.powerEnable = true ∧
      (c.sequence = some .sleep50 ∧ c.videoSignal = true ∨ c.sequence = some .sleep20 ∧ c.videoSignal = false) := by
  simp [Screen.consistent, h]

/-- A pass is in progress only on a RUNNING screen (R98). -/
theorem Screen.consistent.running_of_back (hc : c.consistent) (hb : c.back ≠ .free) : c.state = .running := by
  cases hs : c.state with
  | running => rfl
  | off => exact absurd ((consistent_off hs).1 hc).2.2.1 hb
  | waking => exact absurd ((consistent_waking hs).1 hc).2.1 hb
  | sleeping => exact absurd ((consistent_sleeping hs).1 hc).2.1 hb

/-- A sequence step is at its place in the sequence of the screen's state (R93, R94). -/
theorem Screen.consistent.videoSignal_of_sequence {x : SeqStep} (hc : c.consistent) (hx : c.sequence = some x) :
    c.frameTimer = false ∧ c.back = .free ∧ c.powerEnable = true ∧ (c.videoSignal = true ↔ x = .wake100 ∨ x = .sleep50) := by
  cases hs : c.state with
  | off => simp [hx, consistent_off hs] at hc
  | running => simp [hx, consistent_running hs] at hc
  | waking =>
    obtain ⟨hf, hb, hp, ⟨hq, hv⟩ | ⟨hq, hv⟩⟩ := (consistent_waking hs).1 hc <;> cases hq.symm.trans hx <;>
      exact ⟨hf, hb, hp, by simp [hv]⟩
  | sleeping =>
    obtain ⟨hf, hb, hp, ⟨hq, hv⟩ | ⟨hq, hv⟩⟩ := (consistent_sleeping hs).1 hc <;> cases hq.symm.trans hx <;>
      exact ⟨hf, hb, hp, by simp [hv]⟩

end Record

/-! ### The panel sequences (R91 to R95) -/

section Sequences

variable {s : State} (i : Fin 2)

/-- The wanted power is no part of the invariant (R92). -/
theorem scanoutConsistent_setWanted (hs : s.scanoutConsistent) (b : Bool) :
    (s.setScreen i { s.screen i with wantedOn := b }).scanoutConsistent :=
  scanoutConsistent_setScreen hs (hs i).1 Iff.rfl

theorem scanoutConsistent_enterWaking (hs : s.scanoutConsistent) (h : (s.screen i).state = .off) :
    (enterWaking i s).scanoutConsistent := by
  obtain ⟨-, hf, hb, -, hv⟩ := (Screen.consistent_off h).1 (hs i).1
  exact scanoutConsistent_setScreen hs ((Screen.consistent_waking rfl).2 ⟨hf, rfl, rfl, .inl ⟨rfl, hv⟩⟩) (by simp [hb])

/-- An abandoned pass changes the content of its buffer alone (R26). -/
theorem Screen.abandon_frame (c : Screen) : ∃ b n, c.abandon = { c with buffers := b, spoils := n } := by
  unfold Screen.abandon
  split
  · exact ⟨_, _, rfl⟩
  · exact ⟨c.buffers, c.spoils, rfl⟩

/-- What the departure from RUNNING leaves of the screen's record and of its context; nothing of the other screen's (R26, R94, R95). -/
theorem leaveRunning_scanout : ∃ b n, (leaveRunning i s).scanout = ((s.setScreen i { s.screen i with
    state := .sleeping, sequence := some .sleep50, frameTimer := false, back := .free, buffers := b, spoils := n }).setComp i
      { s.compScreen i with context := none }).scanout := by
  obtain ⟨b, n, hab⟩ := Screen.abandon_frame (s.screen i)
  have hplan := scanout_planLeaveRunning (enterSleeping i (s.setScreen i (s.screen i).abandon)) i
  have hlanes := (scanout_lanesScreenStop _ i).trans hplan
  refine ⟨b, n, ?_⟩
  obtain ⟨hscreens, hcomp⟩ := Prod.mk.inj hlanes
  simp only [leaveRunning, scanout_setLight, State.lightOff, closePass]
  simp only [State.scanout, State.setComp_screens, State.setComp_comp, State.compScreen, hscreens, hcomp]
  simp [enterSleeping, hab]

theorem scanoutConsistent_leaveRunning (hs : s.scanoutConsistent) (h : (s.screen i).state = .running) :
    (leaveRunning i s).scanoutConsistent := by
  obtain ⟨b, n, hleft⟩ := leaveRunning_scanout (s := s) i
  obtain ⟨-, -, hp, hv⟩ := (Screen.consistent_running h).1 (hs i).1
  exact (scanoutConsistent_congr hleft).2
    (scanoutConsistent_write hs ((Screen.consistent_sleeping rfl).2 ⟨rfl, rfl, hp, .inl ⟨rfl, hv⟩⟩) (by simp))

theorem scanoutConsistent_powerUpRequest (hs : s.scanoutConsistent) : (powerUpRequest i s).scanoutConsistent := by
  have hw := scanoutConsistent_setWanted i hs true
  unfold powerUpRequest
  dsimp only
  split
  · exact scanoutConsistent_enterWaking i hw ‹_›
  · exact hw.congr (scanout_reportTarget _ i)
  · exact hw

theorem scanoutConsistent_powerDownRequest (hs : s.scanoutConsistent) : (powerDownRequest i s).scanoutConsistent := by
  have hw := scanoutConsistent_setWanted i hs false
  unfold powerDownRequest
  dsimp only
  split
  · exact hw.congr (scanout_reportTarget _ i)
  · exact scanoutConsistent_leaveRunning i hw ‹_›
  · exact hw

theorem scanoutConsistent_panelSignalOnStep (hs : s.scanoutConsistent) : (panelSignalOnStep i s).scanoutConsistent := by
  unfold panelSignalOnStep
  dsimp only
  split
  · rename_i h
    obtain ⟨hf, hb, hp, -⟩ := (hs i).1.videoSignal_of_sequence h.2
    exact scanoutConsistent_setScreen hs ((Screen.consistent_waking (by exact h.1)).2 ⟨hf, hb, hp, .inr ⟨rfl, rfl⟩⟩) Iff.rfl
  · exact hs

theorem scanoutConsistent_panelSignalOffStep (hs : s.scanoutConsistent) : (panelSignalOffStep i s).scanoutConsistent := by
  unfold panelSignalOffStep
  dsimp only
  split
  · rename_i h
    obtain ⟨hf, hb, hp, -⟩ := (hs i).1.videoSignal_of_sequence h.2
    exact scanoutConsistent_setScreen hs ((Screen.consistent_sleeping (by exact h.1)).2 ⟨hf, hb, hp, .inr ⟨rfl, rfl⟩⟩) Iff.rfl
  · exact hs

theorem scanoutConsistent_powerUpEndStep (hs : s.scanoutConsistent) : (powerUpEndStep i s).scanoutConsistent := by
  unfold powerUpEndStep
  dsimp only
  split
  · rename_i h
    obtain ⟨-, hb, hp, hv⟩ := (hs i).1.videoSignal_of_sequence h.2
    have hsignal := hv.2 (.inl rfl)
    split
    · rw [scanoutConsistent_congr (scanout_reportTarget _ i)]
      exact scanoutConsistent_setScreen hs ((Screen.consistent_running rfl).2 ⟨rfl, rfl, hp, hsignal⟩) Iff.rfl
    · exact scanoutConsistent_setScreen hs ((Screen.consistent_sleeping rfl).2 ⟨rfl, rfl, hp, .inl ⟨rfl, hsignal⟩⟩) (by simp [hb])
  · exact hs

theorem scanoutConsistent_powerDownEndStep (hs : s.scanoutConsistent) : (powerDownEndStep i s).scanoutConsistent := by
  unfold powerDownEndStep
  dsimp only
  split
  · rename_i h
    obtain ⟨hf, hb, -, hv⟩ := (hs i).1.videoSignal_of_sequence h.2
    have hoff : (s.setScreen i { s.screen i with state := .off, sequence := none, powerEnable := false }).scanoutConsistent :=
      scanoutConsistent_setScreen hs ((Screen.consistent_off rfl).2 ⟨rfl, hf, hb, rfl, by simpa using hv⟩) Iff.rfl
    split
    · exact scanoutConsistent_enterWaking i hoff (by simp)
    · exact hoff.congr (scanout_reportTarget _ i)
  · exact hs

end Sequences

/-! ### VBLANKs and passes (R97 to R100) -/

section Passes

variable {s : State} (i : Fin 2)

/-- What the beginning of a pass leaves of Scanout's records (R25, R98). -/
theorem openPass_scanout {t : State} {c : Screen} (ht : t.scanout = (s.setScreen i c).scanout) : ∃ x : PassContext,
    (openPass i t).scanout = ((s.setScreen i c).setComp i { s.compScreen i with context := some x }).scanout := by
  obtain ⟨hscreens, hcomp⟩ := Prod.mk.inj ht
  refine ⟨{ shot := t.snapshot i, views := [t.shows] }, ?_⟩
  simp only [State.scanout, openPass, State.setComp_screens, State.setComp_comp, State.compScreen, hscreens, hcomp]
  rfl

theorem scanoutConsistent_scanoutVblank (hs : s.scanoutConsistent) (h : s.running i = true) :
    (scanoutVblank i s).scanoutConsistent := by
  have hrun : (s.screen i).state = .running := by simpa [State.running] using h
  have hfields := (Screen.consistent_running hrun).1 (hs i).1
  by_cases hb : (s.screen i).back = .composing
  · rw [scanoutVblank_misses hb]
    exact scanoutConsistent_setScreen hs ((Screen.consistent_running (by exact hrun)).2 hfields) Iff.rfl
  · rw [scanoutVblank_begins hb]
    obtain ⟨x, hx⟩ := openPass_scanout i (scanout_passStartWork (s.setScreen i (s.screen i).begun) i)
    exact (scanoutConsistent_congr hx).2
      (scanoutConsistent_write hs ((Screen.consistent_running (by exact hrun)).2 hfields) (by simp [Screen.begun]))

theorem scanoutConsistent_vblankStep (lanesFirst : Bool) (hs : s.scanoutConsistent) :
    (vblankStep i lanesFirst s).scanoutConsistent := by
  have hrunning : (lanesVblank i s).running i = s.running i := by
    simp only [State.running, State.screen, (Prod.mk.inj (scanout_lanesVblank s i)).1]
  unfold vblankStep
  split
  · rename_i h
    rw [scanoutConsistent_congr (scanout_eraserStep _)]
    split
    · exact scanoutConsistent_scanoutVblank i (hs.congr (scanout_lanesVblank s i)) (hrunning.trans h.1)
    · exact (scanoutConsistent_scanoutVblank i hs h.1).congr (scanout_lanesVblank _ i)
  · exact hs

theorem scanoutConsistent_passCompleteStep (m : DrawMoments) (hs : s.scanoutConsistent) :
    (passCompleteStep i m s).scanoutConsistent := by
  unfold passCompleteStep
  dsimp only
  repeat' split
  · rename_i h
    have hrun : (s.screen i).state = .running := by
      simp only [State.composing, State.running, Bool.and_eq_true, beq_iff_eq] at h
      exact h.1
    have hfields := (Screen.consistent_running hrun).1 (hs i).1
    exact scanoutConsistent_write hs ((Screen.consistent_running (by exact hrun)).2 hfields) (by simp)
  · exact hs
  · exact hs

end Passes

/-! ### Changes of power state, the WAKE line and the self-test (R165 to R168, R177 to R180) -/

section Changes

variable {s : State}

theorem scanoutConsistent_sendPower (st : PowerState) (i : Fin 2) (hs : s.scanoutConsistent) :
    (sendPower st i s).scanoutConsistent := by
  unfold sendPower
  split
  · exact scanoutConsistent_powerUpRequest i hs
  · exact scanoutConsistent_powerDownRequest i hs

theorem scanoutConsistent_beginChange (st : PowerState) (tag : Option Nat) (hs : s.scanoutConsistent) :
    (beginChange st tag s).scanoutConsistent :=
  (scanoutConsistent_sendPower st 1 (scanoutConsistent_sendPower st 0 (hs.congr (scanout_setPower s _)))).congr (scanout_eraserStep _)

theorem scanoutConsistent_setPowerOwner (tag state : Nat) (hs : s.scanoutConsistent) :
    (setPowerOwner tag state s).scanoutConsistent := by
  unfold setPowerOwner
  repeat' split
  case h_2.isFalse.isFalse => exact scanoutConsistent_beginChange _ _ hs
  all_goals exact hs

theorem scanoutConsistent_takeWake (hs : s.scanoutConsistent) : (takeWake s).scanoutConsistent := by
  unfold takeWake
  split
  · exact scanoutConsistent_beginChange _ _ (hs.congr (scanout_notice s _ _))
  · exact hs

theorem scanoutConsistent_wakeEdgeStep (hs : s.scanoutConsistent) : (wakeEdgeStep s).scanoutConsistent := by
  unfold wakeEdgeStep
  split
  · exact hs
  · exact scanoutConsistent_takeWake hs

theorem scanoutConsistent_endSelfTest (t : SelfTest) (hs : s.scanoutConsistent) : (endSelfTest t s).scanoutConsistent := by
  unfold endSelfTest
  dsimp only
  split
  · exact scanoutConsistent_takeWake hs
  · exact hs

theorem scanoutConsistent_beginTests (tests : List SelfTestKind) (t : SelfTest) (hs : s.scanoutConsistent) :
    (beginTests tests t s).scanoutConsistent := by
  induction tests generalizing t with
  | nil => exact scanoutConsistent_endSelfTest t hs
  | cons kind rest ih =>
    cases kind with
    | store =>
      rw [beginTests]
      split
      · exact hs
      · exact ih _
    | memory => exact hs
    | panel => exact hs
    | sensor => exact hs
    | timebase => exact hs

theorem scanoutConsistent_testEnds (kind : SelfTestKind) (code : Nat) (t : SelfTest) (hs : s.scanoutConsistent) :
    (testEnds kind code t s).scanoutConsistent := scanoutConsistent_beginTests _ _ hs

theorem scanoutConsistent_selfTestOwner (tag flags : Nat) (hs : s.scanoutConsistent) :
    (selfTestOwner tag flags s).scanoutConsistent := by
  unfold selfTestOwner
  repeat' split
  case isFalse.isFalse.isFalse => exact scanoutConsistent_beginTests _ _ hs
  all_goals exact hs

theorem scanoutConsistent_memoryTestDoneStep (matched : Bool) (hs : s.scanoutConsistent) :
    (memoryTestDoneStep matched s).scanoutConsistent := by
  unfold memoryTestDoneStep
  split
  · split
    · exact scanoutConsistent_testEnds _ _ _ hs
    · exact hs
  · exact hs

theorem scanoutConsistent_panelTestDoneStep (result : PanelLoop) (hs : s.scanoutConsistent) :
    (panelTestDoneStep result s).scanoutConsistent := by
  unfold panelTestDoneStep
  repeat' split
  case h_1.isTrue => exact scanoutConsistent_testEnds _ _ _ hs
  all_goals exact hs

theorem scanoutConsistent_timebaseTestEndStep (ticks : Nat) (hs : s.scanoutConsistent) :
    (timebaseTestEndStep ticks s).scanoutConsistent := by
  unfold timebaseTestEndStep
  repeat' split
  case h_1.isTrue => exact scanoutConsistent_testEnds _ _ _ hs
  all_goals exact hs

theorem scanoutConsistent_failStoreTest (hs : s.scanoutConsistent) : (failStoreTest s).scanoutConsistent := by
  unfold failStoreTest
  repeat' split
  case h_1.isTrue => exact scanoutConsistent_testEnds _ _ _ hs
  all_goals exact hs

theorem scanoutConsistent_storeTestReadDoneStep (page : PageRead) (hs : s.scanoutConsistent) :
    (storeTestReadDoneStep page s).scanoutConsistent := by
  have hend : (portEnd s).scanoutConsistent := hs.congr (scanout_portEnd s)
  unfold storeTestReadDoneStep storeTestRoot
  repeat' split
  · exact hend
  · exact scanoutConsistent_testEnds _ _ _ hend
  · exact scanoutConsistent_testEnds _ _ _ hend
  · exact scanoutConsistent_testEnds _ _ _ hend
  all_goals exact hs

theorem scanoutConsistent_sensorTestStartStep (hs : s.scanoutConsistent) : (sensorTestStartStep s).scanoutConsistent := by
  unfold sensorTestStartStep
  repeat' split
  all_goals exact hs

theorem scanoutConsistent_sensorRead (r : Option Int) (hs : s.scanoutConsistent) : (sensorRead r s).scanoutConsistent := by
  unfold sensorRead testSensorRead
  dsimp only
  repeat' split
  · exact hs
  · exact hs.congr (scanout_sampleRead s _ r)
  · exact hs
  · exact scanoutConsistent_testEnds _ _ _ hs
  · exact scanoutConsistent_testEnds _ _ _ hs
  · exact hs

end Changes

/-! ### The settings (R90, R173 to R175) -/

section Settings

variable {s : State}

/-- The timings are no part of the invariant (R90). -/
theorem scanoutConsistent_setTimings (i : Fin 2) (a e : Timing) (hs : s.scanoutConsistent) :
    (s.setScreen i { s.screen i with active := a, entries := e }).scanoutConsistent :=
  scanoutConsistent_setScreen hs (hs i).1 Iff.rfl

theorem scanoutConsistent_entryStore (e : Entry) (v : Int) (hs : s.scanoutConsistent) : (e.store v s).scanoutConsistent := by
  cases e with
  | coefficient i n => exact scanoutConsistent_setMatrix hs _
  | offset i n => exact scanoutConsistent_setMatrix hs _
  | width i => exact scanoutConsistent_setTimings i _ _ hs
  | height i => exact scanoutConsistent_setTimings i _ _ hs
  | rate i => exact scanoutConsistent_setTimings i _ _ hs
  | curveLux | curveLevel | derateStart | derateStep | fallback | slew => exact hs

@[simp] theorem scanout_entryEffect (e : Entry) (s : State) : (e.effect s).scanout = s.scanout := by
  cases e <;> simp [Entry.effect]

theorem scanoutConsistent_settingPutOwner (tag index value : Nat) (hs : s.scanoutConsistent) :
    (settingPutOwner tag index value s).scanoutConsistent := by
  unfold settingPutOwner
  dsimp only
  repeat' split
  · exact hs
  · rename_i e _ _
    exact (scanoutConsistent_entryStore e _ hs).congr (scanout_entryEffect e _)
  · exact hs

theorem scanoutConsistent_loadEntry (p : Nat × Nat) (hs : s.scanoutConsistent) : (loadEntry s p).scanoutConsistent := by
  unfold loadEntry
  repeat' split
  case h_1.isFalse e _ _ => exact scanoutConsistent_entryStore e _ hs
  all_goals exact hs

theorem scanoutConsistent_loadEntries (ps : List (Nat × Nat)) (hs : s.scanoutConsistent) :
    (ps.foldl loadEntry s).scanoutConsistent := by
  induction ps generalizing s with
  | nil => exact hs
  | cons p ps ih => exact ih (scanoutConsistent_loadEntry p hs)

theorem scanoutConsistent_loadBlock (block : List Nat) (hs : s.scanoutConsistent) : (loadBlock block s).scanoutConsistent := by
  unfold loadBlock loadTiming
  rw [scanoutConsistent_congr (scanout_setLightAll _ _)]
  exact scanoutConsistent_setTimings 1 _ _ (scanoutConsistent_setTimings 0 _ _ (scanoutConsistent_loadEntries _ hs))

theorem scanoutConsistent_settingsLoad (block : Option (List Nat)) (hs : s.scanoutConsistent) :
    (settingsLoad block s).scanoutConsistent := by
  unfold settingsLoad
  exact scanoutConsistent_sendPower _ 1
    (scanoutConsistent_sendPower _ 0 ((scanoutConsistent_loadBlock _ hs).congr (scanout_setPower _ _)))

end Settings

/-! ### Mounts and the store's leaving service (R126, R130, R136, R137, R147) -/

section Mounts

variable {s : State}

theorem scanoutConsistent_mountFails (new : StoreState) (cause : StoreCause) (hs : s.scanoutConsistent) :
    (mountFails new cause s).scanoutConsistent := by
  unfold mountFails
  rw [scanoutConsistent_congr (scanout_mountEnd _ new cause)]
  split
  · exact scanoutConsistent_settingsLoad none hs
  · exact hs

theorem scanoutConsistent_handOver (record : Option RootRecord) (hs : s.scanoutConsistent) :
    (handOver record s).scanoutConsistent := by
  have hload : (if s.store.startUp then settingsLoad (record.map (·.settings)) s else s).scanoutConsistent := by
    split
    · exact scanoutConsistent_settingsLoad _ hs
    · exact hs
  refine hload.congr ?_
  unfold handOver
  dsimp only
  generalize (if s.store.startUp then settingsLoad (record.map (·.settings)) s else s) = t
  repeat' split
  all_goals simp

theorem scanoutConsistent_rootUnitReadDoneStep (pages : List PageRead) (hs : s.scanoutConsistent) :
    (rootUnitReadDoneStep pages s).scanoutConsistent := by
  have hend : (portEnd s).scanoutConsistent := hs.congr (scanout_portEnd s)
  have hread : ∀ all : List PageRead, (rootsRead all (portEnd s)).scanoutConsistent := fun all => by
    unfold rootsRead
    dsimp only
    split <;> exact scanoutConsistent_handOver _ hend
  unfold rootUnitReadDoneStep
  dsimp only
  repeat' split
  · exact hend
  · exact (hread _).congr (scanout_eraserStep _)
  all_goals exact hs

theorem scanoutConsistent_descriptorReadDoneStep (page : List Byte) (hs : s.scanoutConsistent) :
    (descriptorReadDoneStep page s).scanoutConsistent := by
  have hend : (portEnd s).scanoutConsistent := hs.congr (scanout_portEnd s)
  unfold descriptorReadDoneStep
  dsimp only
  repeat' split
  · exact hend.congr (scanout_beginRoots _ _)
  · exact scanoutConsistent_mountFails _ _ hend
  all_goals exact hs

theorem scanoutConsistent_descriptorReadTimeoutStep (hs : s.scanoutConsistent) :
    (descriptorReadTimeoutStep s).scanoutConsistent := by
  have hend : (portEnd s).scanoutConsistent := hs.congr (scanout_portEnd s)
  unfold descriptorReadTimeoutStep
  repeat' split
  · exact hs
  · exact scanoutConsistent_mountFails _ _ hend
  · exact scanoutConsistent_failStoreTest hend
  all_goals exact hs

theorem scanoutConsistent_leaveService (new : StoreState) (cause : StoreCause) (hs : s.scanoutConsistent) :
    (leaveService new cause s).scanoutConsistent := by
  unfold leaveService
  dsimp only
  rw [scanoutConsistent_congr (scanout_stateNotice _ _ cause)]
  split
  · exact scanoutConsistent_failStoreTest (hs.congr (by simp))
  · exact hs.congr (by simp)

theorem scanoutConsistent_storeReadTimeoutStep (hs : s.scanoutConsistent) : (storeReadTimeoutStep s).scanoutConsistent := by
  have hend : (portEnd s).scanoutConsistent := hs.congr (scanout_portEnd s)
  have hfails : (readFails s).scanoutConsistent := by
    unfold readFails
    split
    · exact scanoutConsistent_leaveService _ _ hend
    · exact scanoutConsistent_mountFails _ _ (hs.congr (by simp))
    · exact scanoutConsistent_mountFails _ _ hend
  unfold storeReadTimeoutStep
  repeat' split
  case h_1.isFalse => exact hfails
  all_goals exact hs

theorem scanoutConsistent_remountOwner (tag : Nat) (hs : s.scanoutConsistent) : (remountOwner tag s).scanoutConsistent := by
  unfold remountOwner
  dsimp only
  repeat' split
  · exact hs
  · exact hs
  · rw [scanoutConsistent_congr (scanout_mountIfWaiting _), scanoutConsistent_congr (scanout_setStore _ _)]
    exact scanoutConsistent_leaveService .mounting .mountStart hs

end Mounts

/-! ### Resets and the MEMORY test's clear (R61, R102, R169, R171) -/

section Resets

variable {s : State}

/-- A reset leaves both screens OFF with their pins off and no pass open (R102). -/
theorem scanoutConsistent_reset {t : State} (hscreens : t.screens = resetScreens s) (hcomp : t.comp = ⟨{}, {}⟩) :
    t.scanoutConsistent := by
  intro i
  simp only [State.screen, State.compScreen, hscreens, hcomp]
  match i with
  | 0 => exact ⟨(Screen.consistent_off rfl).2 ⟨rfl, rfl, rfl, rfl, rfl⟩, by simp [Two.get, resetScreens, Screen.spoil, State.reset]⟩
  | 1 => exact ⟨(Screen.consistent_off rfl).2 ⟨rfl, rfl, rfl, rfl, rfl⟩, by simp [Two.get, resetScreens, Screen.spoil, State.reset]⟩

theorem scanoutConsistent_startUp (causes : List ResetCause) : (startUp causes s).scanoutConsistent := scanoutConsistent_reset rfl rfl

theorem scanoutConsistent_heldInReset (causes : List ResetCause) : (heldInReset causes s).scanoutConsistent :=
  scanoutConsistent_reset rfl rfl

theorem scanoutConsistent_cacheClearStep (hs : s.scanoutConsistent) : (cacheClearStep s).scanoutConsistent := by
  unfold cacheClearStep
  split
  · intro i
    match i with
    | 0 => exact hs 0
    | 1 => exact hs 1
  · exact hs

theorem scanoutConsistent_linkBreakStep (seen : Bool) (hs : s.scanoutConsistent) : (linkBreakStep seen s).scanoutConsistent := by
  unfold linkBreakStep
  split
  · exact scanoutConsistent_startUp _
  · exact hs

theorem scanoutConsistent_txFrameSentStep (hs : s.scanoutConsistent) : (txFrameSentStep s).scanoutConsistent := by
  unfold txFrameSentStep
  dsimp only
  repeat' split
  case h_3 => exact scanoutConsistent_startUp _
  all_goals exact hs

end Resets

end Sys2Proof.Machine
end

section
/-!
O8: the owners of the requests and every command keep Scanout's records in line.
-/

namespace Sys2Proof.Machine

open Sys2Proof

section Commands

variable {s : State}

/-- Four requests reach Scanout's records: SET_POWER, SELF_TEST, SETTING_PUT and REMOUNT (R166, R168, R174, R137). -/
theorem scanoutConsistent_ownerOf (i : Instr) (hs : s.scanoutConsistent) : (ownerOf i s).scanoutConsistent := by
  cases i with
  | setPower tag st => exact scanoutConsistent_setPowerOwner tag st hs
  | selfTest tag flags => exact scanoutConsistent_selfTestOwner tag flags hs
  | settingPut tag index value => exact scanoutConsistent_settingPutOwner tag index value hs
  | remount tag => exact scanoutConsistent_remountOwner tag hs
  | _ => exact hs.congr (by simp [ownerOf])

theorem scanoutConsistent_requestHandoffStep (hs : s.scanoutConsistent) : (requestHandoffStep s).scanoutConsistent := by
  have hheld : ∀ rest, (holdPlace (s.setLink { s.link with requests := rest })).scanoutConsistent := fun rest => hs.congr (by simp)
  unfold requestHandoffStep handFrame
  repeat' split
  · exact (hheld _).congr (scanout_refuse _ _ _ _)
  · exact (hheld _).congr (scanout_refuse _ _ _ _)
  · exact (hheld _).congr (scanout_refuse _ _ _ _)
  · exact scanoutConsistent_ownerOf _ (hheld _)
  · exact hs
  · exact hs

/-- An event keeps the records in line when its step does. -/
theorem live_keeps_scanout {act : State → State} (hs : s.scanoutConsistent) (hact : (act s).scanoutConsistent) :
    ∃ t, live act s = .next t ∧ t.scanoutConsistent := by
  cases hr : s.power.resetLow with
  | true => exact ⟨s, live_of_held hr, hs⟩
  | false => exact ⟨_, live_of_live hr, scanoutConsistent_seenSince s hact⟩

/-- A request keeps them in line when its owner does. -/
theorem request_keeps_scanout {kind tag : Nat} {owner : State → State} (hs : s.scanoutConsistent)
    (howner : ∀ t, t.scanoutConsistent → (owner t).scanoutConsistent) :
    ∃ t, request kind tag owner s = .next t ∧ t.scanoutConsistent := by
  refine live_keeps_scanout hs ?_
  unfold handOn
  repeat' split
  · exact hs.congr (by simp)
  · exact howner _ (hs.congr (by simp))
  · exact hs

/-- Every command completes and keeps Scanout's records in line. -/
theorem exec_keeps_scanout (c : Instr) (hs : s.scanoutConsistent) : ∃ t, exec c s = .next t ∧ t.scanoutConsistent := by
  cases c with
  | powerOnReset =>
    refine ⟨_, rfl, ?_⟩
    unfold powerOnResetStep
    split
    · exact scanoutConsistent_heldInReset _
    · exact scanoutConsistent_startUp _
  | supplyDip =>
    refine ⟨_, rfl, ?_⟩
    unfold supplyDipStep
    split
    · exact scanoutConsistent_heldInReset _
    · exact scanoutConsistent_startUp _
  | resetLineLow =>
    refine ⟨_, rfl, ?_⟩
    unfold resetLineLowStep
    split
    · exact hs
    · exact scanoutConsistent_heldInReset _
  | resetLineRelease =>
    refine ⟨_, rfl, ?_⟩
    unfold resetLineReleaseStep
    split
    · exact scanoutConsistent_startUp _
    · exact hs
  | linkBreak seen => exact live_keeps_scanout hs (scanoutConsistent_linkBreakStep seen hs)
  | requestHandoff => exact live_keeps_scanout hs (scanoutConsistent_requestHandoffStep hs)
  | txFrameSent => exact live_keeps_scanout hs (scanoutConsistent_txFrameSentStep hs)
  | setPower tag st => exact request_keeps_scanout hs fun _ => scanoutConsistent_setPowerOwner tag st
  | selfTest tag flags => exact request_keeps_scanout hs fun _ => scanoutConsistent_selfTestOwner tag flags
  | settingPut tag index value => exact request_keeps_scanout hs fun _ => scanoutConsistent_settingPutOwner tag index value
  | remount tag => exact request_keeps_scanout hs fun _ => scanoutConsistent_remountOwner tag
  | wakeEdge => exact live_keeps_scanout hs (scanoutConsistent_wakeEdgeStep hs)
  | panelSignalOn i => exact live_keeps_scanout hs (scanoutConsistent_panelSignalOnStep i hs)
  | powerUpEnd i => exact live_keeps_scanout hs (scanoutConsistent_powerUpEndStep i hs)
  | panelSignalOff i => exact live_keeps_scanout hs (scanoutConsistent_panelSignalOffStep i hs)
  | powerDownEnd i => exact live_keeps_scanout hs (scanoutConsistent_powerDownEndStep i hs)
  | vblank i lanesFirst => exact live_keeps_scanout hs (scanoutConsistent_vblankStep i lanesFirst hs)
  | passComplete i m => exact live_keeps_scanout hs (scanoutConsistent_passCompleteStep i m hs)
  | cacheClear => exact live_keeps_scanout hs (scanoutConsistent_cacheClearStep hs)
  | storeReadTimeout => exact live_keeps_scanout hs (scanoutConsistent_storeReadTimeoutStep hs)
  | descriptorReadDone page => exact live_keeps_scanout hs (scanoutConsistent_descriptorReadDoneStep page hs)
  | rootUnitReadDone pages => exact live_keeps_scanout hs (scanoutConsistent_rootUnitReadDoneStep pages hs)
  | sensorReadDone r => exact live_keeps_scanout hs (scanoutConsistent_sensorRead r hs)
  | sensorReadTimeout => exact live_keeps_scanout hs (scanoutConsistent_sensorRead none hs)
  | memoryTestDone matched => exact live_keeps_scanout hs (scanoutConsistent_memoryTestDoneStep matched hs)
  | storeTestReadDone page => exact live_keeps_scanout hs (scanoutConsistent_storeTestReadDoneStep page hs)
  | panelTestDone result => exact live_keeps_scanout hs (scanoutConsistent_panelTestDoneStep result hs)
  | sensorTestStart => exact live_keeps_scanout hs (scanoutConsistent_sensorTestStartStep hs)
  | timebaseTestEnd ticks => exact live_keeps_scanout hs (scanoutConsistent_timebaseTestEndStep ticks hs)
  | descriptorReadTimeout => exact live_keeps_scanout hs (scanoutConsistent_descriptorReadTimeoutStep hs)
  | rxCharacter | frameTimeout | laneHeaderReadDone | laneReadIssue | laneReadDone | clipDecodeStart | clipDecodeDone
  | stallTimerExpiry | fetchTake | stillReadDone | stillDecodeStart | stillDecodeDone | pageProgramDone | relocationReadDone
  | rootWriteStart | glyphReadDone | portGrant | eraseUnitReport | eraseDeadline | catalogImageReadDone | sampleTimer =>
    exact live_keeps_scanout hs (hs.congr (by simp))
  | echo | status | setLinkRate | reset | causes | settingGet | settingsSave | storeInfo | stageOpen | stageDiscard | titlePut
  | titleDrop | titleGet | setGlyphs | assetBegin | assetData | assetAbort | assetInfo | publish | cacheInfo | cacheFlush
  | planBackdrop | planWall | planTitles | planItem | planItemClear | planWindow | planRevert | present | scroll | focus
  | lanePlay | laneStop | laneStatus | screenStatus | lightMode | lightStatus =>
    exact request_keeps_scanout hs fun t ht => ht.congr (by simp)

end Commands

/-- Settles O8: each command keeps the records in line, and an idle step changes nothing. -/
theorem everyStepKeepsScanoutConsistent : Obligations.EveryStepKeepsScanoutConsistent := by
  intro s s' hs hstep
  unfold step at hstep
  split at hstep
  · cases hstep
    exact hs
  · rename_i c rest hpending
    obtain ⟨t, ht, hkept⟩ := exec_keeps_scanout (s := { s with pending := rest }) c hs
    cases ht.symm.trans hstep
    exact hkept

end Sys2Proof.Machine
end

section
/-!
The panel sequences and changes of power state (R92 to R94, R101, R165 to R168, R170): what a report of the target, a power-up request and a
taken WAKE edge leave, and the statements of O52 and O21.
-/

namespace Sys2Proof.Machine

open Sys2Proof

/-! ### The report of a target (R92, R165, R167) -/

section Report

variable {s : State} (i : Fin 2)

theorem reportTarget_outside (h : s.power.changing = false) : reportTarget i s = s := by
  simp [reportTarget, h]

/-- With this screen's report both screens have reported just when the other one had. -/
theorem reached_both (t : Two Bool) (i : Fin 2) : ((t.set i true).s0 && (t.set i true).s1) = t.get (1 - i) := by
  match i with
  | 0 => exact Bool.true_and _
  | 1 => exact Bool.and_true _

theorem reportTarget_first (h : s.power.changing = true) (ho : s.power.reached.get (1 - i) = false) :
    reportTarget i s = s.setPower { s.power with reached := s.power.reached.set i true } := by
  simp [reportTarget, h, reached_both, ho]

theorem reportTarget_last (h : s.power.changing = true) (ho : s.power.reached.get (1 - i) = true) :
    reportTarget i s = endChange (s.setPower { s.power with reached := s.power.reached.set i true }) := by
  simp [reportTarget, h, reached_both, ho]

/-- The end of a change clears the change mark and sends the deferred reply, where there is one (R165, R167). -/
theorem endChange_eq (s : State) : endChange s = (s.setPower { s.power with changing := false, setPowerTag := none }).setLink
    (match s.power.setPowerTag with
      | some tag => s.link.fillPlace (replyMsg 0x08 tag .ok [byteOf s.power.state.code] .nothing)
      | none => s.link) := by
  unfold endChange
  dsimp only
  cases s.power.setPowerTag <;> rfl

/-- A report changes the Power Controller's marks and the Link alone, and without a deferred reply not even the Link. -/
theorem reportTarget_frame (s : State) : ∃ reached changing tag l, reportTarget i s =
    (s.setPower { s.power with reached := reached, changing := changing, setPowerTag := tag }).setLink l ∧
      (s.power.setPowerTag = none → tag = none ∧ l = s.link) := by
  cases hc : s.power.changing with
  | false => exact ⟨s.power.reached, s.power.changing, s.power.setPowerTag, s.link, reportTarget_outside i hc, fun h => ⟨h, rfl⟩⟩
  | true =>
    cases ho : s.power.reached.get (1 - i) with
    | false =>
      exact ⟨s.power.reached.set i true, s.power.changing, s.power.setPowerTag, s.link, reportTarget_first i hc ho, fun h => ⟨h, rfl⟩⟩
    | true =>
      rw [reportTarget_last i hc ho, endChange_eq]
      exact ⟨_, _, _, _, rfl, fun h => ⟨rfl, by simp [h]⟩⟩

/-- A panel step that ends in a report: the screen's record is written, and the report touches neither records nor pictures. -/
theorem exec_reported {c : Instr} {act : State → State} {x : Screen} (hexec : exec c s = live act s) (hl : s.power.resetLow = false)
    (hact : act s = reportTarget i (s.setScreen i x)) : exec c s = .next (reportTarget i (s.setScreen i x)) := by
  obtain ⟨r, b, tag, l, h, -⟩ := reportTarget_frame i (s.setScreen i x)
  rw [hexec, ← hact, live_of_shows hl (by rw [hact, h]; rfl)]

/-- What is left of the report of a screen whose record has been written, read against the state before (R92, R165, R167). -/
theorem reportTarget_setScreen (x : Screen) :
    let t := reportTarget i (s.setScreen i x)
    t.screen i = x ∧ t.screen (1 - i) = s.screen (1 - i) ∧ t.light = s.light ∧ t.plans = s.plans ∧
      (s.power.changing = false → t.power = s.power ∧ t.link = s.link) ∧
      (s.power.changing = true → s.power.reached.get (1 - i) = false →
        t.power = { s.power with reached := s.power.reached.set i true } ∧ t.link = s.link) ∧
      (s.power.changing = true → s.power.reached.get (1 - i) = true →
        t.power = { s.power with reached := s.power.reached.set i true, changing := false, setPowerTag := none } ∧
        t.link = (endChange s).link) := by
  intro t
  obtain ⟨r, b, tag, l, h, -⟩ := reportTarget_frame i (s.setScreen i x)
  refine ⟨?_, ?_, ?_, ?_, fun hc => ?_, fun hc ho => ?_, fun hc ho => ?_⟩
  · simp only [t, h, State.screen_setLink, State.screen_setPower, State.screen_setScreen]
  · simp only [t, h, State.screen_setLink, State.screen_setPower]
    exact State.screen_setScreen_other s x (otherScreen_ne i)
  · simp only [t, h, State.setLink_light, State.setPower_light, State.setScreen_light]
  · simp only [t, h, State.setLink_plans, State.setPower_plans, State.setScreen_plans]
  · simp only [t, reportTarget_outside i (s := s.setScreen i x) hc]
    exact ⟨rfl, rfl⟩
  · simp only [t, reportTarget_first i (s := s.setScreen i x) hc ho]
    exact ⟨rfl, rfl⟩
  · simp only [t, reportTarget_last i (s := s.setScreen i x) hc ho, endChange_eq]
    exact ⟨rfl, rfl⟩

end Report

/-! ### The steps of the sequences (R93, R94) -/

section Sequences

variable {s : State} {i : Fin 2} (hl : s.power.resetLow = false)
include hl

theorem exec_panelSignalOn (h : (s.screen i).state = .waking) (hq : (s.screen i).sequence = some .wake20) :
    exec (.panelSignalOn i) s = .next (s.setScreen i { s.screen i with videoSignal := true, sequence := some .wake100 }) := by
  have hstep : panelSignalOnStep i s = s.setScreen i { s.screen i with videoSignal := true, sequence := some .wake100 } :=
    if_pos ⟨h, hq⟩
  exact (live_of_shows hl (by rw [hstep]; rfl)).trans (congrArg _ hstep)

theorem exec_panelSignalOff (h : (s.screen i).state = .sleeping) (hq : (s.screen i).sequence = some .sleep50) :
    exec (.panelSignalOff i) s = .next (s.setScreen i { s.screen i with videoSignal := false, sequence := some .sleep20 }) := by
  have hstep : panelSignalOffStep i s = s.setScreen i { s.screen i with videoSignal := false, sequence := some .sleep20 } :=
    if_pos ⟨h, hq⟩
  exact (live_of_shows hl (by rw [hstep]; rfl)).trans (congrArg _ hstep)

theorem exec_powerUpEnd_sleeps (h : (s.screen i).state = .waking) (hq : (s.screen i).sequence = some .wake100)
    (hw : (s.screen i).wantedOn = false) : exec (.powerUpEnd i) s = .next (s.setScreen i { s.screen i with
      state := .sleeping, sequence := some .sleep50, frameTimer := false, back := .free }) := by
  have hstep : powerUpEndStep i s = enterSleeping i s := by simp [powerUpEndStep, h, hq, hw]
  exact (live_of_shows hl (by rw [hstep]; rfl)).trans (congrArg _ hstep)

theorem exec_powerUpEnd_runs (h : (s.screen i).state = .waking) (hq : (s.screen i).sequence = some .wake100)
    (hw : (s.screen i).wantedOn = true) : exec (.powerUpEnd i) s =
      .next (reportTarget i (s.setScreen i { s.screen i with state := .running, sequence := none, frameTimer := true })) :=
  exec_reported i (act := powerUpEndStep i) rfl hl (by simp [powerUpEndStep, h, hq, hw])

theorem exec_powerDownEnd_wakes (h : (s.screen i).state = .sleeping) (hq : (s.screen i).sequence = some .sleep20)
    (hw : (s.screen i).wantedOn = true) : exec (.powerDownEnd i) s = .next (s.setScreen i { s.screen i with
      state := .waking, sequence := some .wake20, buffers := ⟨.black, .black⟩, back := .free, powerEnable := true }) := by
  have hstep : powerDownEndStep i s = s.setScreen i { s.screen i with
      state := .waking, sequence := some .wake20, buffers := ⟨.black, .black⟩, back := .free, powerEnable := true } := by
    simp [powerDownEndStep, h, hq, hw, enterWaking]
  exact (live_of_shows hl (by rw [hstep]; rfl)).trans (congrArg _ hstep)

theorem exec_powerDownEnd_off (h : (s.screen i).state = .sleeping) (hq : (s.screen i).sequence = some .sleep20)
    (hw : (s.screen i).wantedOn = false) : exec (.powerDownEnd i) s =
      .next (reportTarget i (s.setScreen i { s.screen i with state := .off, sequence := none, powerEnable := false })) :=
  exec_reported i (act := powerDownEndStep i) rfl hl (by simp [powerDownEndStep, h, hq, hw])

end Sequences

/-- Settles O52: the steps one by one, the two ends with the report, and SCREEN_STATUS. -/
theorem panelSequencesRun : Obligations.PanelSequencesRun := by
  unfold Obligations.PanelSequencesRun
  intro reported
  refine ⟨fun s i hl => ?steps, fun s tag n h => ⟨fun hn => ?noScreen, ?status⟩⟩
  case steps =>
    intro c
    refine ⟨fun h hq => exec_panelSignalOn hl h hq, fun h hq => ⟨fun hw => ?_, fun hw => exec_powerUpEnd_sleeps hl h hq hw⟩,
      fun h hq => exec_panelSignalOff hl h hq, fun h hq => ⟨fun hw => exec_powerDownEnd_wakes hl h hq hw, fun hw => ?_⟩⟩
    · obtain ⟨hi, ho, hlight, hplans, houtside, hfirst, hlast⟩ := reportTarget_setScreen (s := s) i
        { s.screen i with state := .running, sequence := none, frameTimer := true }
      rw [endChange_eq] at hlast
      exact ⟨_, exec_powerUpEnd_runs hl h hq hw, hi, ho, hlight, hplans, houtside, hfirst, hlast⟩
    · obtain ⟨hi, ho, hlight, hplans, houtside, hfirst, hlast⟩ := reportTarget_setScreen (s := s) i
        { s.screen i with state := .off, sequence := none, powerEnable := false }
      rw [endChange_eq] at hlast
      exact ⟨_, exec_powerDownEnd_off hl h hq hw, hi, ho, hlight, hplans, houtside, hfirst, hlast⟩
  case noScreen => exact request_answered h rfl (by rw [screenStatusOwner, screenOf_eq_none hn])
  case status =>
    rintro i rfl
    exact request_answered h rfl (by rw [screenStatusOwner, screenOf_val]; rfl)

end Sys2Proof.Machine
end

section
/-!
The WAKE line and the cause set (R92, R93, R165, R168, R170): power-up requests to both screens, a taken edge, a self-test that ends with
an edge held, and the statement of O21.
-/

namespace Sys2Proof.Machine

open Sys2Proof

/-! ### Power-up requests (R92, R93) -/

/-- A screen record after a power-up request: wanted ON, and WAKING where it was OFF (R92, R93). -/
def Screen.wokenUp (c : Screen) : Screen :=
  if c.state = .off then { c with
    wantedOn := true, state := .waking, sequence := some .wake20, buffers := ⟨.black, .black⟩, back := .free, powerEnable := true }
  else { c with wantedOn := true }

theorem Screen.wokenUp_off {c : Screen} (h : c.state = .off) : c.wokenUp = { c with
    wantedOn := true, state := .waking, sequence := some .wake20, buffers := ⟨.black, .black⟩, back := .free, powerEnable := true } :=
  if_pos h

theorem Screen.wokenUp_of_ne {c : Screen} (h : c.state ≠ .off) : c.wokenUp = { c with wantedOn := true } := if_neg h

/-- A power-up request writes the screen's record; a report may change the Power Controller's marks, and the Link for a deferred
reply (R92, R165, R167). -/
theorem powerUpRequest_frame (i : Fin 2) (s : State) : ∃ reached changing tag l, powerUpRequest i s =
    ((s.setScreen i (s.screen i).wokenUp).setPower
      { s.power with reached := reached, changing := changing, setPowerTag := tag }).setLink l ∧
      (s.power.setPowerTag = none → tag = none ∧ l = s.link) := by
  have hsame : ∀ t : State, t = s.setScreen i (s.screen i).wokenUp → ∃ reached changing tag l, t =
      ((s.setScreen i (s.screen i).wokenUp).setPower
        { s.power with reached := reached, changing := changing, setPowerTag := tag }).setLink l ∧
        (s.power.setPowerTag = none → tag = none ∧ l = s.link) := fun t ht =>
    ⟨s.power.reached, s.power.changing, s.power.setPowerTag, s.link, ht, fun h => ⟨h, rfl⟩⟩
  cases hc : (s.screen i).state with
  | off => exact hsame _ (by simp [powerUpRequest, enterWaking, hc, Screen.wokenUp_off hc])
  | waking => exact hsame _ (by simp [powerUpRequest, hc, Screen.wokenUp_of_ne])
  | sleeping => exact hsame _ (by simp [powerUpRequest, hc, Screen.wokenUp_of_ne])
  | running =>
    have hup : powerUpRequest i s = reportTarget i (s.setScreen i (s.screen i).wokenUp) := by
      simp [powerUpRequest, hc, Screen.wokenUp_of_ne]
    rw [hup]
    exact reportTarget_frame i _

/-- Both screens' records after the power-up requests of ACTIVE (R92, R165). -/
def State.bothWoken (s : State) : Two Screen := ⟨s.screens.s0.wokenUp, s.screens.s1.wokenUp⟩

theorem State.bothWoken_get (s : State) (i : Fin 2) : s.bothWoken.get i = (s.screen i).wokenUp := by
  match i with
  | 0 => rfl
  | 1 => rfl

/-- The requests of ACTIVE write both screens' records (R92, R165). -/
theorem sendPower_active_frame (s : State) : ∃ reached changing tag l, sendPower .active 1 (sendPower .active 0 s) =
    { s with
      screens := s.bothWoken
      power := { s.power with reached := reached, changing := changing, setPowerTag := tag }
      link := l } ∧
      (s.power.setPowerTag = none → tag = none ∧ l = s.link) := by
  have hup : ∀ (i : Fin 2) (t : State), sendPower .active i t = powerUpRequest i t := fun i t => rfl
  obtain ⟨r0, b0, tag0, l0, h0, hn0⟩ := powerUpRequest_frame 0 s
  obtain ⟨r1, b1, tag1, l1, h1, hn1⟩ := powerUpRequest_frame 1 (powerUpRequest 0 s)
  refine ⟨r1, b1, tag1, l1, ?_, fun h => ?_⟩
  · rw [hup, hup, h1, h0]
    rfl
  · obtain ⟨htag, hlink⟩ := hn0 h
    rw [h0] at hn1
    obtain ⟨htag1, hlink1⟩ := hn1 htag
    exact ⟨htag1, hlink1.trans hlink⟩

/-! ### A WAKE edge (R168) -/

/-- A taken edge: the notice has gone, the power state is ACTIVE, and both screens have been asked for ON (R165, R168). -/
theorem takeWake_taken {s : State} (hs : s.power.state ≠ .active) (hc : s.power.changing = false) :
    ∃ reached changing st, takeWake s = { s with
      screens := s.bothWoken
      power := { s.power with state := .active, reached := reached, changing := changing, setPowerTag := none }
      store := st
      link := (notice 0xE8 [byteOf s.power.state.code] s).link } := by
  obtain ⟨l, hl⟩ := notice_link 0xE8 [byteOf s.power.state.code] s
  have hbegin : takeWake s = beginChange .active none (notice 0xE8 [byteOf s.power.state.code] s) := by simp [takeWake, hs, hc]
  obtain ⟨r, b, tag, l', hsend, hn⟩ := sendPower_active_frame ((s.setLink l).setPower
    { s.power with state := .active, changing := true, reached := ⟨false, false⟩, setPowerTag := none })
  obtain ⟨rfl, rfl⟩ := hn rfl
  rw [hbegin, hl, beginChange]
  simp only [State.setLink_power, hsend]
  exact ⟨r, b, _, rfl⟩

theorem takeWake_idle {s : State} (h : s.power.changing = true ∨ s.power.state = .active) : takeWake s = s := by
  rw [takeWake, if_neg]
  rcases h with h | h <;> simp [h]

/-- The link after a notice: it enters with room, and otherwise the notices-dropped flag is set (R190). -/
theorem notice_enters {kind : Nat} {payload : List Byte} {s : State} (hh : s.link.helloSent = true) (hr : s.link.occupancy < 40) :
    (notice kind payload s).link = s.link.push { kind := kind, tag := 0, payload := payload } := by
  simp [notice, hh, hr]

theorem notice_dropped {kind : Nat} {payload : List Byte} {s : State} (h : s.link.helloSent = false ∨ 40 ≤ s.link.occupancy) :
    (notice kind payload s).link = { s.link with noticesDropped := true } := by
  rw [notice, if_neg]
  · rfl
  · rcases h with h | h <;> simp [h]

/-! ### A self-test that ends with an edge held (R168, R177) -/

/-- A test that is the last of its self-test ends it. -/
theorem testEnds_last {kind : SelfTestKind} {code : Nat} {u : SelfTest} {s : State} (h : u.rest = []) :
    testEnds kind code u s = endSelfTest { u with codes := u.codes ++ [(kind.bit, code)] } s := by
  rw [testEnds, h, beginTests]

theorem endSelfTest_held {u : SelfTest} {s : State} (h : s.power.wakeMark = true) : endSelfTest u s =
    takeWake (reply 0x0A u.tag .ok u.pairs (s.setPower { s.power with selfTest := none, wakeMark := false })) := by
  simp [endSelfTest, h]

/-- The end of the STORE test's descriptor read leaves the newest root record's page (R179). -/
@[simp] theorem portEnd_newestRoot (s : State) : (portEnd s).store.newestRoot = s.store.newestRoot := by
  cases hp : s.store.port with
  | none => simp [portEnd, hp]
  | some p =>
    obtain ⟨units, hu⟩ := s.store.portFreed_frame p
    cases hr : p.releaseReader with
    | none => rw [portEnd_none hp hr, State.setStore_store, hu]
    | some uid =>
      obtain ⟨_, _, _, _, hs⟩ := settling_releaseReader uid (s.setStore (s.store.portFreed p))
      rw [portEnd_some hp hr, hs, State.setStore_store, hu]

/-- The commands that end the last test of a self-test with an edge held end the self-test, in a state that differs from the one they
find in the Catalog, the store and the sensor port alone (R177 to R180). -/
theorem exec_endsSelfTest {s : State} {u : SelfTest} {c : Instr} (hl : s.power.resetLow = false) (hu : s.power.selfTest = some u)
    (hrest : u.rest = [])
    (hc : (∃ matched, c = .memoryTestDone matched) ∧ u.step = .memory ∨ (∃ loops, c = .panelTestDone loops) ∧ u.step = .panel ∨
      (∃ ticks, c = .timebaseTestEnd ticks) ∧ u.step = .timebase ∨
      (∃ page p, c = .storeTestReadDone page ∧ s.store.port = some p ∧
        (p.purpose = .testRoot ∨ p.purpose = .testDescriptor ∧ s.store.newestRoot = none)) ∨
      (∃ p, c = .descriptorReadTimeout ∧ s.store.port = some p ∧ p.purpose = .testDescriptor ∧ u.step = .storeDescriptor) ∨
      (∃ reading, c = .sensorReadDone (some reading)) ∧ s.light.port = .test 2 ∨
      (∃ n, s.light.port = .test n) ∧ c = .sensorReadTimeout) :
    ∃ v catalog st light, v.tag = u.tag ∧
      exec c s = .next ((endSelfTest v { s with catalog := catalog, store := st, light := light }).seenSince s) := by
  have hends : ∀ {act : State → State} {t : State} (kind : SelfTestKind) (code : Nat),
      (∃ catalog st light, t = { s with catalog := catalog, store := st, light := light }) →
      exec c s = live act s → act s = testEnds kind code u t → ∃ v catalog st light, v.tag = u.tag ∧
        exec c s = .next ((endSelfTest v { s with catalog := catalog, store := st, light := light }).seenSince s) := by
    rintro act t kind code ⟨catalog, st, light, rfl⟩ hexec hact
    refine ⟨{ u with codes := u.codes ++ [(kind.bit, code)] }, catalog, st, light, rfl, ?_⟩
    rw [hexec, live_of_live hl, hact, testEnds_last hrest]
  have hsame : ∃ catalog st light, s = { s with catalog := catalog, store := st, light := light } :=
    ⟨s.catalog, s.store, s.light, rfl⟩
  have hport : ∃ catalog st light, portEnd s = { s with catalog := catalog, store := st, light := light } := by
    obtain ⟨catalog, st, h⟩ := portEnd_frame s
    exact ⟨catalog, st, s.light, h⟩
  have hportTest : (portEnd s).power.selfTest = some u := by
    obtain ⟨_, _, h⟩ := portEnd_frame s
    rw [h]
    exact hu
  have hlight : ∃ catalog st light, s.setLightAll { s.light with port := .idle } =
      { s with catalog := catalog, store := st, light := light } := ⟨s.catalog, s.store, _, rfl⟩
  rcases hc with ⟨⟨matched, rfl⟩, hstep⟩ | ⟨⟨loops, rfl⟩, hstep⟩ | ⟨⟨ticks, rfl⟩, hstep⟩ | ⟨page, p, rfl, hp, hpurpose⟩ |
    ⟨p, rfl, hp, hpurpose, hstep⟩ | ⟨⟨reading, rfl⟩, hsensor⟩ | ⟨⟨n, hsensor⟩, rfl⟩
  · exact hends (act := memoryTestDoneStep matched) .memory _ hsame rfl (by simp [memoryTestDoneStep, hu, hstep]; rfl)
  · exact hends (act := panelTestDoneStep loops) .panel _ hsame rfl (by simp [panelTestDoneStep, hu, hstep]; rfl)
  · exact hends (act := timebaseTestEndStep ticks) .timebase _ hsame rfl (by simp [timebaseTestEndStep, hu, hstep]; rfl)
  · rcases hpurpose with hpurpose | ⟨hpurpose, hroot⟩
    · exact hends (act := storeTestReadDoneStep page) .store _ hport rfl (by simp [storeTestReadDoneStep, hu, hp, hpurpose]; rfl)
    · exact hends (act := storeTestReadDoneStep page) .store _ hport rfl
        (by simp [storeTestReadDoneStep, storeTestRoot, hu, hp, hpurpose, hroot]; rfl)
  · exact hends (act := descriptorReadTimeoutStep) .store _ hport rfl
      (by simp [descriptorReadTimeoutStep, failStoreTest, hp, hpurpose, hportTest, hstep]; rfl)
  · exact hends (act := sensorRead (some reading)) .sensor _ hlight rfl (by simp [sensorRead, testSensorRead, hsensor, hu]; rfl)
  · exact hends (act := sensorRead none) .sensor _ hlight rfl (by simp [sensorRead, testSensorRead, hsensor, hu]; rfl)

/-! ### The WAKE line and the cause set (R168, R170) -/

theorem State.screen_of_bothWoken {s t : State} (h : t.screens = s.bothWoken) (i : Fin 2) : t.screen i = (s.screen i).wokenUp :=
  (congrArg (Two.get · i) h).trans (s.bothWoken_get i)

/-- An edge that a self-test in progress holds (R168). -/
theorem exec_wakeEdge_held {s : State} (hl : s.power.resetLow = false) (hu : s.power.selfTest.isSome = true) :
    exec .wakeEdge s = .next (s.setPower { s.power with wakeMark := true }) := by
  have hstep : wakeEdgeStep s = s.setPower { s.power with wakeMark := true } := by rw [wakeEdgeStep, if_pos hu]
  rw [← hstep]
  exact live_of_shows hl (by rw [hstep]; rfl)

/-- Outside a self-test an edge is taken or has no effect (R168). -/
theorem exec_wakeEdge {s : State} (hl : s.power.resetLow = false) (hu : s.power.selfTest = none) :
    exec .wakeEdge s = .next ((takeWake s).seenSince s) := by
  have hstep : wakeEdgeStep s = takeWake s := by simp [wakeEdgeStep, hu]
  rw [← hstep]
  exact live_of_live hl

/-- Settles O21: a taken edge is the begun change with its two requests; every end of a self-test with an edge held goes through
`endSelfTest`. -/
theorem wakeEdgeWakesAndCausesEmpty : Obligations.WakeEdgeWakesAndCausesEmpty := by
  unfold Obligations.WakeEdgeWakesAndCausesEmpty
  intro woken
  have hwoken : ∀ s t : State, t.screens = s.bothWoken → woken s t := fun s t h i =>
    ⟨fun hoff => (State.screen_of_bothWoken h i).trans (Screen.wokenUp_off hoff),
      fun hne => (State.screen_of_bothWoken h i).trans (Screen.wokenUp_of_ne hne)⟩
  refine ⟨fun s hl => ⟨exec_wakeEdge_held hl, fun hu hidle => ?_, fun hu hs hc => ?_, fun u c hu hrest hmark hc => ?_⟩,
    fun s tag h => request_answered h rfl rfl⟩
  · rw [exec_wakeEdge hl hu, takeWake_idle hidle.symm, State.seenSince_self]
  · obtain ⟨reached, changing, st, htake⟩ := takeWake_taken hs hc
    refine ⟨_, by rw [exec_wakeEdge hl hu, htake], ?_⟩
    simp only [State.seenSince_power, State.seenSince_plans, State.seenSince_catalog, State.seenSince_lanes, State.seenSince_link]
    exact ⟨trivial, trivial, hwoken _ _ (State.seenSince_screens _ _), trivial, trivial, trivial, notice_enters, notice_dropped⟩
  · obtain ⟨v, catalog, st, light, htag, hexec⟩ := exec_endsSelfTest hl hu hrest hc
    rw [endSelfTest_held (by exact hmark), htag] at hexec
    obtain ⟨sending, outbound, hfill⟩ := s.link.fillPlace_frame (replyMsg 0x0A u.tag .ok v.pairs .nothing)
    by_cases hidle : s.power.changing = true ∨ s.power.state = .active
    · rw [takeWake_idle (by exact hidle)] at hexec
      refine ⟨_, v.pairs, hexec, by simp, by simp, ?_⟩
      intro l
      refine ⟨fun _ => ⟨by simp, by simp, by simp; rfl⟩, fun hch hne => ?_⟩
      rcases hidle with h | h
      · simp [h] at hch
      · exact absurd h hne
    · rw [not_or, Bool.not_eq_true] at hidle
      obtain ⟨hch, hne⟩ := hidle
      obtain ⟨reached, changing, st', htake⟩ := takeWake_taken (s := reply 0x0A u.tag .ok v.pairs
        ({ s with catalog := catalog, store := st, light := light }.setPower { s.power with selfTest := none, wakeMark := false }))
        (by exact hne) (by exact hch)
      have hexec' := hexec.trans (congrArg (fun t => Host.Outcome.next (State.seenSince t s)) htake)
      refine ⟨_, v.pairs, hexec', by simp, by simp, ?_⟩
      intro l
      have hhello : l.helloSent = s.link.helloSent := by simp only [l]; rw [hfill]
      refine ⟨fun h => ?_, fun _ _ => ⟨by simp, hwoken s _ (State.seenSince_screens _ _), fun hh hr => ?_, fun h => ?_⟩⟩
      · rcases h with h | h
        · simp [hch] at h
        · exact absurd h hne
      · exact (State.seenSince_link _ _).trans (notice_enters (hhello.trans hh) hr)
      · exact (State.seenSince_link _ _).trans (notice_dropped (h.imp_left hhello.trans))

end Sys2Proof.Machine
end

section
/-! The settings table (R90, R173): where each entry stands and which values it takes. -/

namespace Sys2Proof.Machine

open Sys2Proof

/-! ### The table (R173) -/

/-- The index an entry has in the table. -/
def Entry.index : Entry → Nat
  | .coefficient i n => 0x10 * i.val + n
  | .offset i n => 0x10 * i.val + 9 + n
  | .curveLux i n => 0x20 + 0x10 * i.val + n
  | .curveLevel i n => 0x28 + 0x10 * i.val + n
  | .derateStart => 0x40
  | .derateStep => 0x41
  | .fallback => 0x42
  | .slew => 0x43
  | .width i => 0x50 + 3 * i.val
  | .height i => 0x51 + 3 * i.val
  | .rate i => 0x52 + 3 * i.val

/-- The entries of the table: 9 coefficients, 3 offsets and 8 breakpoints for each screen. -/
def Entry.inTable : Entry → Bool
  | .coefficient _ n => n < 9
  | .offset _ n => n < 3
  | .curveLux _ n => n < 8
  | .curveLevel _ n => n < 8
  | _ => true

theorem entryOf_coefficient : ∀ (i : Fin 2) (n : Nat), n < 9 → entryOf (0x10 * i.val + n) = some (.coefficient i n) := by decide
theorem entryOf_offset : ∀ (i : Fin 2) (n : Nat), n < 3 → entryOf (0x10 * i.val + 9 + n) = some (.offset i n) := by decide
theorem entryOf_curveLux : ∀ (i : Fin 2) (n : Nat), n < 8 → entryOf (0x20 + 0x10 * i.val + n) = some (.curveLux i n) := by decide
theorem entryOf_curveLevel : ∀ (i : Fin 2) (n : Nat), n < 8 →
    entryOf (0x28 + 0x10 * i.val + n) = some (.curveLevel i n) := by decide
theorem entryOf_width : ∀ i : Fin 2, entryOf (0x50 + 3 * i.val) = some (.width i) := by decide
theorem entryOf_height : ∀ i : Fin 2, entryOf (0x51 + 3 * i.val) = some (.height i) := by decide
theorem entryOf_rate : ∀ i : Fin 2, entryOf (0x52 + 3 * i.val) = some (.rate i) := by decide

theorem entryOf_of_ge {k : Nat} (h : 0x56 ≤ k) : entryOf k = none := by
  unfold entryOf
  repeat rw [if_neg (by omega)]

theorem entryOf_below : ∀ k < 0x56, (entryOf k).all (fun e => e.inTable && e.index == k) = true := by decide

theorem entryOf_eq_some {k : Nat} {e : Entry} (h : entryOf k = some e) : e.inTable = true ∧ e.index = k := by
  have hk : k < 0x56 := Nat.lt_of_not_ge fun hge => by simp [entryOf_of_ge hge] at h
  simpa [h] using entryOf_below k hk

theorem entryOf_gaps : ∀ k < 0x56, entryOf k = none ↔ 0x0C ≤ k ∧ k < 0x10 ∨ 0x1C ≤ k ∧ k < 0x20 ∨ 0x44 ≤ k ∧ k < 0x50 := by decide

theorem entryOf_eq_none (k : Nat) :
    entryOf k = none ↔ 0x0C ≤ k ∧ k < 0x10 ∨ 0x1C ≤ k ∧ k < 0x20 ∨ 0x44 ≤ k ∧ k < 0x50 ∨ 0x56 ≤ k := by
  by_cases hk : k < 0x56
  · rw [entryOf_gaps k hk]
    omega
  · simp [entryOf_of_ge (Nat.le_of_not_lt hk), Nat.le_of_not_lt hk]

/-- Two indexes of the table have two entries. -/
theorem entryOf_ne {k l : Nat} {e o : Entry} (he : entryOf k = some e) (ho : entryOf l = some o) (h : l ≠ k) : o ≠ e := by
  rintro rfl
  exact h ((entryOf_eq_some ho).2.symm.trans (entryOf_eq_some he).2)

/-- A value in two's complement of 32 bits (R173). -/
def signed32 (value : Nat) : Int := if value < 2147483648 then (value : Int) else (value : Int) - 4294967296

theorem signedOf_four (value : Nat) : signedOf 4 value = signed32 value := by
  rw [signedOf, signed32]
  simp only [show (2 * value < 256 ^ 4) = (value < 2147483648) from propext (by omega)]
  rfl

theorem Entry.ofField_signed {e : Entry} (h : e.isSigned = true) (value : Nat) : e.ofField value = signed32 value := by
  rw [Entry.ofField, if_pos h, signedOf_four]

theorem Entry.ofField_unsigned {e : Entry} (h : e.isSigned = false) (value : Nat) : e.ofField value = (value : Int) := by
  rw [Entry.ofField, if_neg (by simp [h])]

theorem Entry.isSigned_iff {k : Nat} {e : Entry} (h : entryOf k = some e) : e.isSigned = true ↔ k < 0x20 ∨ k = 0x40 := by
  obtain ⟨hin, rfl⟩ := entryOf_eq_some h
  cases e <;> simp [Entry.isSigned, Entry.index, Entry.inTable] at hin ⊢ <;> omega

/-- The values an entry takes (R90, R173). -/
def settingRange (s : State) (index value : Nat) : Prop :=
  (index < 0x09 ∨ 0x10 ≤ index ∧ index < 0x19) ∧ -2048 ≤ signed32 value ∧ signed32 value ≤ 2047 ∨
    (0x09 ≤ index ∧ index < 0x0C ∨ 0x19 ≤ index ∧ index < 0x1C) ∧ -64 ≤ signed32 value ∧ signed32 value ≤ 63 ∨
    (0x20 ≤ index ∧ index < 0x28 ∨ 0x30 ≤ index ∧ index < 0x38) ∧ (value ≤ 120000 ∨ value = 0xFFFFFFFF) ∨
    (0x28 ≤ index ∧ index < 0x30 ∨ 0x38 ≤ index ∧ index < 0x40) ∧ value ≤ 65535 ∨
    index = 0x40 ∧ -40 ≤ signed32 value ∧ signed32 value ≤ 125 ∨ (index = 0x41 ∨ index = 0x42) ∧ value ≤ 65535 ∨
    index = 0x43 ∧ 1 ≤ value ∧ value ≤ 65535 ∨
    ∃ i : Fin 2,
      index = 0x50 + 3 * i.val ∧ 320 ≤ value ∧ value ≤ 1920 ∧ value * (s.screen i).entries.height ≤ 2073600 ∨
        index = 0x51 + 3 * i.val ∧ 240 ≤ value ∧ value ≤ 1920 ∧ value * (s.screen i).entries.width ≤ 2073600 ∨
        index = 0x52 + 3 * i.val ∧ (value = 60 ∨ value = 50 ∨ value = 30)

/-- The values an entry takes, by its constructor (R90, R173). -/
def Entry.range (s : State) (value : Nat) : Entry → Prop
  | .coefficient _ _ => -2048 ≤ signed32 value ∧ signed32 value ≤ 2047
  | .offset _ _ => -64 ≤ signed32 value ∧ signed32 value ≤ 63
  | .curveLux _ _ => value ≤ 120000 ∨ value = 0xFFFFFFFF
  | .curveLevel _ _ => value ≤ 65535
  | .derateStart => -40 ≤ signed32 value ∧ signed32 value ≤ 125
  | .derateStep => value ≤ 65535
  | .fallback => value ≤ 65535
  | .slew => 1 ≤ value ∧ value ≤ 65535
  | .width i => 320 ≤ value ∧ value ≤ 1920 ∧ value * (s.screen i).entries.height ≤ 2073600
  | .height i => 240 ≤ value ∧ value ≤ 1920 ∧ value * (s.screen i).entries.width ≤ 2073600
  | .rate _ => value = 60 ∨ value = 50 ∨ value = 30

theorem accepts_iff_range (s : State) (value : Nat) (e : Entry) : e.accepts s (e.ofField value) = true ↔ e.range s value := by
  cases e <;> simp [Entry.accepts, Entry.inRange, Entry.range, Entry.ofField, Entry.isSigned, signedOf_four, maxPixels] <;> omega

theorem settingRange_of_range {s : State} {value : Nat} {e : Entry} (hin : e.inTable = true) (h : e.range s value) :
    settingRange s e.index value := by
  cases e <;> simp only [Entry.inTable, decide_eq_true_eq] at hin
  case coefficient => exact .inl ⟨by simp only [Entry.index]; omega, h⟩
  case offset => exact .inr (.inl ⟨by simp only [Entry.index]; omega, h⟩)
  case curveLux => exact .inr (.inr (.inl ⟨by simp only [Entry.index]; omega, h⟩))
  case curveLevel => exact .inr (.inr (.inr (.inl ⟨by simp only [Entry.index]; omega, h⟩)))
  case derateStart => exact .inr (.inr (.inr (.inr (.inl ⟨rfl, h⟩))))
  case derateStep => exact .inr (.inr (.inr (.inr (.inr (.inl ⟨.inl rfl, h⟩)))))
  case fallback => exact .inr (.inr (.inr (.inr (.inr (.inl ⟨.inr rfl, h⟩)))))
  case slew => exact .inr (.inr (.inr (.inr (.inr (.inr (.inl ⟨rfl, h⟩))))))
  case width i => exact .inr (.inr (.inr (.inr (.inr (.inr (.inr ⟨i, .inl ⟨rfl, h⟩⟩))))))
  case height i => exact .inr (.inr (.inr (.inr (.inr (.inr (.inr ⟨i, .inr (.inl ⟨rfl, h⟩)⟩))))))
  case rate i => exact .inr (.inr (.inr (.inr (.inr (.inr (.inr ⟨i, .inr (.inr ⟨rfl, h⟩)⟩))))))

theorem range_of_settingRange {s : State} {value k : Nat} {e : Entry} (he : entryOf k = some e) (h : settingRange s k value) :
    e.range s value := by
  obtain ⟨hin, rfl⟩ := entryOf_eq_some he
  have heq : ∀ {l : Nat} {o : Entry}, entryOf l = some o → e.index = l → o = e := fun ho hl =>
    Option.some.inj (ho.symm.trans (hl ▸ he))
  rcases h with ⟨hk, h⟩ | ⟨hk, h⟩ | ⟨hk, h⟩ | ⟨hk, h⟩ | ⟨hk, h⟩ | ⟨hk | hk, h⟩ | ⟨hk, h⟩ | ⟨j, ⟨hk, h⟩ | ⟨hk, h⟩ | ⟨hk, h⟩⟩
  rotate_left 4
  · exact heq (o := .derateStart) rfl hk ▸ h
  · exact heq (o := .derateStep) rfl hk ▸ h
  · exact heq (o := .fallback) rfl hk ▸ h
  · exact heq (o := .slew) rfl hk ▸ h
  · exact heq (entryOf_width j) hk ▸ h
  · exact heq (entryOf_height j) hk ▸ h
  · exact heq (entryOf_rate j) hk ▸ h
  all_goals cases e <;> simp [Entry.inTable, Entry.index, Entry.range] at hin hk ⊢ <;> omega

theorem accepts_iff {s : State} {k value : Nat} {e : Entry} (h : entryOf k = some e) :
    e.accepts s (e.ofField value) = true ↔ settingRange s k value := by
  rw [accepts_iff_range]
  refine ⟨fun hr => ?_, range_of_settingRange h⟩
  obtain ⟨hin, rfl⟩ := entryOf_eq_some h
  exact settingRange_of_range hin hr

end Sys2Proof.Machine
end

section
/-!
Stores of settings and their effects (R157, R158, R161, R174): the value held, what stays, and the light's caps, targets and outputs.
-/

namespace Sys2Proof.Machine

open Sys2Proof

/-! ### What a store writes -/

/-- A field that the written value shares with the one it replaces stays on both screens. -/
theorem Two.apply_get_set {α β : Type} (f : α → β) {t : Two α} {i : Fin 2} {x : α} (h : f x = f (t.get i)) (j : Fin 2) :
    f ((t.set i x).get j) = f (t.get j) := by
  rw [Two.get_set]
  split
  case isTrue hj => rw [h, hj]
  case isFalse => rfl

/-- A property of the written value and of the ones it finds holds on both screens. -/
theorem Two.holds_get_set {α : Type} {P : α → Prop} {t : Two α} {i : Fin 2} {x : α} (ht : ∀ j, P (t.get j))
    (h : P (t.get i) → P x) (j : Fin 2) : P ((t.set i x).get j) := by
  rw [Two.get_set]
  split
  case isTrue => exact h (ht i)
  case isFalse => exact ht j

/-- Nine coefficients and three offsets (R41). -/
def CompScreen.full (c : CompScreen) : Prop := c.matrix.coeffs.length = 9 ∧ c.matrix.offsets.length = 3

/-- Eight breakpoints (R155). -/
def LightScreen.full (x : LightScreen) : Prop := x.curveLux.length = 8 ∧ x.curveLevel.length = 8

/-- The tables of the settings have their fixed sizes (R41, R155). -/
def State.tablesFull (s : State) : Prop := (∀ i, (s.compScreen i).full) ∧ ∀ i, (s.lightOf i).full

theorem State.shaped.tablesFull {s : State} (h : s.shaped) : s.tablesFull := by
  obtain ⟨_, _, _, _, h⟩ := h
  refine ⟨fun i => ?_, fun i => ?_⟩
  all_goals obtain ⟨_, _, hcoeffs, hoffsets, hlux, hlevel⟩ := h i
  · exact ⟨hcoeffs, hoffsets⟩
  · exact ⟨hlux, hlevel⟩

/-- A write to one place of a table of one screen leaves every other place of both screens. -/
theorem Two.getD_get_set {α β : Type} (f : α → List β) {t : Two α} {i j : Fin 2} {x : α} {n m : Nat} {v d : β}
    (h : f x = (f (t.get i)).set n v) (hne : j = i → m ≠ n) : (f ((t.set i x).get j)).getD m d = (f (t.get j)).getD m d := by
  rw [Two.get_set]
  split
  case isTrue hj =>
    subst hj
    simp only [h, List.getD_eq_getElem?_getD, List.getElem?_set_ne (hne rfl).symm]
  case isFalse => rfl

/-- A stored value is held (R174). -/
theorem Entry.held_store {s : State} {e : Entry} {v : Int} (hs : s.tablesFull) (hin : e.inTable = true)
    (hv : e.isSigned = false → 0 ≤ v) : e.held (e.store v s) = v := by
  obtain ⟨hcomp, hlight⟩ := hs
  cases e with
  | coefficient i n =>
    obtain ⟨hl, _⟩ := hcomp i
    have hn : n < 9 := by simpa [Entry.inTable] using hin
    simp [Entry.held, Entry.store, hl, hn]
  | offset i n =>
    obtain ⟨_, hl⟩ := hcomp i
    have hn : n < 3 := by simpa [Entry.inTable] using hin
    simp [Entry.held, Entry.store, hl, hn]
  | curveLux i n =>
    obtain ⟨hl, _⟩ := hlight i
    have hn : n < 8 := by simpa [Entry.inTable] using hin
    simp [Entry.held, Entry.store, hl, hn, hv rfl]
  | curveLevel i n =>
    obtain ⟨_, hl⟩ := hlight i
    have hn : n < 8 := by simpa [Entry.inTable] using hin
    simp [Entry.held, Entry.store, hl, hn, hv rfl]
  | derateStart => rfl
  | derateStep | fallback | slew => exact Int.toNat_of_nonneg (hv rfl)
  | width i | height i | rate i => simp [Entry.held, Entry.store, hv rfl]

/-- A store of an entry leaves every other as it was (R174). -/
theorem Entry.held_store_other {e o : Entry} (v : Int) (s : State) (h : o ≠ e) : o.held (e.store v s) = o.held s := by
  cases e with
  | coefficient i n =>
    cases o with
    | coefficient j m =>
      exact Two.getD_get_set (fun c : CompScreen => c.matrix.coeffs) (by rfl) fun hj hm => h (by rw [hj, hm])
    | offset j m => exact Two.apply_get_set (fun c : CompScreen => c.matrix.offsets.getD m 0) (by rfl) j
    | _ => rfl
  | offset i n =>
    cases o with
    | offset j m =>
      exact Two.getD_get_set (fun c : CompScreen => c.matrix.offsets) (by rfl) fun hj hm => h (by rw [hj, hm])
    | coefficient j m => exact Two.apply_get_set (fun c : CompScreen => c.matrix.coeffs.getD m 0) (by rfl) j
    | _ => rfl
  | curveLux i n =>
    cases o with
    | curveLux j m =>
      exact congrArg _ (Two.getD_get_set (fun x : LightScreen => x.curveLux) (by rfl) fun hj hm => h (by rw [hj, hm]))
    | curveLevel j m => exact congrArg _ (Two.apply_get_set (fun x : LightScreen => x.curveLevel.getD m 0) (by rfl) j)
    | _ => rfl
  | curveLevel i n =>
    cases o with
    | curveLevel j m =>
      exact congrArg _ (Two.getD_get_set (fun x : LightScreen => x.curveLevel) (by rfl) fun hj hm => h (by rw [hj, hm]))
    | curveLux j m => exact congrArg _ (Two.apply_get_set (fun x : LightScreen => x.curveLux.getD m 0) (by rfl) j)
    | _ => rfl
  | derateStart => cases o with
    | derateStart => exact absurd rfl h
    | _ => rfl
  | derateStep => cases o with
    | derateStep => exact absurd rfl h
    | _ => rfl
  | fallback => cases o with
    | fallback => exact absurd rfl h
    | _ => rfl
  | slew => cases o with
    | slew => exact absurd rfl h
    | _ => rfl
  | width i => cases o with
    | width j => exact congrArg (fun c : Screen => (c.entries.width : Int)) (Two.get_set_other _ _ fun hj => h (by rw [hj]))
    | height j => exact Two.apply_get_set (fun c : Screen => (c.entries.height : Int)) (by rfl) j
    | rate j => exact Two.apply_get_set (fun c : Screen => (c.entries.rate : Int)) (by rfl) j
    | _ => rfl
  | height i => cases o with
    | width j => exact Two.apply_get_set (fun c : Screen => (c.entries.width : Int)) (by rfl) j
    | height j => exact congrArg (fun c : Screen => (c.entries.height : Int)) (Two.get_set_other _ _ fun hj => h (by rw [hj]))
    | rate j => exact Two.apply_get_set (fun c : Screen => (c.entries.rate : Int)) (by rfl) j
    | _ => rfl
  | rate i => cases o with
    | width j => exact Two.apply_get_set (fun c : Screen => (c.entries.width : Int)) (by rfl) j
    | height j => exact Two.apply_get_set (fun c : Screen => (c.entries.height : Int)) (by rfl) j
    | rate j => exact congrArg (fun c : Screen => (c.entries.rate : Int)) (Two.get_set_other _ _ fun hj => h (by rw [hj]))
    | _ => rfl

/-- A store keeps the tables' sizes. -/
theorem Entry.tablesFull_store {s : State} (e : Entry) (v : Int) (h : s.tablesFull) : (e.store v s).tablesFull := by
  obtain ⟨hcomp, hlight⟩ := h
  cases e with
  | coefficient i n | offset i n =>
    exact ⟨Two.holds_get_set hcomp fun hfull => by rwa [CompScreen.full, List.length_set], hlight⟩
  | curveLux i n | curveLevel i n =>
    exact ⟨hcomp, Two.holds_get_set hlight fun hfull => by rwa [LightScreen.full, List.length_set]⟩
  | _ => exact ⟨hcomp, hlight⟩

/-! ### What a store leaves -/

/-- A screen's record, its timing entries apart. -/
def Screen.blank (c : Screen) : Screen := { c with entries := defaultTiming0 }

/-- A screen's light, its curve apart. -/
def LightScreen.blank (x : LightScreen) : LightScreen := { x with curveLux := [], curveLevel := [] }

/-- A state with its settings table blanked: what a store of a setting leaves. -/
def State.blank (s : State) : State :=
  { s with
    screens := ⟨s.screens.s0.blank, s.screens.s1.blank⟩
    comp := ⟨{ s.comp.s0 with matrix := {} }, { s.comp.s1 with matrix := {} }⟩
    light := { s.light with
      screen := ⟨s.light.screen.s0.blank, s.light.screen.s1.blank⟩, derateStart := 0, derateStep := 0, fallback := 0, slew := 0 } }

theorem State.blank_store (e : Entry) (v : Int) (s : State) : (e.store v s).blank = s.blank := by
  cases e with
  | derateStart | derateStep | fallback | slew => rfl
  | coefficient i n | offset i n | curveLux i n | curveLevel i n | width i | height i | rate i =>
    match i with
    | 0 => rfl
    | 1 => rfl

/-- What two states share whose tables alone differ. -/
theorem State.screen_of_blank {s t : State} (h : t.blank = s.blank) (i : Fin 2) :
    t.screen i = { s.screen i with entries := (t.screen i).entries } := by
  have hget : ∀ u : State, (u.screen i).blank = u.blank.screen i := fun u => by match i with | 0 => rfl | 1 => rfl
  have heq : (t.screen i).blank = (s.screen i).blank := by rw [hget, hget, h]
  exact congrArg (fun c : Screen => { c with entries := (t.screen i).entries }) heq

theorem State.lightOf_of_blank {s t : State} (h : t.blank = s.blank) (i : Fin 2) :
    t.lightOf i = { s.lightOf i with curveLux := (t.lightOf i).curveLux, curveLevel := (t.lightOf i).curveLevel } := by
  have hget : ∀ u : State, (u.lightOf i).blank = u.blank.lightOf i := fun u => by match i with | 0 => rfl | 1 => rfl
  have heq : (t.lightOf i).blank = (s.lightOf i).blank := by rw [hget, hget, h]
  exact congrArg (fun x : LightScreen =>
    { x with curveLux := (t.lightOf i).curveLux, curveLevel := (t.lightOf i).curveLevel }) heq

theorem State.context_of_blank {s t : State} (h : t.blank = s.blank) (i : Fin 2) :
    (t.compScreen i).context = (s.compScreen i).context := by
  have hget : ∀ u : State, (u.compScreen i).context = (u.blank.compScreen i).context := fun u => by
    match i with | 0 => rfl | 1 => rfl
  rw [hget t, h, ← hget s]

/-! ### Caps, targets and outputs (R157, R158, R161) -/

/-- A screen's light after its target is computed (R158). -/
def Light.retargeted (l : Light) (i : Fin 2) : LightScreen :=
  { l.screen.get i with target := min (l.modeValue (l.screen.get i)) (l.screen.get i).cap }

/-- A screen's light after its cap and target are computed and its output has fallen to the cap (R157, R158, R161). -/
def Light.rederated (l : Light) (i : Fin 2) : LightScreen :=
  { l.screen.get i with
    cap := l.capOf (l.temps.get i)
    target := min (l.modeValue (l.screen.get i)) (l.capOf (l.temps.get i))
    output := min (l.screen.get i).output (l.capOf (l.temps.get i)) }

theorem Light.retarget_eq (l : Light) (i : Fin 2) : l.retarget i = { l with screen := l.screen.set i (l.retargeted i) } := rfl

theorem Light.retargetBoth_eq (l : Light) : l.retargetBoth = { l with screen := ⟨l.retargeted 0, l.retargeted 1⟩ } := by
  rw [Light.retargetBoth, Light.retarget_eq, Light.retarget_eq]
  rfl

theorem Light.rederate_one (l : Light) (i : Fin 2) :
    ((l.recap i).retarget i).dropToCap i = { l with screen := l.screen.set i (l.rederated i) } := by
  simp only [Light.recap, Light.retarget, Light.dropToCap, Two.get_set_same, Two.set_set]
  rfl

theorem Light.rederate_eq (l : Light) : l.rederate = { l with screen := ⟨l.rederated 0, l.rederated 1⟩ } := by
  rw [Light.rederate, Light.rederate_one, Light.rederate_one]
  rfl

theorem Two.get_mk {α : Type} (f : Fin 2 → α) (i : Fin 2) : Two.get ⟨f 0, f 1⟩ i = f i := by
  match i with
  | 0 => rfl
  | 1 => rfl

theorem Light.retarget_get (l : Light) (i : Fin 2) : (l.retarget i).screen.get i = l.retargeted i := Two.get_set_same _ _ _

theorem Light.retargetBoth_get (l : Light) (i : Fin 2) : l.retargetBoth.screen.get i = l.retargeted i := by
  rw [Light.retargetBoth_eq]
  exact Two.get_mk l.retargeted i

/-- An effect moves caps, targets and outputs alone (R174). -/
theorem Entry.effect_frame (e : Entry) (s : State) : ∃ screens, e.effect s = s.setLightAll { s.light with screen := screens } ∧
    ∀ i, screens.get i =
      { s.lightOf i with cap := (screens.get i).cap, target := (screens.get i).target, output := (screens.get i).output } := by
  cases e with
  | curveLux j n | curveLevel j n =>
    refine ⟨_, congrArg s.setLightAll (s.light.retarget_eq j), fun i => ?_⟩
    rw [Two.get_set]
    split
    case isTrue hij => rw [hij]; rfl
    case isFalse => rfl
  | derateStart | derateStep =>
    refine ⟨_, congrArg s.setLightAll s.light.rederate_eq, fun i => ?_⟩
    rw [Two.get_mk s.light.rederated]
    rfl
  | fallback =>
    refine ⟨_, congrArg s.setLightAll s.light.retargetBoth_eq, fun i => ?_⟩
    rw [Two.get_mk s.light.retargeted]
    rfl
  | _ => exact ⟨s.light.screen, rfl, fun i => rfl⟩

/-- An effect leaves the values held (R174). -/
theorem Entry.held_effect (e o : Entry) (s : State) : o.held (e.effect s) = o.held s := by
  obtain ⟨screens, heq, hget⟩ := e.effect_frame s
  rw [heq]
  cases o with
  | curveLux i n =>
    have hlux := congrArg (fun x : LightScreen => ((x.curveLux.getD n 0 : Nat) : Int)) (hget i)
    exact hlux
  | curveLevel i n =>
    have hlevel := congrArg (fun x : LightScreen => ((x.curveLevel.getD n 0 : Nat) : Int)) (hget i)
    exact hlevel
  | _ => rfl

end Sys2Proof.Machine
end

section
/-! SETTING_GET and SETTING_PUT (R161, R173, R174), and the settings load (R175). -/

namespace Sys2Proof.Machine

open Sys2Proof

/-! ### Targets and caps after an effect -/

/-- A screen's target is the smaller of its mode value and its cap (R158). -/
def Light.onTarget (l : Light) (i : Fin 2) : Prop :=
  (l.screen.get i).target = min (l.modeValue (l.screen.get i)) (l.screen.get i).cap

theorem Light.retarget_onTarget (l : Light) (i : Fin 2) : (l.retarget i).onTarget i := by
  rw [Light.retarget_eq, Light.onTarget, Two.get_set_same]
  rfl

theorem Light.retargetBoth_onTarget (l : Light) (i : Fin 2) : l.retargetBoth.onTarget i := by
  rw [Light.retargetBoth_eq, Light.onTarget, Two.get_mk l.retargeted]
  rfl

theorem Light.rederate_onTarget (l : Light) (i : Fin 2) : l.rederate.onTarget i := by
  rw [Light.rederate_eq, Light.onTarget, Two.get_mk l.rederated]
  rfl

theorem Light.rederate_cap (l : Light) (i : Fin 2) : (l.rederate.screen.get i).cap = l.rederate.capOf (l.rederate.temps.get i) := by
  rw [Light.rederate_eq, Two.get_mk l.rederated]
  rfl

theorem Light.rederate_output (l : Light) (i : Fin 2) :
    (l.rederate.screen.get i).output = min (l.screen.get i).output (l.rederate.screen.get i).cap := by
  rw [Light.rederate_eq, Two.get_mk l.rederated]
  rfl

/-! ### SETTING_GET and SETTING_PUT -/

theorem Entry.accepts_holdPlace (e : Entry) (s : State) (v : Int) : e.accepts (holdPlace s) v = e.accepts s v := by
  cases e <;> rfl

theorem Entry.store_holdPlace (e : Entry) (v : Int) (s : State) : e.store v (holdPlace s) = holdPlace (e.store v s) := by
  cases e <;> rfl

theorem Entry.effect_holdPlace (e : Entry) (s : State) : e.effect (holdPlace s) = holdPlace (e.effect s) := by
  cases e <;> rfl

theorem Entry.shows_put (e : Entry) (v : Int) (s : State) : (e.effect (e.store v s)).shows = s.shows := by
  obtain ⟨screens, heq, _⟩ := e.effect_frame (e.store v s)
  rw [heq, State.shows_setLightAll]
  cases e <;> rfl

theorem Entry.held_answered (e : Entry) (kind tag : Nat) (st : Status) (data : List Byte) (s : State) :
    e.held (answered kind tag st data s) = e.held s := by
  cases e <;> rfl

section Requests

variable {s : State} {tag index : Nat} {e : Entry} (h : s.takes tag)
include h

theorem exec_settingGet_noSuch (he : entryOf index = none) :
    exec (.settingGet tag index) s = .next (answered 0x0B tag .noSuch [] s) :=
  request_answered h rfl (by rw [settingGetOwner, he])

theorem exec_settingGet (he : entryOf index = some e) : exec (.settingGet tag index) s =
    .next (answered 0x0B tag .ok (byteOf index :: beBytes 4 (twosOf 4 (e.held s))) s) :=
  request_answered h rfl (by rw [settingGetOwner, he]; cases e <;> rfl)

theorem exec_settingPut_noSuch (value : Nat) (he : entryOf index = none) :
    exec (.settingPut tag index value) s = .next (answered 0x0C tag .noSuch [] s) :=
  request_answered h rfl (by rw [settingPutOwner, he])

theorem exec_settingPut_refused {value : Nat} (he : entryOf index = some e) (ha : e.accepts s (e.ofField value) = false) :
    exec (.settingPut tag index value) s = .next (answered 0x0C tag .badParam [] s) :=
  request_answered h rfl (by simp [settingPutOwner, he, Entry.accepts_holdPlace, ha])

theorem exec_settingPut {value : Nat} (he : entryOf index = some e) (ha : e.accepts s (e.ofField value) = true) :
    exec (.settingPut tag index value) s = .next (answered 0x0C tag .ok
      (byteOf index :: beBytes 4 (twosOf 4 (e.ofField value))) (e.effect (e.store (e.ofField value) s))) :=
  request_answered h (e.shows_put _ s)
    (by simp [settingPutOwner, settingReply, he, Entry.accepts_holdPlace, ha, Entry.store_holdPlace, Entry.effect_holdPlace])

end Requests

/-- The entry of an index of a screen's curve is one of its breakpoints. -/
theorem entryOf_curve {k : Nat} {e : Entry} {i : Fin 2} (he : entryOf k = some e) (lo : 0x20 + 0x10 * i.val ≤ k)
    (hi : k < 0x30 + 0x10 * i.val) : (∃ n, e = .curveLux i n) ∨ ∃ n, e = .curveLevel i n := by
  obtain ⟨n, rfl⟩ := Nat.exists_eq_add_of_le lo
  by_cases hn : n < 8
  · exact .inl ⟨n, Option.some.inj (he.symm.trans (entryOf_curveLux i n hn))⟩
  · obtain ⟨m, rfl⟩ := Nat.exists_eq_add_of_le (Nat.le_of_not_lt hn)
    have hm := entryOf_curveLevel i m (by omega)
    rw [show 0x28 + 0x10 * i.val + m = 0x20 + 0x10 * i.val + (8 + m) by omega, he] at hm
    exact .inr ⟨m, Option.some.inj hm⟩

/-- An entry that is none of the light's own leaves the screens' lights. -/
theorem Entry.put_light_screen {k : Nat} {e : Entry} (v : Int) (s : State) (he : entryOf k = some e) (hk : k < 0x20 ∨ 0x43 ≤ k) :
    (e.effect (e.store v s)).light.screen = s.light.screen := by
  obtain ⟨hin, rfl⟩ := entryOf_eq_some he
  cases e with
  | coefficient | offset | slew | width | height | rate => rfl
  | curveLux | curveLevel | derateStart | derateStep | fallback =>
    simp only [Entry.index, Entry.inTable, decide_eq_true_eq] at hin hk
    omega

end Sys2Proof.Machine
end

section
/-! The settings load of start-up: which value every entry takes, the timings, the light and the power-up requests (R90, R175). -/

namespace Sys2Proof.Machine

open Sys2Proof

/-! ### Loading the block's entries -/

theorem loadEntry_of_some {s : State} {k : Nat} {e : Entry} (f : Nat) (he : entryOf k = some e) (ht : e.isTiming = false) :
    loadEntry s (k, f) = e.store (loadedValue e f) s := by
  simp [loadEntry, he, ht]

/-- Loading an entry stores a value or does nothing. -/
theorem loadEntry_cases (s : State) (p : Nat × Nat) :
    loadEntry s p = s ∨ ∃ e v, entryOf p.1 = some e ∧ loadEntry s p = e.store v s := by
  cases he : entryOf p.1 with
  | none => exact .inl (by simp [loadEntry, he])
  | some e =>
    cases ht : e.isTiming with
    | true => exact .inl (by simp [loadEntry, he, ht])
    | false => exact .inr ⟨e, _, rfl, loadEntry_of_some p.2 he ht⟩

theorem blank_loadEntries (ps : List (Nat × Nat)) (s : State) : (ps.foldl loadEntry s).blank = s.blank := by
  induction ps generalizing s with
  | nil => rfl
  | cons p ps ih =>
    rw [List.foldl_cons, ih]
    rcases loadEntry_cases s p with h | ⟨e, v, _, h⟩
    · rw [h]
    · rw [h, State.blank_store]

theorem tablesFull_loadEntry {s : State} (p : Nat × Nat) (h : s.tablesFull) : (loadEntry s p).tablesFull := by
  rcases loadEntry_cases s p with hp | ⟨e, v, _, hp⟩
  · rwa [hp]
  · rw [hp]
    exact e.tablesFull_store v h

/-- Entries that the rest of the block does not name keep their values. -/
theorem held_loadEntries_other {k : Nat} {o : Entry} (ho : entryOf k = some o) (ps : List (Nat × Nat)) (s : State)
    (h : k ∉ ps.map (·.1)) : o.held (ps.foldl loadEntry s) = o.held s := by
  induction ps generalizing s with
  | nil => rfl
  | cons p ps ih =>
    rw [List.map_cons, List.mem_cons, not_or] at h
    obtain ⟨hne, hps⟩ := h
    rw [List.foldl_cons, ih _ hps]
    rcases loadEntry_cases s p with hp | ⟨e, v, he, hp⟩
    · rw [hp]
    · rw [hp, Entry.held_store_other v s (entryOf_ne he ho hne)]

theorem Entry.default_nonneg {e : Entry} (h : e.isSigned = false) : 0 ≤ e.default := by
  cases e <;> simp [Entry.isSigned, Entry.default] at h ⊢

theorem loadedValue_nonneg {e : Entry} (h : e.isSigned = false) (f : Nat) : 0 ≤ loadedValue e f := by
  rw [loadedValue, Entry.ofField_unsigned h]
  split
  · exact Int.natCast_nonneg f
  · exact Entry.default_nonneg h

/-- An entry named once in the block takes its loaded value (R175). -/
theorem held_loadEntries {k f : Nat} {e : Entry} (he : entryOf k = some e) (ht : e.isTiming = false) {ps : List (Nat × Nat)}
    (hnd : (ps.map (·.1)).Nodup) (hmem : (k, f) ∈ ps) {s : State} (hs : s.tablesFull) :
    e.held (ps.foldl loadEntry s) = loadedValue e f := by
  induction ps generalizing s with
  | nil => simp at hmem
  | cons p ps ih =>
    rw [List.map_cons, List.nodup_cons] at hnd
    obtain ⟨hp, hnd⟩ := hnd
    rw [List.foldl_cons]
    rcases List.mem_cons.1 hmem with rfl | hmem
    · rw [held_loadEntries_other he ps _ hp, loadEntry_of_some f he ht]
      exact Entry.held_store hs (entryOf_eq_some he).1 fun h => loadedValue_nonneg h f
    · exact ih hnd hmem (tablesFull_loadEntry p hs)

theorem settingIndexes_nodup : settingIndexes.Nodup := by decide

/-- The block's entries but for the timings, in the order of R202. -/
def loadIndex (n : Nat) : Nat := if n < 12 then n else if n < 24 then n + 4 else n + 8

theorem settingIndexes_getElem? : ∀ n < 60, settingIndexes[n]? = some (loadIndex n) := by decide

theorem isTiming_loadIndex {n : Nat} (hn : n < 60) {e : Entry} (he : entryOf (loadIndex n) = some e) : e.isTiming = false := by
  obtain ⟨-, hk⟩ := entryOf_eq_some he
  have hlt : loadIndex n < 0x44 := by rw [loadIndex]; split_ifs <;> omega
  cases e with
  | width i | height i | rate i => simp only [Entry.index] at hk; omega
  | _ => rfl

/-- The state once the block's entries are loaded, timings apart (R175). -/
def loadedEntries (block : List Nat) (s : State) : State := (settingIndexes.zip block).foldl loadEntry s

/-- The entry of a place of the block takes its value from there (R175). -/
theorem held_loadedEntries {block : List Nat} (hb : block.length = 66) {n : Nat} (hn : n < 60) {e : Entry}
    (he : entryOf (loadIndex n) = some e) {s : State} (hs : s.tablesFull) :
    e.held (loadedEntries block s) = loadedValue e (block.getD n 0) := by
  have hfst : (settingIndexes.zip block).map (·.1) = settingIndexes := List.map_fst_zip (by rw [hb]; decide)
  refine held_loadEntries he (isTiming_loadIndex hn he) (by rw [hfst]; exact settingIndexes_nodup) ?_ hs
  have hfield : block[n]? = some (block.getD n 0) := by
    rw [List.getD_eq_getElem?_getD, List.getElem?_eq_getElem (by omega), Option.getD_some]
  exact List.mem_of_getElem? (List.getElem?_zip_eq_some.2 ⟨settingIndexes_getElem? n hn, hfield⟩)

/-! ### The load as a whole: timings, light and requests -/

/-- A screen's timing as the block gives it, or its default (R90, R175). -/
def loadedTiming (block : List Nat) (i : Fin 2) : Timing :=
  let t : Timing := ⟨block.getD (60 + 3 * i.val) 0, block.getD (61 + 3 * i.val) 0, block.getD (62 + 3 * i.val) 0⟩
  if timingOk t then t else defaultTiming i

/-- A screen's record with a timing for its entries and in use (R90). -/
def Screen.timed (c : Screen) (t : Timing) : Screen := { c with active := t, entries := t }

theorem loadBlock_eq (block : List Nat) (s : State) : loadBlock block s = { loadedEntries block s with
    screens := ⟨(loadedEntries block s).screens.s0.timed (loadedTiming block 0),
      (loadedEntries block s).screens.s1.timed (loadedTiming block 1)⟩
    light := (loadedEntries block s).light.rederate } := by
  rw [loadBlock]
  rfl

theorem blank_loadedEntries (block : List Nat) (s : State) : (loadedEntries block s).blank = s.blank :=
  blank_loadEntries (settingIndexes.zip block) s

theorem timed_loadedEntries (block : List Nat) (s : State) (i : Fin 2) (t : Timing) :
    ((loadedEntries block s).screen i).timed t = (s.screen i).timed t := by
  rw [State.screen_of_blank (blank_loadedEntries block s) i]
  rfl

/-- The load: the block's entries, the light rederated, both screens timed and asked for ON (R92, R161, R175). -/
theorem settingsLoad_eq (block : Option (List Nat)) (s : State) : ∃ screens power l,
    settingsLoad block s = { loadedEntries (block.getD defaultBlock) s with
      screens := screens, light := (loadedEntries (block.getD defaultBlock) s).light.rederate, power := power, link := l } ∧
    (∀ i, screens.get i = ((s.screen i).timed (loadedTiming (block.getD defaultBlock) i)).wokenUp) ∧
    power.settings = some (if block.isSome then .loaded else .defaults) := by
  obtain ⟨reached, changing, tag, l, h, -⟩ := sendPower_active_frame ((loadBlock (block.getD defaultBlock) s).setPower
    { (loadBlock (block.getD defaultBlock) s).power with settings := some (if block.isSome then .loaded else .defaults) })
  refine ⟨_, _, l, by rw [settingsLoad, h, loadBlock_eq]; rfl, fun i => ?_, rfl⟩
  rw [State.bothWoken_get, State.screen_setPower, ← timed_loadedEntries (block.getD defaultBlock)]
  match i with
  | 0 => rfl
  | 1 => rfl

theorem timingOk_iff (w h r : Nat) : timingOk ⟨w, h, r⟩ = true ↔
    320 ≤ w ∧ w ≤ 1920 ∧ 240 ≤ h ∧ h ≤ 1920 ∧ (r = 60 ∨ r = 50 ∨ r = 30) ∧ w * h ≤ 2073600 := by
  simp only [timingOk, Bool.and_eq_true, Bool.or_eq_true, decide_eq_true_eq, beq_iff_eq, and_assoc, or_assoc]
  rfl

theorem loadedTiming_default : ∀ i, loadedTiming defaultBlock i = defaultTiming i := by decide

theorem defaultTiming_eq (i : Fin 2) : defaultTiming i = if i = 0 then ⟨1280, 800, 60⟩ else ⟨1080, 1920, 60⟩ := by
  match i with
  | 0 => rfl
  | 1 => rfl

/-- The default block gives every entry its default (R173, R175). -/
theorem loadedValue_default : ∀ n < 60, ∀ e ∈ entryOf (loadIndex n), loadedValue e (defaultBlock.getD n 0) = e.default := by decide

theorem Entry.accepts_of_not_timing {e : Entry} (h : e.isTiming = false) (s : State) (v : Int) : e.accepts s v = e.inRange v := by
  cases e with
  | width | height | rate => simp [Entry.isTiming] at h
  | _ => exact Bool.and_true _

/-- The light's timers, the timings and the requests of a load leave the values of the other entries (R175). -/
theorem held_settingsLoad (block : Option (List Nat)) {s : State} {e : Entry} (h : e.isTiming = false) :
    e.held (settingsLoad block s) = e.held (loadedEntries (block.getD defaultBlock) s) := by
  obtain ⟨screens, power, l, hload, -, -⟩ := settingsLoad_eq block s
  rw [hload, ← Entry.held_effect .derateStart e (loadedEntries (block.getD defaultBlock) s)]
  cases e with
  | width | height | rate => simp [Entry.isTiming] at h
  | _ => rfl

end Sys2Proof.Machine
end

section
/-! What an accepted SETTING_PUT and the settings load do, assembled for the statement of O22 (R161, R173 to R175). -/

namespace Sys2Proof.Machine

open Sys2Proof

/-! ### An accepted value (R161, R174) -/

/-- What an accepted value leaves of the state (R174). -/
theorem Entry.put_frame (e : Entry) (v : Int) (s : State) (i : Fin 2) :
    let t := e.effect (e.store v s)
    t.screen i = { s.screen i with entries := (t.screen i).entries } ∧ (t.compScreen i).context = (s.compScreen i).context ∧
      (t.lightOf i).manual = (s.lightOf i).manual ∧ (t.lightOf i).manualLevel = (s.lightOf i).manualLevel := by
  have hblank := State.blank_store e v s
  obtain ⟨screens, heq, hget⟩ := e.effect_frame (e.store v s)
  rw [heq]
  have hlight := (hget i).trans (congrArg (fun x : LightScreen => { x with
    cap := (screens.get i).cap, target := (screens.get i).target, output := (screens.get i).output })
    (State.lightOf_of_blank hblank i))
  exact ⟨State.screen_of_blank hblank i, State.context_of_blank hblank i, (congrArg LightScreen.manual hlight :),
    (congrArg LightScreen.manualLevel hlight :)⟩

/-- Nothing outside the screens' records, the compositors and the light changes, and of the light no sensor (R174). -/
theorem Entry.put_others (e : Entry) (v : Int) (s : State) :
    let t := e.effect (e.store v s)
    t.link = s.link ∧ t.plans = s.plans ∧ t.cache = s.cache ∧ t.lanes = s.lanes ∧ t.catalog = s.catalog ∧ t.store = s.store ∧
      t.power = s.power ∧ t.light.sampleTimer = s.light.sampleTimer ∧ t.light.port = s.light.port ∧
      t.light.ambient = s.light.ambient ∧ t.light.temps = s.light.temps ∧ t.light.window = s.light.window := by
  obtain ⟨screens, heq, -⟩ := e.effect_frame (e.store v s)
  rw [heq]
  cases e <;> exact ⟨rfl, rfl, rfl, rfl, rfl, rfl, rfl, rfl, rfl, rfl, rfl, rfl⟩

/-- A breakpoint's effect: its screen's target alone (R161). -/
theorem Entry.put_curve {e : Entry} {i : Fin 2} (he : (∃ n, e = .curveLux i n) ∨ ∃ n, e = .curveLevel i n) (v : Int) (s : State) :
    let t := e.effect (e.store v s)
    t.light.onTarget i ∧ (t.lightOf i).cap = (s.lightOf i).cap ∧ (t.lightOf i).output = (s.lightOf i).output ∧
      t.lightOf (1 - i) = s.lightOf (1 - i) := by
  have hother : 1 - i ≠ i := otherScreen_ne i
  have hframe := State.lightOf_of_blank (State.blank_store e v s) i
  have heffect : e.effect (e.store v s) = (e.store v s).setLightAll ((e.store v s).light.retarget i) := by
    rcases he with ⟨n, rfl⟩ | ⟨n, rfl⟩ <;> rfl
  have hstore : (e.store v s).lightOf (1 - i) = s.lightOf (1 - i) := by
    rcases he with ⟨n, rfl⟩ | ⟨n, rfl⟩ <;> exact Two.get_set_other _ _ hother
  rw [heffect]
  have hget := (e.store v s).light.retarget_get i
  exact ⟨Light.retarget_onTarget _ i, (congrArg LightScreen.cap hget).trans (congrArg LightScreen.cap hframe :),
    (congrArg LightScreen.output hget).trans (congrArg LightScreen.output hframe :), (Two.get_set_other _ _ hother).trans hstore⟩

/-- The derate entries' effect: both caps, targets and outputs (R157, R161). -/
theorem Entry.put_derate {e : Entry} (he : e = .derateStart ∨ e = .derateStep) (v : Int) (s : State) (i : Fin 2) :
    let t := e.effect (e.store v s)
    (t.lightOf i).cap = t.light.capOf (t.light.temps.get i) ∧ t.light.onTarget i ∧
      (t.lightOf i).output = min (s.lightOf i).output (t.lightOf i).cap := by
  rcases he with rfl | rfl <;>
    exact ⟨Light.rederate_cap _ i, Light.rederate_onTarget _ i, Light.rederate_output _ i⟩

/-- The fallback's effect: both targets (R161). -/
theorem Entry.put_fallback (v : Int) (s : State) (i : Fin 2) :
    let t := Entry.fallback.effect (Entry.fallback.store v s)
    t.light.onTarget i ∧ (t.lightOf i).cap = (s.lightOf i).cap ∧ (t.lightOf i).output = (s.lightOf i).output := by
  have hget := (Entry.fallback.store v s).light.retargetBoth_get i
  exact ⟨Light.retargetBoth_onTarget _ i, (congrArg LightScreen.cap hget :), (congrArg LightScreen.output hget :)⟩

/-! ### The settings load (R175) -/

/-- An entry takes the block's value in range, and its default otherwise (R175). -/
theorem held_settingsLoad_eq {block : Option (List Nat)} {s : State} (hs : s.shaped) (hb : ∀ b, block = some b → b.length = 66)
    {n : Nat} (hn : n < 60) {e : Entry} (he : entryOf (loadIndex n) = some e) : e.held (settingsLoad block s) =
      if block.isSome = true ∧ e.accepts s (e.ofField ((block.map fun b => b.getD n 0).getD 0)) = true then
        e.ofField ((block.map fun b => b.getD n 0).getD 0)
      else e.default := by
  have ht := isTiming_loadIndex hn he
  cases block with
  | none =>
    rw [held_settingsLoad none ht, Option.getD_none, held_loadedEntries (block := defaultBlock) (by decide) hn he hs.tablesFull,
      if_neg (by simp)]
    exact loadedValue_default n hn e he
  | some b =>
    rw [held_settingsLoad (some b) ht, Option.getD_some, held_loadedEntries (block := b) (hb b rfl) hn he hs.tablesFull]
    simp [loadedValue, Entry.accepts_of_not_timing ht]

/-- A screen's timing from the block, judged as one, or its default (R90, R175). -/
theorem loadedTiming_eq (block : Option (List Nat)) (i : Fin 2) :
    let field := fun n : Nat => (block.map fun b => b.getD n 0).getD 0
    let w := field (60 + 3 * i.val)
    let h := field (61 + 3 * i.val)
    let r := field (62 + 3 * i.val)
    loadedTiming (block.getD defaultBlock) i =
      if 320 ≤ w ∧ w ≤ 1920 ∧ 240 ≤ h ∧ h ≤ 1920 ∧ (r = 60 ∨ r = 50 ∨ r = 30) ∧ w * h ≤ 2073600 then ⟨w, h, r⟩
      else if i = 0 then ⟨1280, 800, 60⟩ else ⟨1080, 1920, 60⟩ := by
  intro field w h r
  rw [← defaultTiming_eq]
  cases block with
  | none =>
    rw [if_neg (by simp [w, field])]
    exact loadedTiming_default i
  | some b =>
    simp only [← timingOk_iff]
    rfl

theorem Screen.wokenUp_entries (c : Screen) : c.wokenUp.entries = c.entries := by
  unfold Screen.wokenUp
  split <;> rfl

theorem Screen.wokenUp_active (c : Screen) : c.wokenUp.active = c.active := by
  unfold Screen.wokenUp
  split <;> rfl

theorem Screen.wokenUp_wantedOn (c : Screen) : c.wokenUp.wantedOn = true := by
  unfold Screen.wokenUp
  split <;> rfl

/-- After a load caps and targets follow, and outputs have fallen to their caps (R157, R161, R175). -/
theorem rederated_settingsLoad (block : Option (List Nat)) (s : State) (i : Fin 2) :
    let t := settingsLoad block s
    (t.lightOf i).cap = t.light.capOf (t.light.temps.get i) ∧ t.light.onTarget i ∧
      (t.lightOf i).output = min (s.lightOf i).output (t.lightOf i).cap := by
  obtain ⟨screens, power, l, hload, -, -⟩ := settingsLoad_eq block s
  have hframe := State.lightOf_of_blank (blank_loadedEntries (block.getD defaultBlock) s) i
  rw [hload]
  have houtput := congrArg LightScreen.output hframe
  refine ⟨Light.rederate_cap _ i, Light.rederate_onTarget _ i, ?_⟩
  rw [← houtput]
  exact Light.rederate_output _ i

/-- A load leaves the content, the store and the sensors (R175). -/
theorem settingsLoad_others (block : Option (List Nat)) (s : State) :
    let t := settingsLoad block s
    t.power.settings = some (if block.isSome = true then .loaded else .defaults) ∧ t.light.temps = s.light.temps ∧
      t.light.window = s.light.window ∧ t.store = s.store ∧ t.catalog = s.catalog ∧ t.lanes = s.lanes ∧ t.cache = s.cache ∧
      t.plans = s.plans := by
  obtain ⟨screens, power, l, hload, -, hsettings⟩ := settingsLoad_eq block s
  have hblank := blank_loadedEntries (block.getD defaultBlock) s
  rw [hload, Light.rederate_eq]
  exact ⟨hsettings, (congrArg (·.light.temps) hblank :), (congrArg (·.light.window) hblank :), (congrArg State.store hblank :),
    (congrArg State.catalog hblank :), (congrArg State.lanes hblank :), (congrArg State.cache hblank :),
    (congrArg State.plans hblank :)⟩

/-! ### The statement -/

/-- Settles O22: a put is a store and its effect, each of which leaves what the other entries hold; the load is a fold of stores, then
the timings, the caps and targets, and the power-up requests of ACTIVE. -/
theorem settingsAreGotAndPut : Obligations.SettingsAreGotAndPut := by
  unfold Obligations.SettingsAreGotAndPut
  intro curve retargeted rederated defaults
  have hdefaults : ∀ n < 60, ∀ e, entryOf (loadIndex n) = some e → defaults.getD n 0 = e.default := by
    have : ∀ n < 60, ∀ e ∈ entryOf (loadIndex n), defaults.getD n 0 = e.default := by
      simp only [defaults]
      decide
    exact this
  refine ⟨fun s tag index value h => ⟨fun he => ⟨exec_settingGet_noSuch h he, exec_settingPut_noSuch h value he⟩,
    entryOf_eq_none index, ?_⟩, fun x => rfl, fun s i => ?_, ?_⟩
  · intro e he signed
    refine ⟨?_, accepts_iff he, exec_settingGet h he, exec_settingPut_refused h he, fun ha hs => ?_⟩
    · by_cases hsigned : e.isSigned = true
      · rw [Entry.ofField_signed hsigned, if_pos ((Entry.isSigned_iff he).1 hsigned)]
        rfl
      · rw [Entry.ofField_unsigned (by simpa using hsigned), if_neg (mt (Entry.isSigned_iff he).2 hsigned)]
    · have hnonneg : e.isSigned = false → 0 ≤ e.ofField value := fun h => by
        rw [Entry.ofField_unsigned h]
        exact Int.natCast_nonneg value
      obtain ⟨hlink, hplans, hcache, hlanes, hcatalog, hstore, hpower, htimer, hport, hambient, htemps, hwindow⟩ :=
        e.put_others (e.ofField value) s
      refine ⟨_, exec_settingPut h he ha, congrArg (Link.push · _) hlink, ?_, fun k o ho hne => ?_, hplans, hcache, hlanes,
        hcatalog, hstore, hpower, e.put_frame _ s, htimer, hport, hambient, htemps, hwindow,
        fun i lo hi => Entry.put_curve (entryOf_curve he lo hi) _ s, fun hk => ?_, fun hk => ?_, Entry.put_light_screen _ s he⟩
      · rw [Entry.held_answered, Entry.held_effect, Entry.held_store hs.tablesFull (entryOf_eq_some he).1 hnonneg]
      · rw [Entry.held_answered, Entry.held_effect, Entry.held_store_other _ s (entryOf_ne he ho hne)]
      · have hderate : e = .derateStart ∨ e = .derateStep := by
          rcases hk with rfl | rfl
          · exact .inl (Option.some.inj he).symm
          · exact .inr (Option.some.inj he).symm
        exact Entry.put_derate hderate _ s
      · subst hk
        obtain rfl := Option.some.inj he
        exact Entry.put_fallback _ s
  · refine ⟨entryOf_coefficient i, entryOf_offset i, fun n hn => ⟨entryOf_curveLux i n hn, entryOf_curveLevel i n hn⟩, rfl, rfl, rfl,
      rfl, entryOf_width i, entryOf_height i, entryOf_rate i, fun n => ⟨rfl, rfl, rfl, rfl⟩, rfl, rfl, rfl, rfl, rfl, rfl, rfl⟩
  · intro s block hs hblock t field
    refine ⟨fun n e hn he => ?_, fun i => ?_, settingsLoad_others block s⟩
    · rw [hdefaults n hn e he]
      exact held_settingsLoad_eq hs hblock hn he
    · intro w h r
      obtain ⟨screens, power, l, hload, hscreens, -⟩ := settingsLoad_eq block s
      have hscreen : t.screen i = ((s.screen i).timed (loadedTiming (block.getD defaultBlock) i)).wokenUp :=
        (congrArg (fun x : State => x.screen i) hload).trans (hscreens i)
      rw [hscreen, Screen.wokenUp_entries, Screen.wokenUp_active, Screen.wokenUp_wantedOn]
      refine ⟨loadedTiming_eq block i, rfl, rfl, fun hoff => ?_, rederated_settingsLoad block s i⟩
      rw [Screen.wokenUp_off (by exact hoff)]
      exact ⟨rfl, rfl, rfl, rfl, rfl⟩

end Sys2Proof.Machine
end

section
/-!
The two title tables across the blocks (R103): no operation but the stage requests, a switch of the live generation, a mount and a reset
writes one, which is said once for each.
-/

namespace Sys2Proof.Machine

open Sys2Proof

/-- The two title tables of catalog memory: the live generation's titles, and the staged generation with its own (R103). -/
def State.titleTables (s : State) : List TitleRec × Option Staged := (s.catalog.titles, s.catalog.staged)

/-! ### Updates of other blocks -/

section Updates

variable (s : State)

@[simp] theorem titleTables_setLink (l : Link) : (s.setLink l).titleTables = s.titleTables := rfl
@[simp] theorem titleTables_setPlan (i : Fin 2) (p : PlanScreen) : (s.setPlan i p).titleTables = s.titleTables := rfl
@[simp] theorem titleTables_setLight (i : Fin 2) (l : LightScreen) : (s.setLight i l).titleTables = s.titleTables := rfl
@[simp] theorem titleTables_setLightAll (l : Light) : (s.setLightAll l).titleTables = s.titleTables := rfl
@[simp] theorem titleTables_setCache (c : StillCache) : (s.setCache c).titleTables = s.titleTables := rfl
@[simp] theorem titleTables_setStore (st : Store) : (s.setStore st).titleTables = s.titleTables := rfl
@[simp] theorem titleTables_setCatalog (c : Catalog) : (s.setCatalog c).titleTables = (c.titles, c.staged) := rfl
@[simp] theorem titleTables_mk (lk : Link) (pl : Two PlanScreen) (co : Two CompScreen) (ca : StillCache) (ls : LaneEngine)
    (sc : Two Screen) (c : Catalog) (st : Store) (li : Light) (po : Power) (pe : List Instr) :
    State.titleTables ⟨lk, pl, co, ca, ls, sc, c, st, li, po, pe⟩ = (c.titles, c.staged) := rfl
@[simp] theorem titleTables_def : (s.catalog.titles, s.catalog.staged) = s.titleTables := rfl
@[simp] theorem Catalog.modify_titles (uid : Nat) (f : Asset → Asset) (c : Catalog) : (c.modify uid f).titles = c.titles := rfl
@[simp] theorem Catalog.closeFailed_titles (c : Catalog) : c.closeFailed.titles = c.titles := by unfold Catalog.closeFailed; split <;> rfl
@[simp] theorem Catalog.closeFailed_staged (c : Catalog) : c.closeFailed.staged = c.staged := by unfold Catalog.closeFailed; split <;> rfl
@[simp] theorem Catalog.modify_staged (uid : Nat) (f : Asset → Asset) (c : Catalog) : (c.modify uid f).staged = c.staged := rfl
@[simp] theorem titleTables_setPower (p : Power) : (s.setPower p).titleTables = s.titleTables := rfl
@[simp] theorem titleTables_setLane (l : Fin 3) (r : Lane) : (s.setLane l r).titleTables = s.titleTables := rfl
@[simp] theorem titleTables_setGlyphMemory (g : Option (List Byte)) : (s.setGlyphMemory g).titleTables = s.titleTables := rfl
@[simp] theorem titleTables_setIntake (k : Intake) : (s.setIntake k).titleTables = s.titleTables := rfl
@[simp] theorem titleTables_setPublish (p : Publish) : (s.setPublish p).titleTables = s.titleTables := rfl
@[simp] theorem titleTables_setTest (t : SelfTest) : (s.setTest t).titleTables = s.titleTables := rfl
@[simp] theorem titleTables_reply (kind tag : Nat) (st : Status) (data : List Byte) : (reply kind tag st data s).titleTables = s.titleTables := rfl
@[simp] theorem titleTables_notice (kind : Nat) (payload : List Byte) : (notice kind payload s).titleTables = s.titleTables := by
  obtain ⟨l, h⟩ := notice_link kind payload s
  rw [h]
  rfl
@[simp] theorem titleTables_holdPlace : (holdPlace s).titleTables = s.titleTables := rfl
@[simp] theorem titleTables_eraserStep : (eraserStep s).titleTables = s.titleTables := rfl




end Updates

/-- A list of steps that each leave both tables alone leaves them alone. -/
theorem titleTables_foldl {α : Type} {f : State → α → State} (hf : ∀ s x, (f s x).titleTables = s.titleTables) (xs : List α) (s : State) :
    (xs.foldl f s).titleTables = s.titleTables := by
  induction xs generalizing s with
  | nil => rfl
  | cons x xs ih => exact (ih (f s x)).trans (hf s x)

/-! ### Records, readers and what stops with the store (R82, R85, R106 to R108, R119, R123, R134, R142) -/

section Shared



theorem Settling.titleTables {s t : State} (h : Settling s t) : t.titleTables = s.titleTables := by
  obtain ⟨_, _, _, _, rfl⟩ := h
  rfl

theorem GlyphWork.titleTables {s t : State} (h : GlyphWork s t) : t.titleTables = s.titleTables := by
  obtain ⟨_, _, _, _, _, _, _, _, rfl⟩ := h
  rfl

variable (s : State)

@[simp] theorem titleTables_settleRecord (uid : Nat) : (settleRecord uid s).titleTables = s.titleTables := (settling_settleRecord uid s).titleTables
@[simp] theorem titleTables_settleRecords (uids : List Nat) : (settleRecords uids s).titleTables = s.titleTables :=
  (settling_settleRecords uids s).titleTables
@[simp] theorem titleTables_dropStaged (uid : Nat) : (dropStaged uid s).titleTables = s.titleTables := by simp [dropStaged]
@[simp] theorem titleTables_takeReader (uid : Nat) : (takeReader uid s).titleTables = s.titleTables := rfl
@[simp] theorem titleTables_releaseReader (uid : Nat) : (releaseReader uid s).titleTables = s.titleTables := (settling_releaseReader uid s).titleTables
@[simp] theorem titleTables_reportDamage (uid page : Nat) : (reportDamage uid page s).titleTables = s.titleTables := by
  unfold reportDamage
  repeat' split
  all_goals simp
@[simp] theorem titleTables_reportPages (uid : Nat) (run : Run) (pages : List PageRead) :
    (reportPages uid run pages s).titleTables = s.titleTables :=
  titleTables_foldl (fun s p => by split <;> simp) _ s
@[simp] theorem titleTables_portEnd : (portEnd s).titleTables = s.titleTables := by
  unfold portEnd
  split
  · rfl
  · dsimp only
    split <;> simp

@[simp] theorem titleTables_failLoad (k : Nat) (listed : Bool) : (failLoad k listed s).titleTables = s.titleTables := by
  unfold failLoad
  split <;> simp
@[simp] theorem titleTables_failWaitingLoads : (failWaitingLoads s).titleTables = s.titleTables :=
  titleTables_foldl (fun s k => by split <;> simp) _ s
@[simp] theorem titleTables_failGlyphLoad : (failGlyphLoad s).titleTables = s.titleTables := by
  unfold failGlyphLoad
  split <;> simp
@[simp] theorem titleTables_failWaitingGlyph : (failWaitingGlyph s).titleTables = s.titleTables := by
  unfold failWaitingGlyph
  split <;> simp
@[simp] theorem titleTables_dropIntake : (dropIntake s).titleTables = s.titleTables := by simp [dropIntake]
@[simp] theorem titleTables_failIntake (status : Status) : (failIntake status s).titleTables = s.titleTables := by
  unfold failIntake
  dsimp only
  split <;> simp
@[simp] theorem titleTables_failPublish : (failPublish s).titleTables = s.titleTables := by
  unfold failPublish
  split <;> simp
@[simp] theorem titleTables_failStream (image : Bool) (status : Status) : (failStream image status s).titleTables = s.titleTables := by
  unfold failStream
  split <;> simp
@[simp] theorem titleTables_failRootWrites (status : Status) : (failRootWrites status s).titleTables = s.titleTables := by
  obtain ⟨st, p, l, h⟩ := failRootWrites_frame status s
  rw [h]
  rfl
@[simp] theorem titleTables_stopRootWrites : (stopRootWrites s).titleTables = s.titleTables := by
  obtain ⟨st, p, l, h⟩ := stopRootWrites_frame s
  rw [h]
  rfl
@[simp] theorem titleTables_stateNotice (prev : StoreState) (cause : StoreCause) : (stateNotice prev cause s).titleTables = s.titleTables :=
  titleTables_notice s _ _
@[simp] theorem titleTables_becomeReadOnly (cause : StoreCause) : (becomeReadOnly cause s).titleTables = s.titleTables := by
  simp [becomeReadOnly]
@[simp] theorem titleTables_addBad (u : Nat) : (addBad u s).titleTables = s.titleTables := by
  unfold addBad
  dsimp only
  repeat' split
  all_goals simp

end Shared

/-! ### Lanes (R63 to R88) -/

section Lanes

variable (l : Fin 3) (s : State)

@[simp] theorem titleTables_teardown (goal : LaneState) (keepShow : Bool) : (teardown l goal keepShow s).titleTables = s.titleTables := by
  unfold teardown
  dsimp only
  split <;> simp
@[simp] theorem titleTables_answerPlay (status : Status) (data : List Byte) : (answerPlay l status data s).titleTables = s.titleTables := by
  unfold answerPlay
  split <;> simp
@[simp] theorem titleTables_laneEndedNotice (why : Option EndedReason) : (laneEndedNotice l why s).titleTables = s.titleTables :=
  titleTables_notice s _ _
@[simp] theorem titleTables_cueNotice (passed : Bool) (p : LanePicture) : (cueNotice l passed p s).titleTables = s.titleTables := by
  unfold cueNotice
  split <;> simp
@[simp] theorem titleTables_enterPlaying : (enterPlaying l s).titleTables = s.titleTables := by
  unfold enterPlaying
  dsimp only
  split <;> simp
@[simp] theorem titleTables_clipEnd : (clipEnd l s).titleTables = s.titleTables := by
  unfold clipEnd
  dsimp only
  split <;> simp
@[simp] theorem titleTables_playStep (f : Nat) : (playStep f l s).titleTables = s.titleTables := by
  have hpassed : ∀ (ps : List LanePicture) (u : State), (ps.foldl (fun s p => cueNotice l true p s) u).titleTables = u.titleTables :=
    fun ps u => titleTables_foldl (fun s p => titleTables_cueNotice l s true p) ps u
  unfold playStep
  dsimp only
  split
  · simp
  · repeat' split
    all_goals simp [hpassed]
@[simp] theorem titleTables_laneVblank (f : Nat) : (laneVblank f l s).titleTables = s.titleTables := by
  unfold laneVblank
  dsimp only
  repeat' split
  all_goals simp
@[simp] theorem titleTables_lanesVblank (i : Fin 2) : (lanesVblank i s).titleTables = s.titleTables :=
  titleTables_foldl (fun s l => by split <;> simp) _ s
@[simp] theorem titleTables_laneHeld (cause : HeldCause) (status : Status) : (laneHeld l cause status s).titleTables = s.titleTables := by
  simp [laneHeld]
@[simp] theorem titleTables_lanesStoreLoss : (lanesStoreLoss s).titleTables = s.titleTables :=
  titleTables_foldl (fun s l => by split <;> simp) _ s
@[simp] theorem titleTables_lanePowerStop : (lanePowerStop l s).titleTables = s.titleTables := by
  unfold lanePowerStop
  dsimp only
  split <;> simp [laneEndedNotice]
@[simp] theorem titleTables_lanesScreenStop (i : Fin 2) : (lanesScreenStop i s).titleTables = s.titleTables :=
  titleTables_foldl (fun s l => by split <;> simp) _ s
@[simp] theorem titleTables_laneAdvance : (laneAdvance l s).titleTables = s.titleTables := by
  unfold laneAdvance
  dsimp only
  split <;> split <;> simp
@[simp] theorem titleTables_startLane (tag title : Nat) (clock : Fin 2) (ea : EndAction) (loops stall : Nat) (a : Asset) :
    (startLane l tag title clock ea loops stall a s).titleTables = s.titleTables := by
  unfold startLane
  dsimp only
  split <;> simp
@[simp] theorem titleTables_lanePlayOwner (tag lane clock action loops title stall : Nat) :
    (lanePlayOwner tag lane clock action loops title stall s).titleTables = s.titleTables := by
  unfold lanePlayOwner
  repeat' split
  all_goals simp
@[simp] theorem titleTables_laneStopOwner (tag lane : Nat) : (laneStopOwner tag lane s).titleTables = s.titleTables := by
  unfold laneStopOwner
  split
  · rw [titleTables_eraserStep, titleTables_reply]
    repeat' split
    all_goals simp
  · simp
@[simp] theorem titleTables_laneStatusOwner (tag lane : Nat) : (laneStatusOwner tag lane s).titleTables = s.titleTables := by
  unfold laneStatusOwner
  split <;> simp
@[simp] theorem titleTables_orphanReadEnd (p : PortOp) (run : Run) (pages : List PageRead) :
    (orphanReadEnd p run pages s).titleTables = s.titleTables := by
  unfold orphanReadEnd
  split <;> simp
@[simp] theorem titleTables_checkHeader (a : Asset) (data : List Byte) : (checkHeader l a data s).titleTables = s.titleTables := by
  unfold checkHeader
  dsimp only
  split <;> simp
@[simp] theorem titleTables_headerReadEnd (run : Run) (pages : List PageRead) : (headerReadEnd l run pages s).titleTables = s.titleTables := by
  unfold headerReadEnd
  dsimp only
  repeat' split
  all_goals simp
@[simp] theorem titleTables_unitsReadEnd (run : Run) (pages : List PageRead) : (unitsReadEnd l run pages s).titleTables = s.titleTables := by
  unfold unitsReadEnd
  repeat' split
  all_goals simp


@[simp] theorem titleTables_laneReadIssueStep : (laneReadIssueStep l s).titleTables = s.titleTables := by
  unfold laneReadIssueStep
  dsimp only
  repeat' split
  all_goals simp
@[simp] theorem titleTables_clipDecodeStartStep : (clipDecodeStartStep s).titleTables = s.titleTables := by
  unfold clipDecodeStartStep
  split <;> rfl
@[simp] theorem titleTables_clipDecodeDoneStep (result : Option Picture) : (clipDecodeDoneStep result s).titleTables = s.titleTables := by
  unfold clipDecodeDoneStep
  dsimp only
  repeat' split
  · rfl
  · simp only [titleTables_eraserStep, titleTables_laneAdvance, titleTables_setLane]
    rfl
  · rfl
@[simp] theorem titleTables_stallTimerExpiryStep : (stallTimerExpiryStep l s).titleTables = s.titleTables := by
  unfold stallTimerExpiryStep
  split <;> simp

end Lanes

/-! ### Plans (R1 to R24) -/

section Plans

variable (s : State)

@[simp] theorem titleTables_editPlan (kind tag screen : Nat) (rule : Plan → Except Status Plan) :
    (editPlan kind tag screen rule s).titleTables = s.titleTables := by
  unfold editPlan
  dsimp only
  repeat' split
  all_goals simp
@[simp] theorem titleTables_planBackdropOwner (tag screen : Nat) (c : Rgb) : (planBackdropOwner tag screen c s).titleTables = s.titleTables :=
  titleTables_editPlan s _ _ _ _
@[simp] theorem titleTables_planWallOwner (tag screen presence : Nat) (rect : Rect) (cols rows gap border : Nat) (focus : Rgb) :
    (planWallOwner tag screen presence rect cols rows gap border focus s).titleTables = s.titleTables := titleTables_editPlan s _ _ _ _
@[simp] theorem titleTables_planTitlesOwner (tag screen start count : Nat) (titles : List Nat) :
    (planTitlesOwner tag screen start count titles s).titleTables = s.titleTables := titleTables_editPlan s _ _ _ _
@[simp] theorem titleTables_planItemOwner (tag screen index : Nat) (rect : Rect) (normal lit : Fill) (text : Rgb) (al scale : Nat)
    (glyphs : List Byte) : (planItemOwner tag screen index rect normal lit text al scale glyphs s).titleTables = s.titleTables :=
  titleTables_editPlan s _ _ _ _
@[simp] theorem titleTables_planItemClearOwner (tag screen index : Nat) : (planItemClearOwner tag screen index s).titleTables = s.titleTables :=
  titleTables_editPlan s _ _ _ _
@[simp] theorem titleTables_planWindowOwner (tag screen window lane : Nat) (rect : Rect) :
    (planWindowOwner tag screen window lane rect s).titleTables = s.titleTables := titleTables_editPlan s _ _ _ _
@[simp] theorem titleTables_planRevertOwner (tag screen : Nat) : (planRevertOwner tag screen s).titleTables = s.titleTables := by
  unfold planRevertOwner
  split <;> simp
@[simp] theorem titleTables_presentOwner (tag screen kind length : Nat) : (presentOwner tag screen kind length s).titleTables = s.titleTables := by
  unfold presentOwner
  dsimp only
  repeat' split
  all_goals simp
@[simp] theorem titleTables_scrollOwner (tag screen speed target : Nat) : (scrollOwner tag screen speed target s).titleTables = s.titleTables := by
  unfold scrollOwner
  dsimp only
  repeat' split
  all_goals simp
@[simp] theorem titleTables_focusOwner (tag screen kind index : Nat) : (focusOwner tag screen kind index s).titleTables = s.titleTables := by
  unfold focusOwner
  split <;> simp
@[simp] theorem titleTables_passStartWork (i : Fin 2) : (passStartWork i s).titleTables = s.titleTables := by
  obtain ⟨_, _, _, _, _, _, h, -⟩ := passStartWork_frame i s
  rw [h]
  rfl
@[simp] theorem titleTables_planLeaveRunning (i : Fin 2) : (planLeaveRunning i s).titleTables = s.titleTables := by
  unfold planLeaveRunning
  dsimp only
  split <;> simp
@[simp] theorem titleTables_plansOnSwitch : (plansOnSwitch s).titleTables = s.titleTables := rfl
@[simp] theorem titleTables_announceSwitch : (announceSwitch s).titleTables = s.titleTables := by simp [announceSwitch]

end Plans

/-! ### Stills (R43 to R62) and the light (R151 to R163) -/

section Stills

variable (s : State)

@[simp] theorem titleTables_nextStillRead (k : Nat) (cls : FetchClass) (rest : List Run) :
    (nextStillRead k cls rest s).titleTables = s.titleTables := by
  unfold nextStillRead
  split <;> simp
@[simp] theorem titleTables_fetchTakeStep : (fetchTakeStep s).titleTables = s.titleTables := by
  unfold fetchTakeStep
  dsimp only
  repeat' split
  all_goals simp [startLoad]
@[simp] theorem titleTables_stillReadEnd (k : Nat) (run : Run) (pages : List PageRead) :
    (stillReadEnd k run pages s).titleTables = s.titleTables := by
  unfold stillReadEnd
  dsimp only
  repeat' split
  all_goals simp

@[simp] theorem titleTables_stillDecodeStartStep : (stillDecodeStartStep s).titleTables = s.titleTables := by
  unfold stillDecodeStartStep
  split <;> simp
@[simp] theorem titleTables_completeLoad (k : Nat) (l : Load) (i : Ident) (p : Picture) : (completeLoad k l i p s).titleTables = s.titleTables := by
  simp [completeLoad]
@[simp] theorem titleTables_stillDecodeDoneStep (result : Option Picture) : (stillDecodeDoneStep result s).titleTables = s.titleTables := by
  unfold stillDecodeDoneStep
  dsimp only
  repeat' split
  all_goals simp
@[simp] theorem titleTables_cacheInfoOwner (tag : Nat) : (cacheInfoOwner tag s).titleTables = s.titleTables := rfl
@[simp] theorem titleTables_cacheFlushOwner (tag : Nat) : (cacheFlushOwner tag s).titleTables = s.titleTables := by simp [cacheFlushOwner]
@[simp] theorem titleTables_sensorNotice (sensor : Nat) (before after : Sensor) (r : Option Int) :
    (sensorNotice sensor before after r s).titleTables = s.titleTables := by
  unfold sensorNotice
  repeat' split
  all_goals simp
@[simp] theorem titleTables_noteSample : (noteSample s).titleTables = s.titleTables := rfl
@[simp] theorem titleTables_processSample (r0 r1 r2 : Option Int) : (processSample r0 r1 r2 s).titleTables = s.titleTables := by
  simp [processSample]
@[simp] theorem titleTables_sampleRead (reads : List (Option Int)) (r : Option Int) : (sampleRead reads r s).titleTables = s.titleTables := by
  unfold sampleRead
  split <;> simp
@[simp] theorem titleTables_sampleTimerStep : (sampleTimerStep s).titleTables = s.titleTables := by
  unfold sampleTimerStep
  split <;> simp
@[simp] theorem titleTables_lightStatusOwner (tag : Nat) : (lightStatusOwner tag s).titleTables = s.titleTables := rfl
@[simp] theorem titleTables_lightModeOwner (tag screen mode level : Nat) : (lightModeOwner tag screen mode level s).titleTables = s.titleTables := by
  unfold lightModeOwner
  dsimp only
  repeat' split
  all_goals simp

end Stills

/-! ### The Catalog's requests (R109 to R125) -/

section Content

variable (s : State)





@[simp] theorem titleTables_titleGetReply (tag number : Nat) (found : Option TitleRec) :
    (titleGetReply tag number found s).titleTables = s.titleTables := by
  unfold titleGetReply
  split <;> simp
@[simp] theorem titleTables_titleGetOwner (tag generation mode title : Nat) :
    (titleGetOwner tag generation mode title s).titleTables = s.titleTables := by
  unfold titleGetOwner
  repeat' split
  all_goals simp

@[simp] theorem titleTables_intakeAsk : (intakeAsk s).titleTables = s.titleTables := by
  unfold intakeAsk
  dsimp only
  split <;> simp
@[simp] theorem titleTables_judgeIntake : (judgeIntake s).titleTables = s.titleTables := by
  unfold judgeIntake
  dsimp only
  repeat' split
  all_goals simp
@[simp] theorem titleTables_beginIntake (key : Nat) (kind : AssetKind) (length check : Nat) :
    (beginIntake key kind length check s).titleTables = s.titleTables := by
  unfold beginIntake
  dsimp only
  split <;> simp
@[simp] theorem titleTables_assetBeginOwner (tag key kind length check : Nat) :
    (assetBeginOwner tag key kind length check s).titleTables = s.titleTables := by
  unfold assetBeginOwner
  repeat' split
  all_goals simp
@[simp] theorem titleTables_acceptChunk (tag : Nat) (a : Asset) (chunk : List Byte) : (acceptChunk tag a chunk s).titleTables = s.titleTables := by
  unfold acceptChunk
  dsimp only
  split <;> simp
@[simp] theorem titleTables_offerChunk (tag offset : Nat) (chunk : List Byte) (a : Asset) :
    (offerChunk tag offset chunk a s).titleTables = s.titleTables := by
  unfold offerChunk
  dsimp only
  repeat' split
  all_goals simp
@[simp] theorem titleTables_assetDataOwner (tag key offset : Nat) (chunk : List Byte) :
    (assetDataOwner tag key offset chunk s).titleTables = s.titleTables := by
  unfold assetDataOwner
  dsimp only
  repeat' split
  all_goals simp
@[simp] theorem titleTables_assetAbortOwner (tag key : Nat) : (assetAbortOwner tag key s).titleTables = s.titleTables := by
  unfold assetAbortOwner
  dsimp only
  repeat' split
  all_goals simp
@[simp] theorem titleTables_assetInfoReply (tag : Nat) (found : Option Asset) : (assetInfoReply tag found s).titleTables = s.titleTables := by
  unfold assetInfoReply
  split <;> simp
@[simp] theorem titleTables_assetInfoOwner (tag generation key : Nat) : (assetInfoOwner tag generation key s).titleTables = s.titleTables := by
  unfold assetInfoOwner
  repeat' split
  all_goals simp
@[simp] theorem titleTables_imageAsk : (imageAsk s).titleTables = s.titleTables := by
  unfold imageAsk
  split <;> simp
@[simp] theorem titleTables_publishOwner (tag : Nat) : (publishOwner tag s).titleTables = s.titleTables := by
  unfold publishOwner
  repeat' split
  all_goals simp [beginPublish]
@[simp] theorem titleTables_startGlyphLoad (a : Asset) : (startGlyphLoad a s).titleTables = s.titleTables := (startGlyphLoad_work a s).titleTables
@[simp] theorem titleTables_glyphSwitch (before : Option Nat) : (glyphSwitch before s).titleTables = s.titleTables :=
  (glyphSwitch_work before s).titleTables

@[simp] theorem titleTables_finishGlyphLoad (g : GlyphLoad) : (finishGlyphLoad g s).titleTables = s.titleTables := by
  unfold finishGlyphLoad
  dsimp only
  repeat' split
  all_goals simp
@[simp] theorem titleTables_glyphReadEnd (run : Run) (pages : List PageRead) : (glyphReadEnd run pages s).titleTables = s.titleTables := by
  unfold glyphReadEnd
  dsimp only
  repeat' split
  all_goals simp


end Content

/-! ### Programs, root writes and erases (R129 to R149) -/

section Programs

variable (s : State) (image : Bool)

@[simp] theorem titleTables_setWriter (w : Writer) : (s.setWriter image w).titleTables = s.titleTables := by
  unfold State.setWriter
  split <;> simp
@[simp] theorem titleTables_placeProgram (data : List Byte) : (placeProgram image data s).titleTables = s.titleTables := rfl
@[simp] theorem titleTables_takeUnit (u : Nat) : (takeUnit image u s).titleTables = s.titleTables := by
  unfold takeUnit
  dsimp only
  split <;> simp
@[simp] theorem titleTables_waitClean (w : CleanWait) : (waitClean image w s).titleTables = s.titleTables := by
  unfold waitClean
  split <;> simp
@[simp] theorem titleTables_sendProgram (w : WaitingOp) (page : Nat) : (sendProgram w page s).titleTables = s.titleTables := rfl
@[simp] theorem titleTables_grantProgram (w : WaitingOp) : (grantProgram image w s).titleTables = s.titleTables := by
  unfold grantProgram
  dsimp only
  split <;> simp
@[simp] theorem titleTables_relocNext (r : Relocation) : (relocNext image r s).titleTables = s.titleTables := by
  unfold relocNext
  dsimp only
  split <;> simp
@[simp] theorem titleTables_takeFresh (r : Relocation) : (takeFresh image r s).titleTables = s.titleTables := by
  unfold takeFresh
  split <;> simp
@[simp] theorem titleTables_streamFail (page : Nat) : (streamFail image page s).titleTables = s.titleTables := by
  unfold streamFail
  dsimp only
  repeat' split
  all_goals simp
@[simp] theorem titleTables_setExtents (uid : Nat) (old new : List Run) : (setExtents uid old new s).titleTables = s.titleTables := rfl
@[simp] theorem titleTables_intakeOpenTest : (intakeOpenTest s).titleTables = s.titleTables := by
  unfold intakeOpenTest
  dsimp only
  split <;> simp
@[simp] theorem titleTables_enterPage (page : Nat) : (enterPage page s).titleTables = s.titleTables := by
  unfold enterPage
  dsimp only
  repeat' split
  all_goals simp
@[simp] theorem titleTables_dropFailedUnits : (dropFailedUnits s).titleTables = s.titleTables := by
  unfold dropFailedUnits
  split <;> simp
@[simp] theorem titleTables_imagePageDone : (imagePageDone s).titleTables = s.titleTables := by
  unfold imagePageDone
  dsimp only
  repeat' split
  all_goals simp
@[simp] theorem titleTables_streamPass (page : Nat) : (streamPass image page s).titleTables = s.titleTables := by
  unfold streamPass
  dsimp only
  repeat' split
  all_goals simp
@[simp] theorem titleTables_advanceStream : (advanceStream image s).titleTables = s.titleTables := by
  unfold advanceStream
  split <;> simp
@[simp] theorem titleTables_sealFill : (sealFill s).titleTables = s.titleTables := by
  unfold sealFill
  dsimp only
  repeat' split
  all_goals simp
@[simp] theorem titleTables_assetProgramEnd (ok : Bool) (p : PortOp) : (assetProgramEnd ok p s).titleTables = s.titleTables := by
  unfold assetProgramEnd
  dsimp only
  repeat' split
  all_goals simp
@[simp] theorem titleTables_imageProgramEnd (ok : Bool) (p : PortOp) : (imageProgramEnd ok p s).titleTables = s.titleTables := by
  unfold imageProgramEnd
  repeat' split
  all_goals simp
@[simp] theorem titleTables_readBackEnd (page : PageRead) : (readBackEnd image page s).titleTables = s.titleTables := by
  unfold readBackEnd
  split <;> simp

@[simp] theorem titleTables_rootPlace (record : RootRecord) : (rootPlace record s).titleTables = s.titleTables := by
  unfold rootPlace
  dsimp only
  split <;> simp
@[simp] theorem titleTables_rootForm (job : RootJob) (settings : List Nat) (failures : Nat) :
    (rootForm job settings failures s).titleTables = s.titleTables := by simp [rootForm]
@[simp] theorem titleTables_rootWriteStartStep : (rootWriteStartStep s).titleTables = s.titleTables := by
  unfold rootWriteStartStep
  repeat' split
  all_goals simp
@[simp] theorem titleTables_answerSave (status : Status) (data : List Byte) : (answerSave status data s).titleTables = s.titleTables := by
  unfold answerSave
  split <;> simp
@[simp] theorem titleTables_rootFails (client : RootClient) : (rootFails client s).titleTables = s.titleTables := by
  unfold rootFails
  split <;> simp
@[simp] theorem titleTables_rootAdvance : (rootAdvance s).titleTables = s.titleTables := rfl



@[simp] theorem titleTables_beginOp (w : WaitingOp) : (beginOp w s).titleTables = s.titleTables := by
  unfold beginOp
  dsimp only
  repeat' split
  all_goals simp [grantRootPage]
@[simp] theorem titleTables_portGrantStep : (portGrantStep s).titleTables = s.titleTables := by
  unfold portGrantStep
  split <;> simp
@[simp] theorem titleTables_wakeClean : (wakeClean s).titleTables = s.titleTables := by
  unfold wakeClean
  dsimp only
  repeat' split
  all_goals simp
@[simp] theorem titleTables_cleanUnit (u : Nat) : (cleanUnit u s).titleTables = s.titleTables := by simp [cleanUnit]
@[simp] theorem titleTables_noSpaceTest : (noSpaceTest s).titleTables = s.titleTables := by
  unfold noSpaceTest
  repeat' split
  all_goals simp
@[simp] theorem titleTables_stoppedRootWrites : (stoppedRootWrites s).titleTables = s.titleTables := by
  unfold stoppedRootWrites
  split <;> simp
@[simp] theorem titleTables_batchEnd : (batchEnd s).titleTables = s.titleTables := by simp [batchEnd]
@[simp] theorem titleTables_rootEraseFails : (rootEraseFails s).titleTables = s.titleTables := by
  unfold rootEraseFails
  dsimp only
  repeat' split
  all_goals simp
@[simp] theorem titleTables_rootErased (u : Nat) : (rootErased u s).titleTables = s.titleTables := by
  unfold rootErased
  dsimp only
  split <;> simp
@[simp] theorem titleTables_batchReport (u : Nat) (passed : Bool) (rest : List Nat) : (batchReport u passed rest s).titleTables = s.titleTables := by
  unfold batchReport
  repeat' split
  all_goals simp


@[simp] theorem titleTables_storeInfoOwner (tag : Nat) : (storeInfoOwner tag s).titleTables = s.titleTables := rfl
@[simp] theorem titleTables_settingsSaveOwner (tag : Nat) : (settingsSaveOwner tag s).titleTables = s.titleTables := by
  unfold settingsSaveOwner
  repeat' split
  all_goals simp

end Programs

/-! ### Mounts (R126, R130, R136, R137) and the Link's own requests (R187 to R193) -/

section Mounts

variable (s : State)

@[simp] theorem titleTables_hello : (hello s).titleTables = s.titleTables := rfl
@[simp] theorem titleTables_answerRemount : (answerRemount s).titleTables = s.titleTables := by
  unfold answerRemount
  split <;> simp
@[simp] theorem titleTables_mountGlyphs : (mountGlyphs s).titleTables = s.titleTables := by
  unfold mountGlyphs
  repeat' split
  all_goals simp
@[simp] theorem titleTables_mountEnd (new : StoreState) (cause : StoreCause) : (mountEnd new cause s).titleTables = s.titleTables := by
  unfold mountEnd
  dsimp only
  split <;> simp
@[simp] theorem titleTables_mountService (record : Option RootRecord) : (mountService record s).titleTables = s.titleTables := by
  unfold mountService
  split <;> simp



@[simp] theorem titleTables_beginRoots (d : Descriptor) : (beginRoots d s).titleTables = s.titleTables := by
  unfold beginRoots
  dsimp only
  split <;> simp
@[simp] theorem titleTables_reissue (p : PortOp) : (reissue p s).titleTables = s.titleTables := rfl
@[simp] theorem titleTables_echoOwner (tag : Nat) (data : List Byte) : (echoOwner tag data s).titleTables = s.titleTables := by
  unfold echoOwner
  split <;> simp
@[simp] theorem titleTables_statusOwner (tag : Nat) : (statusOwner tag s).titleTables = s.titleTables := rfl
@[simp] theorem titleTables_setLinkRateOwner (tag rate : Nat) : (setLinkRateOwner tag rate s).titleTables = s.titleTables := by
  unfold setLinkRateOwner
  split <;> rfl
@[simp] theorem titleTables_resetOwner (tag : Nat) : (resetOwner tag s).titleTables = s.titleTables := rfl
@[simp] theorem titleTables_refuse (f : Frame) (status : Status) (data : List Byte) : (refuse f status data s).titleTables = s.titleTables := rfl
@[simp] theorem titleTables_rxCharacterStep (b : Byte) (stopHigh : Bool) : (rxCharacterStep b stopHigh s).titleTables = s.titleTables := by
  unfold rxCharacterStep
  dsimp only
  split <;> simp
@[simp] theorem titleTables_frameTimeoutStep : (frameTimeoutStep s).titleTables = s.titleTables := rfl
@[simp] theorem titleTables_causesOwner (tag : Nat) : (causesOwner tag s).titleTables = s.titleTables := rfl
@[simp] theorem titleTables_settingGetOwner (tag index : Nat) : (settingGetOwner tag index s).titleTables = s.titleTables := by
  unfold settingGetOwner
  split <;> simp [settingReply]
@[simp] theorem titleTables_screenStatusOwner (tag n : Nat) : (screenStatusOwner tag n s).titleTables = s.titleTables := by
  unfold screenStatusOwner
  split <;> simp
@[simp] theorem titleTables_endChange : (endChange s).titleTables = s.titleTables := by
  unfold endChange
  dsimp only
  split <;> simp
@[simp] theorem titleTables_reportTarget (i : Fin 2) : (reportTarget i s).titleTables = s.titleTables := by
  unfold reportTarget
  dsimp only
  repeat' split
  all_goals simp

end Mounts

/-! ### Screens, power states, the self-test and the settings (R90 to R98, R165 to R180) -/

section Power

variable (i : Fin 2) (s : State)

@[simp] theorem titleTables_seenSince (b : State) : (s.seenSince b).titleTables = s.titleTables := by
  unfold State.seenSince
  split <;> rfl
@[simp] theorem titleTables_enterWaking : (enterWaking i s).titleTables = s.titleTables := rfl
@[simp] theorem titleTables_enterSleeping : (enterSleeping i s).titleTables = s.titleTables := rfl
@[simp] theorem titleTables_closePass : (closePass i s).titleTables = s.titleTables := rfl
@[simp] theorem titleTables_lightOff : (s.lightOff i).titleTables = s.titleTables := rfl
@[simp] theorem titleTables_setComp (c : CompScreen) : (s.setComp i c).titleTables = s.titleTables := rfl
@[simp] theorem titleTables_setScreen (c : Screen) : (s.setScreen i c).titleTables = s.titleTables := rfl
@[simp] theorem titleTables_leaveRunning : (leaveRunning i s).titleTables = s.titleTables := by simp [leaveRunning]
@[simp] theorem titleTables_powerUpRequest : (powerUpRequest i s).titleTables = s.titleTables := by
  unfold powerUpRequest
  dsimp only
  split <;> simp
@[simp] theorem titleTables_powerDownRequest : (powerDownRequest i s).titleTables = s.titleTables := by
  unfold powerDownRequest
  dsimp only
  split <;> simp
@[simp] theorem titleTables_panelSignalOnStep : (panelSignalOnStep i s).titleTables = s.titleTables := by
  unfold panelSignalOnStep
  dsimp only
  split <;> simp
@[simp] theorem titleTables_powerUpEndStep : (powerUpEndStep i s).titleTables = s.titleTables := by
  unfold powerUpEndStep
  dsimp only
  repeat' split
  all_goals simp
@[simp] theorem titleTables_panelSignalOffStep : (panelSignalOffStep i s).titleTables = s.titleTables := by
  unfold panelSignalOffStep
  dsimp only
  split <;> simp
@[simp] theorem titleTables_powerDownEndStep : (powerDownEndStep i s).titleTables = s.titleTables := by
  unfold powerDownEndStep
  dsimp only
  repeat' split
  all_goals simp
@[simp] theorem titleTables_openPass : (openPass i s).titleTables = s.titleTables := rfl
@[simp] theorem titleTables_scanoutVblank : (scanoutVblank i s).titleTables = s.titleTables := by
  unfold scanoutVblank passBegin
  dsimp only
  split <;> simp
@[simp] theorem titleTables_vblankStep (lanesFirst : Bool) : (vblankStep i lanesFirst s).titleTables = s.titleTables := by
  unfold vblankStep
  repeat' split
  all_goals simp
@[simp] theorem titleTables_passCompleteStep (m : DrawMoments) : (passCompleteStep i m s).titleTables = s.titleTables := by
  unfold passCompleteStep
  dsimp only
  repeat' split
  all_goals simp
@[simp] theorem titleTables_sendPower (st : PowerState) : (sendPower st i s).titleTables = s.titleTables := by
  unfold sendPower
  split <;> simp
@[simp] theorem titleTables_beginChange (st : PowerState) (tag : Option Nat) : (beginChange st tag s).titleTables = s.titleTables := by
  simp [beginChange]
@[simp] theorem titleTables_setPowerOwner (tag state : Nat) : (setPowerOwner tag state s).titleTables = s.titleTables := by
  unfold setPowerOwner
  repeat' split
  all_goals simp
@[simp] theorem titleTables_takeWake : (takeWake s).titleTables = s.titleTables := by
  unfold takeWake
  split <;> simp
@[simp] theorem titleTables_wakeEdgeStep : (wakeEdgeStep s).titleTables = s.titleTables := by
  unfold wakeEdgeStep
  split <;> simp
@[simp] theorem titleTables_endSelfTest (t : SelfTest) : (endSelfTest t s).titleTables = s.titleTables := by
  unfold endSelfTest
  dsimp only
  split <;> simp
@[simp] theorem titleTables_beginTests (tests : List SelfTestKind) (t : SelfTest) :
    (beginTests tests t s).titleTables = s.titleTables := by
  induction tests generalizing t with
  | nil => exact titleTables_endSelfTest s t
  | cons kind rest ih =>
    cases kind with
    | store =>
      rw [beginTests]
      split
      · rfl
      · exact ih _
    | memory | panel | sensor | timebase => rfl
@[simp] theorem titleTables_testEnds (kind : SelfTestKind) (code : Nat) (t : SelfTest) :
    (testEnds kind code t s).titleTables = s.titleTables := titleTables_beginTests s _ _
@[simp] theorem titleTables_selfTestOwner (tag flags : Nat) : (selfTestOwner tag flags s).titleTables = s.titleTables := by
  unfold selfTestOwner
  repeat' split
  all_goals simp
@[simp] theorem titleTables_memoryTestDoneStep (matched : Bool) : (memoryTestDoneStep matched s).titleTables = s.titleTables := by
  unfold memoryTestDoneStep
  repeat' split
  all_goals simp
@[simp] theorem titleTables_failStoreTest : (failStoreTest s).titleTables = s.titleTables := by
  unfold failStoreTest
  repeat' split
  all_goals simp
@[simp] theorem titleTables_storeTestReadDoneStep (page : PageRead) : (storeTestReadDoneStep page s).titleTables = s.titleTables := by
  unfold storeTestReadDoneStep storeTestRoot
  repeat' split
  all_goals simp
@[simp] theorem titleTables_panelTestDoneStep (result : PanelLoop) : (panelTestDoneStep result s).titleTables = s.titleTables := by
  unfold panelTestDoneStep
  repeat' split
  all_goals simp
@[simp] theorem titleTables_sensorTestStartStep : (sensorTestStartStep s).titleTables = s.titleTables := by
  unfold sensorTestStartStep
  repeat' split
  all_goals simp
@[simp] theorem titleTables_sensorRead (r : Option Int) : (sensorRead r s).titleTables = s.titleTables := by
  unfold sensorRead testSensorRead
  dsimp only
  repeat' split
  all_goals simp
@[simp] theorem titleTables_timebaseTestEndStep (ticks : Nat) : (timebaseTestEndStep ticks s).titleTables = s.titleTables := by
  unfold timebaseTestEndStep
  repeat' split
  all_goals simp
@[simp] theorem titleTables_entryStore (e : Entry) (v : Int) : (e.store v s).titleTables = s.titleTables := by cases e <;> rfl
@[simp] theorem titleTables_entryEffect (e : Entry) : (e.effect s).titleTables = s.titleTables := by
  cases e <;> simp [Entry.effect]
@[simp] theorem titleTables_settingPutOwner (tag index value : Nat) : (settingPutOwner tag index value s).titleTables = s.titleTables := by
  unfold settingPutOwner settingReply
  dsimp only
  repeat' split
  all_goals simp
@[simp] theorem titleTables_loadEntry (p : Nat × Nat) : (loadEntry s p).titleTables = s.titleTables := by
  rcases loadEntry_cases s p with h | ⟨e, v, -, h⟩
  · rw [h]
  · rw [h, titleTables_entryStore]
@[simp] theorem titleTables_loadBlock (block : List Nat) : (loadBlock block s).titleTables = s.titleTables := by
  rw [loadBlock_eq, titleTables_mk, titleTables_def]
  exact titleTables_foldl titleTables_loadEntry _ s
@[simp] theorem titleTables_settingsLoad (block : Option (List Nat)) : (settingsLoad block s).titleTables = s.titleTables := by
  simp [settingsLoad]
@[simp] theorem titleTables_leaveService (new : StoreState) (cause : StoreCause) : (leaveService new cause s).titleTables = s.titleTables := by
  unfold leaveService
  dsimp only
  split <;> simp
@[simp] theorem titleTables_cacheClearStep : (cacheClearStep s).titleTables = s.titleTables := by
  unfold cacheClearStep
  split <;> rfl

end Power

end Sys2Proof.Machine
end

section
/-!
O10: the stage requests, a switch, a mount and a reset keep the title tables in rising order (R103, R111, R124, R126), and so does every
command.
-/

namespace Sys2Proof.Machine

open Sys2Proof

/-! ### Rising lists -/

theorem strictlyRising_iff_pairwise (l : List Nat) : strictlyRising l = true ↔ l.Pairwise (· < ·) := by
  induction l with
  | nil => simp [strictlyRising]
  | cons a rest ih =>
    cases rest with
    | nil => simp [strictlyRising]
    | cons b rest =>
      rw [strictlyRising, Bool.and_eq_true, decide_eq_true_iff, ih, List.pairwise_cons (a := a)]
      refine and_congr_left fun hrest => ⟨fun hab x hx => ?_, fun h => h b (by simp)⟩
      rcases List.mem_cons.1 hx with rfl | hx
      · exact hab
      · exact hab.trans ((List.pairwise_cons.1 hrest).1 x hx)

/-- A table whose titles rise strictly in number (R103). -/
abbrev risingTitles (ts : List TitleRec) : Prop := strictlyRising (ts.map (·.number)) = true

theorem risingTitles_iff (ts : List TitleRec) : risingTitles ts ↔ ts.Pairwise fun x y => x.number < y.number := by
  rw [risingTitles, strictlyRising_iff_pairwise, List.pairwise_map]

/-- A new record joins the others: those of another number, in place of the one of its own (R111). -/
theorem mem_putTitle {t : TitleRec} {ts : List TitleRec} (hs : risingTitles ts) (x : TitleRec) :
    x ∈ putTitle t ts ↔ x = t ∨ x ∈ ts ∧ x.number ≠ t.number := by
  rw [risingTitles_iff] at hs
  induction ts with
  | nil => simp [putTitle]
  | cons u rest ih =>
    obtain ⟨hu, hrest⟩ := List.pairwise_cons.1 hs
    have habove : t.number ≤ u.number → ∀ y ∈ rest, y.number ≠ t.number := fun h y hy => by have := hu y hy; omega
    rw [putTitle]
    split
    · rename_i h
      have hne : u.number ≠ t.number := by omega
      simp only [List.mem_cons, ih hrest]
      constructor
      · rintro (rfl | rfl | ⟨hx, hn⟩)
        · exact .inr ⟨.inl rfl, hne⟩
        · exact .inl rfl
        · exact .inr ⟨.inr hx, hn⟩
      · rintro (rfl | ⟨rfl | hx, hn⟩)
        · exact .inr (.inl rfl)
        · exact .inl rfl
        · exact .inr (.inr ⟨hx, hn⟩)
    · split
      · rename_i h
        simp only [List.mem_cons]
        constructor
        · rintro (rfl | hx)
          · exact .inl rfl
          · exact .inr ⟨.inr hx, habove (by omega) x hx⟩
        · rintro (rfl | ⟨rfl | hx, hn⟩)
          · exact .inl rfl
          · exact absurd h hn
          · exact .inr hx
      · rename_i h
        simp only [List.mem_cons]
        constructor
        · rintro (rfl | rfl | hx)
          · exact .inl rfl
          · exact .inr ⟨.inl rfl, h⟩
          · exact .inr ⟨.inr hx, habove (by omega) x hx⟩
        · rintro (rfl | ⟨hx, -⟩)
          · exact .inl rfl
          · exact .inr hx

theorem risingTitles_putTitle (t : TitleRec) {ts : List TitleRec} (hs : risingTitles ts) : risingTitles (putTitle t ts) := by
  induction ts with
  | nil => simp [risingTitles, putTitle, strictlyRising]
  | cons u rest ih =>
    have hmem := fun h : risingTitles rest => mem_putTitle (t := t) h
    rw [risingTitles_iff] at hs ih hmem ⊢
    obtain ⟨hu, hrest⟩ := List.pairwise_cons.1 hs
    rw [putTitle]
    split
    · rename_i h
      refine List.pairwise_cons.2 ⟨fun x hx => ?_, (risingTitles_iff _).1 (ih hrest)⟩
      rcases (hmem hrest x).1 hx with rfl | ⟨hx, -⟩
      · exact h
      · exact hu x hx
    · split
      · rename_i h
        exact List.pairwise_cons.2 ⟨fun x hx => h ▸ hu x hx, hrest⟩
      · refine List.pairwise_cons.2 ⟨fun x hx => ?_, hs⟩
        rcases List.mem_cons.1 hx with rfl | hx
        · omega
        · have := hu x hx
          omega

theorem risingTitles_dropTitle (n : Nat) {ts : List TitleRec} (hs : risingTitles ts) : risingTitles (dropTitle n ts) := by
  rw [risingTitles_iff] at hs ⊢
  exact hs.sublist List.filter_sublist

/-! ### The invariant across updates -/

theorem titlesInOrder_iff (s : State) : s.titlesInOrder ↔
    risingTitles s.titleTables.1 ∧ ∀ g, s.titleTables.2 = some g → risingTitles g.titles := Iff.rfl

theorem State.titlesInOrder.congr {s t : State} (hs : s.titlesInOrder) (h : t.titleTables = s.titleTables) : t.titlesInOrder := by
  rw [titlesInOrder_iff] at hs ⊢
  rwa [h]

section InOrder

variable {s : State}

/-- A new pair of tables, both in order. -/
theorem titlesInOrder_of_tables {t : State} {ts : List TitleRec} {o : Option Staged} (h : t.titleTables = (ts, o))
    (hts : risingTitles ts) (ho : ∀ g, o = some g → risingTitles g.titles) : t.titlesInOrder := by
  rw [titlesInOrder_iff, h]
  exact ⟨hts, ho⟩

theorem titlesInOrder_live (hs : s.titlesInOrder) : risingTitles s.catalog.titles := hs.1

theorem titlesInOrder_staged {g : Staged} (hs : s.titlesInOrder) (hg : s.catalog.staged = some g) : risingTitles g.titles := hs.2 g hg

/-- A staged generation put in the place of another (R109, R111, R112). -/
theorem titlesInOrder_stage {t : State} {g : Staged} (hs : s.titlesInOrder) (h : t.titleTables = (s.catalog.titles, some g))
    (hg : risingTitles g.titles) : t.titlesInOrder :=
  titlesInOrder_of_tables h (titlesInOrder_live hs) fun g' h' => by cases h'; exact hg

/-! ### The stage requests (R109 to R112) -/

theorem titlesInOrder_stageOpenOwner (tag mode : Nat) (hs : s.titlesInOrder) : (stageOpenOwner tag mode s).titlesInOrder := by
  unfold stageOpenOwner
  dsimp only
  repeat' split
  · exact hs
  · exact hs
  · exact titlesInOrder_stage hs rfl rfl
  · exact titlesInOrder_stage hs rfl (titlesInOrder_live hs)

theorem titlesInOrder_stageDiscardOwner (tag : Nat) (hs : s.titlesInOrder) : (stageDiscardOwner tag s).titlesInOrder := by
  unfold stageDiscardOwner
  repeat' split
  · exact hs
  · exact hs
  · exact titlesInOrder_of_tables (ts := s.catalog.titles) (o := none) (by simp [discardStage]) (titlesInOrder_live hs)
      fun _ h => by cases h

theorem titlesInOrder_titlePutOwner (tag title badge : Nat) (tint : Rgb) (stillKey clipKey : Nat) (name : List Byte)
    (hs : s.titlesInOrder) : (titlePutOwner tag title badge tint stillKey clipKey name s).titlesInOrder := by
  unfold titlePutOwner
  dsimp only
  repeat' split
  case h_2.isFalse.isFalse g hg _ _ => exact titlesInOrder_stage hs rfl (risingTitles_putTitle _ (titlesInOrder_staged hs hg))
  all_goals exact hs

theorem titlesInOrder_titleDropOwner (tag title : Nat) (hs : s.titlesInOrder) : (titleDropOwner tag title s).titlesInOrder := by
  unfold titleDropOwner
  repeat' split
  case h_2.isFalse.isTrue g hg _ _ => exact titlesInOrder_stage hs rfl (risingTitles_dropTitle _ (titlesInOrder_staged hs hg))
  all_goals exact hs

theorem titlesInOrder_setGlyphsOwner (tag key : Nat) (hs : s.titlesInOrder) : (setGlyphsOwner tag key s).titlesInOrder := by
  unfold setGlyphsOwner
  repeat' split
  · exact hs
  · exact hs
  · rename_i g hg _
    exact titlesInOrder_stage (g := { g with glyphKey := key }) hs rfl (titlesInOrder_staged (g := g) hs hg)

/-! ### The switch (R124) and the ends of page programs (R139) -/

theorem titlesInOrder_publishSwitch (hs : s.titlesInOrder) : (publishSwitch s).titlesInOrder := by
  unfold publishSwitch
  split
  · rename_i g _ hg
    exact titlesInOrder_of_tables (ts := g.titles) (o := none) (by simp) (titlesInOrder_staged hs hg) fun _ h => by cases h
  · exact hs

theorem titlesInOrder_rootProgramEnd (ok : Bool) (p : PortOp) (hs : s.titlesInOrder) : (rootProgramEnd ok p s).titlesInOrder := by
  unfold rootProgramEnd rootVerified
  dsimp only
  repeat' split
  · exact hs
  · exact hs
  · exact titlesInOrder_publishSwitch hs
  all_goals exact hs.congr (by simp)

/-! ### Mounts (R126, R127, R136, R137) -/

theorem titlesInOrder_emptyCatalog (s : State) : (emptyCatalog s).titlesInOrder :=
  titlesInOrder_of_tables rfl rfl fun _ h => by cases h

theorem titlesInOrder_mountIfWaiting (hs : s.titlesInOrder) : (mountIfWaiting s).titlesInOrder := by
  unfold mountIfWaiting
  split
  · exact titlesInOrder_emptyCatalog s
  · exact hs

/-- The end of an event that may free the port: a waiting mount begins, and the eraser acts (R137, R143). -/
theorem titlesInOrder_portFreed (hs : s.titlesInOrder) : (eraserStep (mountIfWaiting s)).titlesInOrder :=
  titlesInOrder_mountIfWaiting hs

theorem titlesInOrder_noGeneration (k : CatalogState) (hs : s.titlesInOrder) :
    (s.setCatalog (s.catalog.noGeneration k)).titlesInOrder := titlesInOrder_of_tables rfl rfl hs.2

theorem titlesInOrder_imageLost (record : RootRecord) (hs : s.titlesInOrder) : (imageLost record s).titlesInOrder :=
  (titlesInOrder_noGeneration .lost hs).congr (by simp [imageLost])

/-- The generation built from an image has its titles in order, and leaves the stage as it was (R126). -/
theorem buildCatalog_tables {part : ImagePart} {bytes : List Byte} {c d : Catalog} (h : buildCatalog part bytes c = some d) :
    risingTitles d.titles ∧ d.staged = c.staged := by
  unfold buildCatalog at h
  dsimp only at h
  split at h
  · rename_i hok
    cases h
    exact ⟨hok.2.2.2.2.1, rfl⟩
  · cases h

theorem titlesInOrder_imageRead (record : RootRecord) (data : List Byte) (hs : s.titlesInOrder) :
    (imageRead record data s).titlesInOrder := by
  unfold imageRead
  split
  · rename_i c hc
    obtain ⟨hrising, hstaged⟩ := buildCatalog_tables hc
    exact titlesInOrder_of_tables (titleTables_mountService _ _) hrising (hstaged ▸ hs.2)
  · exact titlesInOrder_imageLost record hs

theorem titlesInOrder_catalogImageReadDoneStep (pages : List PageRead) (hs : s.titlesInOrder) :
    (catalogImageReadDoneStep pages s).titlesInOrder := by
  have hend : (portEnd s).titlesInOrder := hs.congr (titleTables_portEnd s)
  unfold catalogImageReadDoneStep
  dsimp only
  repeat' split
  · exact hend.congr rfl
  · exact titlesInOrder_imageRead _ _ hend
  · exact titlesInOrder_imageLost _ hend
  all_goals exact hs

theorem titlesInOrder_mountFails (new : StoreState) (cause : StoreCause) (hs : s.titlesInOrder) :
    (mountFails new cause s).titlesInOrder := by
  refine (titlesInOrder_noGeneration .empty hs).congr ?_
  unfold mountFails
  dsimp only
  split <;> simp

theorem titlesInOrder_handOver (record : Option RootRecord) (hs : s.titlesInOrder) : (handOver record s).titlesInOrder := by
  have hload : (if s.store.startUp then settingsLoad (record.map (·.settings)) s else s).titlesInOrder := by
    split
    · exact hs.congr (titleTables_settingsLoad s _)
    · exact hs
  unfold handOver
  dsimp only
  generalize (if s.store.startUp then settingsLoad (record.map (·.settings)) s else s) = t at hload ⊢
  repeat' split
  · exact (titlesInOrder_noGeneration .empty hload).congr (by simp)
  · exact hload
  · exact titlesInOrder_imageLost _ hload
  · exact titlesInOrder_imageLost _ hload
  · exact (titlesInOrder_noGeneration .empty hload).congr (by simp)

theorem titlesInOrder_rootUnitReadDoneStep (pages : List PageRead) (hs : s.titlesInOrder) :
    (rootUnitReadDoneStep pages s).titlesInOrder := by
  have hend : (portEnd s).titlesInOrder := hs.congr (titleTables_portEnd s)
  have hread : ∀ all : List PageRead, (rootsRead all (portEnd s)).titlesInOrder := fun all => by
    unfold rootsRead
    dsimp only
    split <;> exact titlesInOrder_handOver _ hend
  unfold rootUnitReadDoneStep
  dsimp only
  repeat' split
  · exact hend
  · exact hread _
  all_goals exact hs

theorem titlesInOrder_descriptorReadDoneStep (page : List Byte) (hs : s.titlesInOrder) :
    (descriptorReadDoneStep page s).titlesInOrder := by
  have hend : (portEnd s).titlesInOrder := hs.congr (titleTables_portEnd s)
  unfold descriptorReadDoneStep
  dsimp only
  repeat' split
  · exact hend.congr (titleTables_beginRoots _ _)
  · exact titlesInOrder_mountFails _ _ hend
  all_goals exact hs

theorem titlesInOrder_descriptorReadTimeoutStep (hs : s.titlesInOrder) : (descriptorReadTimeoutStep s).titlesInOrder := by
  unfold descriptorReadTimeoutStep
  repeat' split
  case h_1.isTrue.isFalse => exact titlesInOrder_mountFails _ _ (hs.congr (by simp))
  all_goals exact hs.congr (by simp)

theorem titlesInOrder_storeReadTimeoutStep (hs : s.titlesInOrder) : (storeReadTimeoutStep s).titlesInOrder := by
  unfold storeReadTimeoutStep readFails
  dsimp only
  repeat' split
  · exact hs
  · exact hs.congr (by simp)
  · exact titlesInOrder_mountFails _ _ (titlesInOrder_emptyCatalog _)
  · exact titlesInOrder_mountFails _ _ (hs.congr (by simp))
  · exact hs
  · exact hs

theorem titlesInOrder_remountOwner (tag : Nat) (hs : s.titlesInOrder) : (remountOwner tag s).titlesInOrder := by
  unfold remountOwner
  dsimp only
  repeat' split
  · exact hs
  · exact hs
  · exact titlesInOrder_mountIfWaiting (hs.congr (by simp))

/-! ### Reads, programs and erases that free the port -/

theorem titlesInOrder_laneHeaderReadDoneStep (l : Fin 3) (pages : List PageRead) (hs : s.titlesInOrder) :
    (laneHeaderReadDoneStep l pages s).titlesInOrder := by
  unfold laneHeaderReadDoneStep
  repeat' split
  · exact titlesInOrder_portFreed (hs.congr (by simp))
  · exact titlesInOrder_portFreed (hs.congr (by simp))
  all_goals exact hs

theorem titlesInOrder_laneReadDoneStep (l : Fin 3) (pages : List PageRead) (hs : s.titlesInOrder) :
    (laneReadDoneStep l pages s).titlesInOrder := by
  unfold laneReadDoneStep
  repeat' split
  · exact titlesInOrder_portFreed (hs.congr (by simp))
  · exact titlesInOrder_portFreed (hs.congr (by simp))
  all_goals exact hs

theorem titlesInOrder_stillReadDoneStep (pages : List PageRead) (hs : s.titlesInOrder) : (stillReadDoneStep pages s).titlesInOrder := by
  unfold stillReadDoneStep
  repeat' split
  · exact titlesInOrder_portFreed (hs.congr (by simp))
  all_goals exact hs

theorem titlesInOrder_glyphReadDoneStep (pages : List PageRead) (hs : s.titlesInOrder) : (glyphReadDoneStep pages s).titlesInOrder := by
  unfold glyphReadDoneStep
  repeat' split
  · exact titlesInOrder_portFreed (hs.congr (by simp))
  · exact titlesInOrder_portFreed (hs.congr (by simp))
  all_goals exact hs

theorem titlesInOrder_relocationReadDoneStep (page : PageRead) (hs : s.titlesInOrder) :
    (relocationReadDoneStep page s).titlesInOrder := by
  unfold relocationReadDoneStep
  dsimp only
  repeat' split
  · exact titlesInOrder_portFreed (hs.congr (by simp))
  · exact titlesInOrder_portFreed (hs.congr (by simp))
  all_goals exact hs

theorem titlesInOrder_pageProgramDoneStep (outcome : ProgramOutcome) (hs : s.titlesInOrder) :
    (pageProgramDoneStep outcome s).titlesInOrder := by
  have hend : (portEnd s).titlesInOrder := hs.congr (titleTables_portEnd s)
  unfold pageProgramDoneStep
  dsimp only
  repeat' split
  · exact titlesInOrder_portFreed (hend.congr (by simp))
  · exact titlesInOrder_portFreed (hend.congr (by simp))
  · exact titlesInOrder_portFreed (titlesInOrder_rootProgramEnd _ _ hend)
  · exact titlesInOrder_portFreed hend
  all_goals exact hs

theorem titlesInOrder_eraseUnitReportStep (u : Nat) (passed : Bool) (hs : s.titlesInOrder) :
    (eraseUnitReportStep u passed s).titlesInOrder := by
  unfold eraseUnitReportStep
  dsimp only
  repeat' split
  · exact titlesInOrder_portFreed (hs.congr (by simp))
  · exact titlesInOrder_portFreed (hs.congr (by simp))
  · exact titlesInOrder_portFreed (hs.congr (by simp))
  all_goals exact hs

theorem titlesInOrder_eraseDeadlineStep (hs : s.titlesInOrder) : (eraseDeadlineStep s).titlesInOrder := by
  unfold eraseDeadlineStep
  dsimp only
  repeat' split
  · exact titlesInOrder_portFreed (hs.congr (by simp))
  · exact titlesInOrder_portFreed (hs.congr (by simp [titleTables_foldl fun s u => titleTables_addBad s u]))
  all_goals exact hs

/-! ### Resets (R169, R171) -/

theorem titlesInOrder_startUp (causes : List ResetCause) (s : State) : (startUp causes s).titlesInOrder :=
  titlesInOrder_of_tables rfl rfl fun _ h => by cases h

theorem titlesInOrder_heldInReset (causes : List ResetCause) (s : State) : (heldInReset causes s).titlesInOrder :=
  titlesInOrder_of_tables rfl rfl fun _ h => by cases h

theorem titlesInOrder_linkBreakStep (seen : Bool) (hs : s.titlesInOrder) : (linkBreakStep seen s).titlesInOrder := by
  unfold linkBreakStep
  split
  · exact titlesInOrder_startUp _ s
  · exact hs

theorem titlesInOrder_txFrameSentStep (hs : s.titlesInOrder) : (txFrameSentStep s).titlesInOrder := by
  unfold txFrameSentStep
  dsimp only
  repeat' split
  case h_3 => exact titlesInOrder_startUp _ s
  all_goals exact hs

/-! ### Every command -/

/-- Six requests reach the title tables: those of the stage, and REMOUNT (R109 to R111, R137). -/
theorem titlesInOrder_ownerOf (i : Instr) (hs : s.titlesInOrder) : (ownerOf i s).titlesInOrder := by
  cases i with
  | stageOpen tag mode => exact titlesInOrder_stageOpenOwner tag mode hs
  | stageDiscard tag => exact titlesInOrder_stageDiscardOwner tag hs
  | titlePut tag title badge tint stillKey clipKey name =>
    exact titlesInOrder_titlePutOwner tag title badge tint stillKey clipKey name hs
  | titleDrop tag title => exact titlesInOrder_titleDropOwner tag title hs
  | setGlyphs tag key => exact titlesInOrder_setGlyphsOwner tag key hs
  | remount tag => exact titlesInOrder_remountOwner tag hs
  | _ => exact hs.congr (by simp [ownerOf])

theorem titlesInOrder_requestHandoffStep (hs : s.titlesInOrder) : (requestHandoffStep s).titlesInOrder := by
  unfold requestHandoffStep handFrame
  repeat' split
  · exact hs
  · exact hs
  · exact hs
  · exact titlesInOrder_ownerOf _ hs
  · exact hs
  · exact hs

/-- An event keeps the tables in order when its step does. -/
theorem live_keeps_titles {act : State → State} (hs : s.titlesInOrder) (hact : (act s).titlesInOrder) :
    ∃ t, live act s = .next t ∧ t.titlesInOrder := by
  cases hr : s.power.resetLow with
  | true => exact ⟨s, live_of_held hr, hs⟩
  | false => exact ⟨_, live_of_live hr, hact.congr (titleTables_seenSince _ _)⟩

/-- A request keeps them in order when its owner does. -/
theorem request_keeps_titles {kind tag : Nat} {owner : State → State} (hs : s.titlesInOrder)
    (howner : ∀ t, t.titlesInOrder → (owner t).titlesInOrder) : ∃ t, request kind tag owner s = .next t ∧ t.titlesInOrder := by
  refine live_keeps_titles hs ?_
  unfold handOn
  repeat' split
  · exact hs
  · exact howner _ hs
  · exact hs

/-- Every command completes and keeps the title tables in order. -/
theorem exec_keeps_titles (c : Instr) (hs : s.titlesInOrder) : ∃ t, exec c s = .next t ∧ t.titlesInOrder := by
  cases c with
  | powerOnReset =>
    refine ⟨_, rfl, ?_⟩
    unfold powerOnResetStep
    split
    · exact titlesInOrder_heldInReset _ s
    · exact titlesInOrder_startUp _ s
  | supplyDip =>
    refine ⟨_, rfl, ?_⟩
    unfold supplyDipStep
    split
    · exact titlesInOrder_heldInReset _ s
    · exact titlesInOrder_startUp _ s
  | resetLineLow =>
    refine ⟨_, rfl, ?_⟩
    unfold resetLineLowStep
    split
    · exact hs
    · exact titlesInOrder_heldInReset _ s
  | resetLineRelease =>
    refine ⟨_, rfl, ?_⟩
    unfold resetLineReleaseStep
    split
    · exact titlesInOrder_startUp _ s
    · exact hs
  | linkBreak seen => exact live_keeps_titles hs (titlesInOrder_linkBreakStep seen hs)
  | requestHandoff => exact live_keeps_titles hs (titlesInOrder_requestHandoffStep hs)
  | txFrameSent => exact live_keeps_titles hs (titlesInOrder_txFrameSentStep hs)
  | stageOpen tag mode => exact request_keeps_titles hs fun _ => titlesInOrder_stageOpenOwner tag mode
  | stageDiscard tag => exact request_keeps_titles hs fun _ => titlesInOrder_stageDiscardOwner tag
  | titlePut tag title badge tint stillKey clipKey name =>
    exact request_keeps_titles hs fun _ => titlesInOrder_titlePutOwner tag title badge tint stillKey clipKey name
  | titleDrop tag title => exact request_keeps_titles hs fun _ => titlesInOrder_titleDropOwner tag title
  | setGlyphs tag key => exact request_keeps_titles hs fun _ => titlesInOrder_setGlyphsOwner tag key
  | remount tag => exact request_keeps_titles hs fun _ => titlesInOrder_remountOwner tag
  | laneHeaderReadDone l pages => exact live_keeps_titles hs (titlesInOrder_laneHeaderReadDoneStep l pages hs)
  | laneReadDone l pages => exact live_keeps_titles hs (titlesInOrder_laneReadDoneStep l pages hs)
  | stillReadDone pages => exact live_keeps_titles hs (titlesInOrder_stillReadDoneStep pages hs)
  | glyphReadDone pages => exact live_keeps_titles hs (titlesInOrder_glyphReadDoneStep pages hs)
  | relocationReadDone page => exact live_keeps_titles hs (titlesInOrder_relocationReadDoneStep page hs)
  | pageProgramDone outcome => exact live_keeps_titles hs (titlesInOrder_pageProgramDoneStep outcome hs)
  | eraseUnitReport u passed => exact live_keeps_titles hs (titlesInOrder_eraseUnitReportStep u passed hs)
  | eraseDeadline => exact live_keeps_titles hs (titlesInOrder_eraseDeadlineStep hs)
  | storeReadTimeout => exact live_keeps_titles hs (titlesInOrder_storeReadTimeoutStep hs)
  | descriptorReadDone page => exact live_keeps_titles hs (titlesInOrder_descriptorReadDoneStep page hs)
  | descriptorReadTimeout => exact live_keeps_titles hs (titlesInOrder_descriptorReadTimeoutStep hs)
  | rootUnitReadDone pages => exact live_keeps_titles hs (titlesInOrder_rootUnitReadDoneStep pages hs)
  | catalogImageReadDone pages => exact live_keeps_titles hs (titlesInOrder_catalogImageReadDoneStep pages hs)
  | rxCharacter | frameTimeout | wakeEdge | panelSignalOn | powerUpEnd | panelSignalOff | powerDownEnd | vblank | passComplete
  | laneReadIssue | clipDecodeStart | clipDecodeDone | stallTimerExpiry | fetchTake | stillDecodeStart | stillDecodeDone
  | cacheClear | rootWriteStart | portGrant | sampleTimer | sensorReadDone | sensorReadTimeout | memoryTestDone
  | storeTestReadDone | panelTestDone | sensorTestStart | timebaseTestEnd =>
    exact live_keeps_titles hs (hs.congr (by simp))
  | echo | status | setLinkRate | reset | setPower | causes | selfTest | settingGet | settingPut | settingsSave | storeInfo
  | titleGet | assetBegin | assetData | assetAbort | assetInfo | publish | cacheInfo | cacheFlush | planBackdrop | planWall
  | planTitles | planItem | planItemClear | planWindow | planRevert | present | scroll | focus | lanePlay | laneStop
  | laneStatus | screenStatus | lightMode | lightStatus =>
    exact request_keeps_titles hs fun t ht => ht.congr (by simp)

end InOrder

/-- Settles O10: each command keeps the tables in order, and an idle step changes nothing. -/
theorem everyStepKeepsTitlesInOrder : Obligations.EveryStepKeepsTitlesInOrder := by
  intro s s' hs hstep
  unfold step at hstep
  split at hstep
  · cases hstep
    exact hs
  · rename_i c rest hpending
    obtain ⟨t, ht, hkept⟩ := exec_keeps_titles (s := { s with pending := rest }) c hs
    cases ht.symm.trans hstep
    exact hkept

end Sys2Proof.Machine
end

section
/-!
Stages, titles and the glyph key (R109 to R112): one equation for each way a request can end, then the statements of O33 to O35.
-/

namespace Sys2Proof.Machine

open Sys2Proof

/-! ### STAGE_OPEN and STAGE_DISCARD (R109, R110) -/

/-- A record without its staged membership (R110). -/
def Asset.unstaged (a : Asset) : Asset := { a with inStaged := false }

theorem Asset.unstaged_kept (a : Asset) : a.unstaged.kept = (a.inLive || decide (0 < a.readers)) := by
  show (a.inLive || false || decide (0 < a.readers)) = _
  rw [Bool.or_false]

theorem map_unstaged_uid (pool : List Asset) : (pool.map Asset.unstaged).map (·.uid) = pool.map (·.uid) := by
  rw [List.map_map]
  rfl

@[simp] theorem Catalog.closeFailed_pool (c : Catalog) : c.closeFailed.pool = c.pool := by unfold Catalog.closeFailed; split <;> rfl
@[simp] theorem Catalog.closeFailed_number (c : Catalog) : c.closeFailed.number = c.number := by unfold Catalog.closeFailed; split <;> rfl
@[simp] theorem Catalog.closeFailed_glyphKey (c : Catalog) : c.closeFailed.glyphKey = c.glyphKey := by
  unfold Catalog.closeFailed; split <;> rfl
@[simp] theorem Catalog.closeFailed_glyphs (c : Catalog) : c.closeFailed.glyphs = c.glyphs := by unfold Catalog.closeFailed; split <;> rfl

/-- What closing a FAILED intake leaves of an intake that is NONE or FAILED (R110, R114, R122). -/
theorem Catalog.closeFailed_intake {c : Catalog} (h : c.intake.state = .none ∨ c.intake.state = .failed) :
    c.closeFailed.intake.state = .none := by
  unfold Catalog.closeFailed
  rcases h with h | h
  · rw [if_neg (by rw [h]; decide)]
    exact h
  · rw [if_pos h]

/-- A dropped stage: a FAILED intake is closed, no record is staged, and those in no generation and without readers are gone (R110). -/
theorem discardStage_eq {s : State} (hn : (s.catalog.pool.map (·.uid)).Nodup) : ∃ retiring units port, discardStage s = { s with
    catalog := { s.catalog.closeFailed with
      staged := none, retiring := retiring, pool := (s.catalog.pool.map Asset.unstaged).filter Asset.kept }
    store := { s.store with units := units, port := port } } := by
  let bare := s.setCatalog { s.catalog.closeFailed with staged := none, pool := s.catalog.pool.map Asset.unstaged }
  have huids : bare.catalog.pool.map (·.uid) = s.catalog.pool.map (·.uid) := map_unstaged_uid _
  have hdef : discardStage s = settleRecords (bare.catalog.pool.map (·.uid)) bare := by
    rw [huids, discardStage, Catalog.closeFailed_pool]
    rfl
  obtain ⟨pool, retiring, units, port, hs⟩ := settling_settleRecords (bare.catalog.pool.map (·.uid)) bare
  have hpool := settleAll_pool bare (huids ▸ hn)
  rw [hs] at hpool
  refine ⟨retiring, units, port, hdef.trans (hs.trans ?_)⟩
  rw [show pool = _ from hpool]
  rfl

section Stages

variable {s : State} {tag : Nat} (h : s.takes tag)
include h

theorem exec_stageOpen_badMode {mode : Nat} (hm : 2 ≤ mode) :
    exec (.stageOpen tag mode) s = .next (answered 0x18 tag .badParam [] s) :=
  request_answered h rfl (by simp [stageOpenOwner, hm])

theorem exec_stageOpen_busy {mode : Nat} (hm : mode < 2) (hb : s.catalog.staged.isSome = true ∨ s.catalog.publish.isSome = true) :
    exec (.stageOpen tag mode) s = .next (answered 0x18 tag .busy [] s) :=
  request_answered h rfl (by simp [stageOpenOwner, Nat.not_le.2 hm, Catalog.publishing, hb])

theorem exec_stageOpen_empty (hst : s.catalog.staged = none) (hp : s.catalog.publish = none) :
    exec (.stageOpen tag 0) s = .next (answered 0x18 tag .ok []
      (s.setCatalog { s.catalog with staged := some { glyphKey := 0, titles := [] } })) :=
  request_answered h rfl (by simp [stageOpenOwner, Catalog.publishing, hst, hp]; rfl)

theorem exec_stageOpen_copy (hst : s.catalog.staged = none) (hp : s.catalog.publish = none) :
    exec (.stageOpen tag 1) s = .next (answered 0x18 tag .ok []
      (s.setCatalog { s.catalog with
        staged := some { glyphKey := s.catalog.glyphKey, titles := s.catalog.titles }
        pool := s.catalog.pool.map fun a => if a.inLive then { a with inStaged := true } else a })) :=
  request_answered h rfl (by simp [stageOpenOwner, Catalog.publishing, hst, hp]; rfl)

theorem exec_stageDiscard_notNow (hst : s.catalog.staged = none) :
    exec (.stageDiscard tag) s = .next (answered 0x19 tag .notNow [] s) :=
  request_answered h rfl (by simp [stageDiscardOwner, hst])

theorem exec_stageDiscard_busy {g : Staged} (hg : s.catalog.staged = some g)
    (hb : s.catalog.publish.isSome = true ∨ s.catalog.intake.state = .open ∨ s.catalog.intake.state = .finishing) :
    exec (.stageDiscard tag) s = .next (answered 0x19 tag .busy [] s) :=
  request_answered h rfl (by simp [stageDiscardOwner, Catalog.publishing, Catalog.intakeBusy, hg, hb])

theorem exec_stageDiscard {g : Staged} (hg : s.catalog.staged = some g) (hp : s.catalog.publish = none)
    (hi : s.catalog.intake.state = .none ∨ s.catalog.intake.state = .failed) : exec (.stageDiscard tag) s =
      .next ((eraserStep (reply 0x19 tag .ok [] (discardStage (holdPlace s)))).seenSince s) := by
  have howner : stageDiscardOwner tag (holdPlace s) = eraserStep (reply 0x19 tag .ok [] (discardStage (holdPlace s))) := by
    rcases hi with hi | hi <;> simp [stageDiscardOwner, Catalog.publishing, Catalog.intakeBusy, hg, hp, hi]
  rw [← howner]
  exact request_of_takes h

end Stages

/-- Settles O33: each request ends in one of the ways above, and a dropped stage leaves the records that are kept. -/
theorem stagesOpenAndAreDiscarded : Obligations.StagesOpenAndAreDiscarded := by
  intro s tag h
  refine ⟨fun mode => exec_stageOpen_badMode h, fun mode => exec_stageOpen_busy h,
    fun hst hp => ⟨exec_stageOpen_empty h hst hp, exec_stageOpen_copy h hst hp⟩, exec_stageDiscard_notNow h, fun g hg =>
    ⟨exec_stageDiscard_busy h hg, fun hp hi hn => ⟨_, exec_stageDiscard h hg hp hi, ?_⟩⟩⟩
  obtain ⟨retiring, units, port, hd⟩ := discardStage_eq (s := holdPlace s) hn
  rw [hd]
  simp only [State.seenSince_link, State.seenSince_catalog, State.seenSince_plans, State.seenSince_cache, State.seenSince_lanes,
    State.seenSince_screens, eraserStep_link, eraserStep_catalog, eraserStep_plans, eraserStep_cache, eraserStep_lanes,
    eraserStep_screens, reply_catalog, reply_plans, reply_cache, reply_lanes, reply_screens, holdPlace_catalog, holdPlace_plans,
    holdPlace_cache, holdPlace_lanes, holdPlace_screens, Catalog.closeFailed_titles, Catalog.closeFailed_glyphKey,
    Catalog.closeFailed_number, List.mem_filter, List.mem_map]
  refine ⟨rfl, trivial, ?_, fun a ha hlive => ⟨⟨a, ha, rfl⟩, ?_⟩, fun a ha hlive hread b hb hub => ?_, trivial, trivial, trivial,
    fun hf => Catalog.closeFailed_intake (.inr hf), trivial, trivial, trivial, trivial⟩
  · rintro _ ⟨⟨a, -, rfl⟩, -⟩
    rfl
  · exact (Asset.unstaged_kept a).trans (by rw [hlive, Bool.true_or])
  · obtain ⟨⟨c, hc, rfl⟩, hkept⟩ := hb
    have hca : c = a := List.inj_on_of_nodup_map hn hc ha hub
    rw [hca, Asset.unstaged_kept, hlive, hread] at hkept
    exact absurd hkept (by decide)

/-! ### TITLE_PUT and TITLE_DROP (R111) -/

theorem any_number_iff (ts : List TitleRec) (n : Nat) : ts.any (·.number == n) = true ↔ ∃ x ∈ ts, x.number = n := by
  simp [List.any_eq_true]

theorem any_number_eq_false {ts : List TitleRec} {n : Nat} (h : ∀ x ∈ ts, x.number ≠ n) : ts.any (·.number == n) = false := by
  simpa [List.any_eq_false] using h

theorem mem_dropTitle (n : Nat) (ts : List TitleRec) (x : TitleRec) : x ∈ dropTitle n ts ↔ x ∈ ts ∧ x.number ≠ n := by
  simp [dropTitle]

section Titles

variable {s : State} {tag n : Nat} {g : Staged} (h : s.takes tag)
include h

theorem exec_titleDrop_badParam (hn : n = 0) : exec (.titleDrop tag n) s = .next (answered 0x1B tag .badParam [] s) :=
  request_answered h rfl (by simp [titleDropOwner, hn])

theorem exec_titleDrop_notNow (hn : n ≠ 0) (hst : s.catalog.staged = none) :
    exec (.titleDrop tag n) s = .next (answered 0x1B tag .notNow [] s) :=
  request_answered h rfl (by simp [titleDropOwner, hn, hst])

theorem exec_titleDrop_busy (hn : n ≠ 0) (hst : s.catalog.staged.isSome = true) (hp : s.catalog.publish.isSome = true) :
    exec (.titleDrop tag n) s = .next (answered 0x1B tag .busy [] s) := by
  obtain ⟨g, hg⟩ := Option.isSome_iff_exists.1 hst
  exact request_answered h rfl (by simp [titleDropOwner, hn, hg, Catalog.publishing, hp])

theorem exec_titleDrop_noSuch (hn : n ≠ 0) (hg : s.catalog.staged = some g) (hp : s.catalog.publish = none)
    (hno : ∀ x ∈ g.titles, x.number ≠ n) : exec (.titleDrop tag n) s = .next (answered 0x1B tag .noSuch [] s) :=
  request_answered h rfl (by simp [titleDropOwner, hn, hg, Catalog.publishing, hp, any_number_eq_false hno])

theorem exec_titleDrop (hn : n ≠ 0) (hg : s.catalog.staged = some g) (hp : s.catalog.publish = none)
    (hin : ∃ x ∈ g.titles, x.number = n) : exec (.titleDrop tag n) s = .next (answered 0x1B tag .ok []
      (s.setCatalog { s.catalog with staged := some { g with titles := dropTitle n g.titles } })) :=
  request_answered h rfl (by
    rw [titleDropOwner, if_neg hn, holdPlace_catalog, hg]
    simp only [Catalog.publishing, hp, (any_number_iff _ _).2 hin]
    rfl)

variable {badge still clip : Nat} {tint : Rgb} {name : List Byte}

theorem exec_titlePut_badParam (hbad : n = 0 ∨ 15 < badge ∨ 48 < name.length) :
    exec (.titlePut tag n badge tint still clip name) s = .next (answered 0x1A tag .badParam [] s) :=
  request_answered h rfl (by rw [titlePutOwner, if_pos hbad])

variable (hfits : ¬ (n = 0 ∨ 15 < badge ∨ 48 < name.length))
include hfits

theorem exec_titlePut_notNow (hst : s.catalog.staged = none) :
    exec (.titlePut tag n badge tint still clip name) s = .next (answered 0x1A tag .notNow [] s) :=
  request_answered h rfl (by rw [titlePutOwner, if_neg hfits, holdPlace_catalog, hst])

theorem exec_titlePut_busy (hst : s.catalog.staged.isSome = true) (hp : s.catalog.publish.isSome = true) :
    exec (.titlePut tag n badge tint still clip name) s = .next (answered 0x1A tag .busy [] s) := by
  obtain ⟨g, hg⟩ := Option.isSome_iff_exists.1 hst
  exact request_answered h rfl (by
    rw [titlePutOwner, if_neg hfits, holdPlace_catalog, hg]
    simp only [Catalog.publishing, hp, if_true])

theorem exec_titlePut_noSpace (hg : s.catalog.staged = some g) (hp : s.catalog.publish = none)
    (hno : ∀ x ∈ g.titles, x.number ≠ n) (hfull : 2048 ≤ g.titles.length) :
    exec (.titlePut tag n badge tint still clip name) s = .next (answered 0x1A tag .noSpace [] s) :=
  request_answered h rfl (by
    rw [titlePutOwner, if_neg hfits, holdPlace_catalog, hg]
    simp [Catalog.publishing, hp, any_number_eq_false hno, hfull])

theorem exec_titlePut (hg : s.catalog.staged = some g) (hp : s.catalog.publish = none)
    (hroom : (∃ x ∈ g.titles, x.number = n) ∨ g.titles.length < 2048) :
    exec (.titlePut tag n badge tint still clip name) s = .next (answered 0x1A tag .ok []
      (s.setCatalog { s.catalog with staged := some { g with titles := putTitle ⟨n, badge, tint, still, clip, name⟩ g.titles } })) :=
  request_answered h rfl (by
    have hfree : ((!g.titles.any (·.number == n)) && decide (2048 ≤ g.titles.length)) = false := by
      rcases hroom with hin | hlt
      · rw [(any_number_iff _ _).2 hin]
        rfl
      · rw [decide_eq_false (by omega), Bool.and_false]
    rw [titlePutOwner, if_neg hfits, holdPlace_catalog, hg]
    simp only [Catalog.publishing, hp, hfree]
    rfl)

end Titles

/-- Settles O34: the chain of R111's refusals, and what a put and a drop leave of a table in order. -/
theorem titlesArePutAndDropped : Obligations.TitlesArePutAndDropped := by
  intro s tag n badge tint still clip name h
  refine ⟨exec_titlePut_badParam h, exec_titleDrop_badParam h, exec_titleDrop_notNow h, exec_titleDrop_busy h,
    fun g hn hg hp => ⟨exec_titleDrop_noSuch h hn hg hp, fun hin =>
      ⟨_, exec_titleDrop h hn hg hp hin, risingTitles_dropTitle n, mem_dropTitle n g.titles⟩⟩, fun hn hb hl => ?_⟩
  have hfits : ¬ (n = 0 ∨ 15 < badge ∨ 48 < name.length) := by omega
  exact ⟨exec_titlePut_notNow h hfits, exec_titlePut_busy h hfits, fun g hg hp =>
    ⟨exec_titlePut_noSpace h hfits hg hp, fun hroom => ⟨_, exec_titlePut h hfits hg hp hroom, fun hs =>
      ⟨risingTitles_putTitle _ hs, mem_putTitle hs⟩⟩⟩⟩

/-! ### TITLE_GET and SET_GLYPHS (R112) -/

/-- In a table in order a number names one record. -/
theorem titles_unique {ts : List TitleRec} (hs : risingTitles ts) {x y : TitleRec} (hx : x ∈ ts) (hy : y ∈ ts)
    (hn : x.number = y.number) : x = y := by
  rw [risingTitles_iff] at hs
  have hnodup : (ts.map (·.number)).Nodup := List.pairwise_map.2 (hs.imp fun h => Nat.ne_of_lt h)
  exact List.inj_on_of_nodup_map hnodup hx hy hn

theorem findTitle_exact {ts : List TitleRec} (hs : risingTitles ts) {n : Nat} {x : TitleRec} (hx : x ∈ ts) (hn : x.number = n) :
    findTitle 0 n ts = some x := by
  rw [findTitle, if_pos rfl]
  cases hf : ts.find? (·.number == n) with
  | none =>
    have hno := List.find?_eq_none.1 hf x hx
    simp [hn] at hno
  | some y =>
    have hy : y.number = n := by simpa using List.find?_some hf
    rw [titles_unique hs (List.mem_of_find?_eq_some hf) hx (hy.trans hn.symm)]

theorem findTitle_exact_none {ts : List TitleRec} {n : Nat} (hno : ∀ x ∈ ts, x.number ≠ n) : findTitle 0 n ts = none := by
  rw [findTitle, if_pos rfl]
  simpa [List.find?_eq_none] using hno

theorem findTitle_next {ts : List TitleRec} (hs : risingTitles ts) {n : Nat} {x : TitleRec} (hx : x ∈ ts) (hn : n < x.number)
    (hmin : ∀ y ∈ ts, n < y.number → x.number ≤ y.number) : findTitle 1 n ts = some x := by
  rw [findTitle, if_neg (by decide)]
  cases hf : ts.find? (n < ·.number) with
  | none =>
    have hno := List.find?_eq_none.1 hf x hx
    simp [hn] at hno
  | some y =>
    obtain ⟨hy, before, after, hsplit, hbefore⟩ := List.find?_eq_some_iff_append.1 hf
    have hlt : n < y.number := by simpa using hy
    have hyx : y.number ≤ x.number := by
      have hrise := (risingTitles_iff _).1 hs
      rw [hsplit] at hx hrise
      rcases List.mem_append.1 hx with hx | hx
      · have hno := hbefore x hx
        simp [hn] at hno
      · rcases List.mem_cons.1 hx with rfl | hx
        · exact le_rfl
        · exact ((List.pairwise_cons.1 (List.pairwise_append.1 hrise).2.1).1 x hx).le
    have hmem := List.mem_of_find?_eq_some hf
    rw [titles_unique hs hmem hx (Nat.le_antisymm hyx (hmin y hmem hlt))]

theorem findTitle_next_none {ts : List TitleRec} {n : Nat} (hno : ∀ x ∈ ts, x.number ≤ n) : findTitle 1 n ts = none := by
  rw [findTitle, if_neg (by decide)]
  simpa [List.find?_eq_none] using hno

/-- The generation number and the title table that a TITLE_GET of a generation reads: 0 the live one, 1 the stage (R112). -/
def State.titlesOf (s : State) (generation : Nat) : Option (Nat × List TitleRec) :=
  if generation = 0 then some (s.catalog.number, s.catalog.titles) else s.catalog.staged.map fun g => (0, g.titles)

theorem State.titlesOf_live (s : State) : s.titlesOf 0 = some (s.catalog.number, s.catalog.titles) := rfl

theorem State.titlesOf_staged {s : State} {g : Staged} (hg : s.catalog.staged = some g) : s.titlesOf 1 = some (0, g.titles) := by
  simp [State.titlesOf, hg]

theorem titleGetOwner_of_table {s : State} {generation mode number n : Nat} {ts : List TitleRec} (tag : Nat) (hgen : generation < 2)
    (hm : mode < 2) (ht : s.titlesOf generation = some (number, ts)) :
    titleGetOwner tag generation mode n (holdPlace s) = titleGetReply tag number (findTitle mode n ts) (holdPlace s) := by
  rw [titleGetOwner, if_neg (by omega)]
  by_cases hg : generation = 0
  · rw [State.titlesOf, if_pos hg] at ht
    cases ht
    rw [if_pos hg]
    rfl
  · rw [State.titlesOf, if_neg hg] at ht
    obtain ⟨g, hst, ht⟩ := Option.map_eq_some_iff.1 ht
    cases ht
    rw [if_neg hg, holdPlace_catalog, hst]

section Reports

variable {s : State} {tag n : Nat} {g : Staged} (h : s.takes tag)
include h

theorem exec_titleGet_badParam {generation mode : Nat} (hbad : 2 ≤ generation ∨ 2 ≤ mode) :
    exec (.titleGet tag generation mode n) s = .next (answered 0x1C tag .badParam [] s) :=
  request_answered h rfl (by rw [titleGetOwner, if_pos hbad])

theorem exec_titleGet_notNow {mode : Nat} (hm : mode < 2) (hst : s.catalog.staged = none) :
    exec (.titleGet tag 1 mode n) s = .next (answered 0x1C tag .notNow [] s) :=
  request_answered h rfl (by
    rw [titleGetOwner, if_neg (by omega), if_neg (by decide), holdPlace_catalog, hst])

theorem exec_titleGet_found {generation mode number : Nat} {ts : List TitleRec} {x : TitleRec} (hgen : generation < 2)
    (hm : mode < 2) (ht : s.titlesOf generation = some (number, ts)) (hx : findTitle mode n ts = some x) :
    exec (.titleGet tag generation mode n) s = .next (answered 0x1C tag .ok (beBytes 4 number ++ x.bytes) s) :=
  request_answered h rfl (by rw [titleGetOwner_of_table tag hgen hm ht, hx, titleGetReply])

theorem exec_titleGet_noSuch {generation mode number : Nat} {ts : List TitleRec} (hgen : generation < 2)
    (hm : mode < 2) (ht : s.titlesOf generation = some (number, ts)) (hx : findTitle mode n ts = none) :
    exec (.titleGet tag generation mode n) s = .next (answered 0x1C tag .noSuch [] s) :=
  request_answered h rfl (by rw [titleGetOwner_of_table tag hgen hm ht, hx, titleGetReply])

theorem exec_setGlyphs_notNow (key : Nat) (hst : s.catalog.staged = none) :
    exec (.setGlyphs tag key) s = .next (answered 0x22 tag .notNow [] s) :=
  request_answered h rfl (by rw [setGlyphsOwner, holdPlace_catalog, hst])

theorem exec_setGlyphs_busy (key : Nat) (hg : s.catalog.staged = some g) (hp : s.catalog.publish.isSome = true) :
    exec (.setGlyphs tag key) s = .next (answered 0x22 tag .busy [] s) :=
  request_answered h rfl (by simp [setGlyphsOwner, hg, Catalog.publishing, hp])

theorem exec_setGlyphs (key : Nat) (hg : s.catalog.staged = some g) (hp : s.catalog.publish = none) :
    exec (.setGlyphs tag key) s = .next (answered 0x22 tag .ok []
      (s.setCatalog { s.catalog with staged := some { g with glyphKey := key } })) :=
  request_answered h rfl (by
    rw [setGlyphsOwner, holdPlace_catalog, hg]
    simp only [Catalog.publishing, hp]
    rfl)

end Reports

/-- Settles O35: what the table read gives in each mode, and SET_GLYPHS in its three ways. -/
theorem titleGetAndSetGlyphs : Obligations.TitleGetAndSetGlyphs := by
  intro s tag n h report exactly nextOf
  have hexact : ∀ {generation number : Nat} {ts : List TitleRec}, generation < 2 →
      s.titlesOf generation = some (number, ts) → risingTitles ts → exactly ts number (exec (.titleGet tag generation 0 n) s) := fun hgen ht hs =>
    ⟨fun x hx hn => exec_titleGet_found h hgen (by decide) ht (findTitle_exact hs hx hn),
      fun hno => exec_titleGet_noSuch h hgen (by decide) ht (findTitle_exact_none hno)⟩
  have hnext : ∀ {generation number : Nat} {ts : List TitleRec}, generation < 2 →
      s.titlesOf generation = some (number, ts) → risingTitles ts → nextOf ts number (exec (.titleGet tag generation 1 n) s) := fun hgen ht hs =>
    ⟨fun x hx hn hmin => exec_titleGet_found h hgen (by decide) ht (findTitle_next hs hx hn hmin),
      fun hno => exec_titleGet_noSuch h hgen (by decide) ht (findTitle_next_none hno)⟩
  refine ⟨fun generation mode => exec_titleGet_badParam h, fun hs => ?_, fun hst =>
    ⟨fun mode hm => exec_titleGet_notNow h hm hst, fun key => exec_setGlyphs_notNow h key hst⟩, fun g hg =>
    ⟨fun hs => ?_, fun key => ⟨exec_setGlyphs_busy h key hg, exec_setGlyphs h key hg⟩⟩⟩
  · exact ⟨hexact (by decide) s.titlesOf_live hs, hnext (by decide) s.titlesOf_live hs⟩
  · exact ⟨hexact (by decide) (State.titlesOf_staged hg) hs, hnext (by decide) (State.titlesOf_staged hg) hs⟩

end Sys2Proof.Machine
end

section
/-!
ASSET_BEGIN (R114): the order of its refusals, and the record and the intake of an accepted one, for the statement of O36.
-/

namespace Sys2Proof.Machine

open Sys2Proof

/-! ### Kinds and rooms -/

theorem AssetKind.ofCode_eq_some_iff (n : Nat) (k : AssetKind) : AssetKind.ofCode n = some k ↔ k.code = n := by
  unfold AssetKind.ofCode
  split
  · cases k <;> simp [AssetKind.code]
  · cases k <;> simp [AssetKind.code]
  · cases k <;> simp [AssetKind.code]
  · rename_i h1 h2 h3
    simp only [reduceCtorEq, false_iff]
    cases k
    · exact fun h => h1 h.symm
    · exact fun h => h2 h.symm
    · exact fun h => h3 h.symm

theorem AssetKind.ofCode_eq_none_iff (n : Nat) : AssetKind.ofCode n = none ↔ n = 0 ∨ 3 < n := by
  unfold AssetKind.ofCode
  split
  · simp
  · simp
  · simp
  · rename_i h1 h2 h3
    simp only [true_iff]
    have hone : n ≠ 1 := h1
    have htwo : n ≠ 2 := h2
    have hthree : n ≠ 3 := h3
    omega

theorem AssetKind.exists_ofCode {n : Nat} (h : 1 ≤ n ∧ n ≤ 3) : ∃ k, AssetKind.ofCode n = some k := by
  rw [← Option.ne_none_iff_exists', Ne, AssetKind.ofCode_eq_none_iff]
  omega

/-- No room: the staged set is full without a record of the key, or the pool without a place after the replacement (R114). -/
theorem Catalog.noRoom_of_full {c : Catalog} {key : Nat}
    (h : 4096 ≤ c.pool.countP (·.inStaged) ∧ c.stagedRecord key = none ∨
      6144 ≤ c.pool.length ∧ ∀ old, c.stagedRecord key = some old → old.inLive = true) : c.noRoom key = true := by
  unfold Catalog.noRoom
  rcases h with ⟨hstaged, hnone⟩ | ⟨hpool, hlive⟩
  · rw [hnone]
    simp [hstaged]
  · cases hr : c.stagedRecord key with
    | none => simp [hpool]
    | some old => simp [hpool, hlive old hr]

theorem Catalog.noRoom_of_place {c : Catalog} {key : Nat}
    (hstaged : c.pool.countP (·.inStaged) < 4096 ∨ (c.stagedRecord key).isSome = true)
    (hpool : c.pool.length < 6144 ∨ ∃ old, c.stagedRecord key = some old ∧ old.inLive = false) : c.noRoom key = false := by
  unfold Catalog.noRoom
  cases hr : c.stagedRecord key with
  | none =>
    simp only [hr, Option.isSome_none, Bool.false_eq_true, or_false, reduceCtorEq, false_and, exists_false] at hstaged hpool
    simp [hstaged, hpool]
  | some old =>
    rcases hpool with hp | ⟨o, ho, hlive⟩
    · simp [hp]
    · rw [hr] at ho
      cases ho
      simp [hlive]

theorem StoreState.writeRefusal_offline {k : StoreState} (h : k = .offline ∨ k = .absent ∨ k = .mounting) :
    k.writeRefusal = some .storeOffline := by
  rcases h with rfl | rfl | rfl <;> rfl

theorem Catalog.intakeBusy_eq_false {c : Catalog} (h : c.intake.state = .none ∨ c.intake.state = .failed) : c.intakeBusy = false := by
  rcases h with h | h <;> simp [Catalog.intakeBusy, h]

theorem Catalog.intakeBusy_eq_true {c : Catalog} (h : c.intake.state = .open ∨ c.intake.state = .finishing) : c.intakeBusy = true := by
  rcases h with h | h <;> simp [Catalog.intakeBusy, h]

/-! ### The pool without the staged record of a key -/

theorem dropStaged_settling (uid : Nat) (s : State) : Settling s (dropStaged uid s) :=
  (settling_modify uid _ s).trans (settling_settleRecord uid _)

/-- The pool that a dropped staged membership leaves (R106). -/
theorem dropStaged_pool (uid : Nat) {s : State} (hn : (s.catalog.pool.map (·.uid)).Nodup) : (dropStaged uid s).catalog.pool =
    (s.catalog.pool.map fun a => if a.uid = uid then a.unstaged else a).filter fun a => a.kept || a.uid != uid := by
  have huids : ∀ a : Asset, (if a.uid = uid then a.unstaged else a).uid = a.uid := fun a => by split <;> rfl
  rw [dropStaged, settleRecord_pool]
  · rfl
  · rw [State.setCatalog_catalog, Catalog.modify, List.map_map]
    exact (List.map_congr_left fun a _ => huids a).symm ▸ hn

/-- The catalog in which an accepted ASSET_BEGIN enters its record: a FAILED intake is closed, the staged record of the key has left the
staged set (R114). -/
def State.clearedFor (s : State) (key : Nat) : State :=
  match (s.setCatalog s.catalog.closeFailed).catalog.stagedRecord key with
  | some a => dropStaged a.uid (s.setCatalog s.catalog.closeFailed)
  | none => s.setCatalog s.catalog.closeFailed

/-- The record that an accepted ASSET_BEGIN enters (R114). -/
def newAsset (uid key : Nat) (kind : AssetKind) (length check : Nat) : Asset :=
  { uid := uid, key := key, kind := kind, length := length, check := check, state := .filling, extents := []
    accepted := 0, inLive := false, inStaged := true, readers := 0, damaged := false, desc := {} }

theorem beginIntake_eq (key : Nat) (kind : AssetKind) (length check : Nat) (s : State) : beginIntake key kind length check s =
    (s.clearedFor key).setCatalog { (s.clearedFor key).catalog with
      pool := (s.clearedFor key).catalog.pool ++ [newAsset (s.clearedFor key).catalog.nextUid key kind length check]
      nextUid := (s.clearedFor key).catalog.nextUid + 1
      intake := { state := .open, key := key, record := (s.clearedFor key).catalog.nextUid } } := by
  unfold State.clearedFor
  rfl

section Cleared

variable {s : State} (key : Nat)

theorem State.clearedFor_settling : Settling (s.setCatalog s.catalog.closeFailed) (s.clearedFor key) := by
  unfold State.clearedFor
  split
  · exact dropStaged_settling _ _
  · exact Settling.refl _

@[simp] theorem Catalog.closeFailed_nextUid (c : Catalog) : c.closeFailed.nextUid = c.nextUid := by
  unfold Catalog.closeFailed; split <;> rfl

theorem State.clearedFor_frame : ∃ pool retiring units port, s.clearedFor key = { s with
    catalog := { s.catalog.closeFailed with pool := pool, retiring := retiring }
    store := { s.store with units := units, port := port } } := State.clearedFor_settling key

variable (hn : (s.catalog.pool.map (·.uid)).Nodup)
include hn

/-- Every record of the cleared pool is one of the pool, with its generations but perhaps the staged one. -/
theorem State.mem_clearedFor {b : Asset} (hb : b ∈ (s.clearedFor key).catalog.pool) :
    ∃ c ∈ s.catalog.pool, b = c ∨ b = c.unstaged := by
  unfold State.clearedFor at hb
  split at hb
  · rw [dropStaged_pool _ (by simpa using hn), List.mem_filter, List.mem_map, State.setCatalog_catalog, Catalog.closeFailed_pool] at hb
    obtain ⟨⟨c, hc, rfl⟩, -⟩ := hb
    refine ⟨c, hc, ?_⟩
    split
    · exact .inr rfl
    · exact .inl rfl
  · rw [State.setCatalog_catalog, Catalog.closeFailed_pool] at hb
    exact ⟨b, hb, .inl rfl⟩

/-- A live record stays live. -/
theorem State.clearedFor_live {b : Asset} (hb : b ∈ s.catalog.pool) (hlive : b.inLive = true) :
    ∃ c ∈ (s.clearedFor key).catalog.pool, c.uid = b.uid ∧ c.inLive = true := by
  unfold State.clearedFor
  split
  · rename_i a _
    rw [dropStaged_pool _ (by simpa using hn), State.setCatalog_catalog, Catalog.closeFailed_pool]
    refine ⟨if b.uid = a.uid then b.unstaged else b, List.mem_filter.2 ⟨List.mem_map_of_mem hb, ?_⟩, ?_, ?_⟩
    · split <;> simp [Asset.kept, Asset.unstaged, hlive]
    · split <;> rfl
    · split <;> exact hlive
  · exact ⟨b, by simpa using hb, rfl, hlive⟩

/-- With at most one staged record of the key before, none is left (R114). -/
theorem State.clearedFor_unstaged
    (hone : ∀ a ∈ s.catalog.pool, ∀ b ∈ s.catalog.pool, a.inStaged = true → b.inStaged = true → a.key = b.key → a = b)
    {b : Asset} (hb : b ∈ (s.clearedFor key).catalog.pool) (hst : b.inStaged = true) : b.key ≠ key := by
  intro hk
  unfold State.clearedFor at hb
  rw [State.setCatalog_catalog, Catalog.stagedRecord, Catalog.closeFailed_pool] at hb
  split at hb
  · rename_i a ha
    have hmem := List.mem_of_find?_eq_some ha
    obtain ⟨has, hak⟩ : a.inStaged = true ∧ a.key = key := by simpa using List.find?_some ha
    rw [dropStaged_pool _ (by simpa using hn), List.mem_filter, List.mem_map, State.setCatalog_catalog, Catalog.closeFailed_pool] at hb
    obtain ⟨⟨c, hc, rfl⟩, -⟩ := hb
    split at hst
    · cases hst
    · rename_i hne
      rw [if_neg hne] at hk
      exact hne (by rw [hone c hc a hmem hst has (hk.trans hak.symm)])
  · rename_i hnone
    rw [State.setCatalog_catalog, Catalog.closeFailed_pool] at hb
    simpa [hst, hk] using List.find?_eq_none.1 hnone b hb

end Cleared

/-! ### The request (R114) -/

section Requests

variable {s : State} {tag key kind length check : Nat} (h : s.takes tag)
include h

theorem exec_assetBegin_badParam (hbad : ¬ (key ≠ 0 ∧ 1 ≤ kind ∧ kind ≤ 3 ∧ 1 ≤ length ∧ length ≤ 67108864)) :
    exec (.assetBegin tag key kind length check) s = .next (answered 0x1D tag .badParam [] s) :=
  request_answered h rfl (by
    unfold assetBeginOwner
    split
    · rfl
    · rename_i k hk
      have hkind : ¬ (kind = 0 ∨ 3 < kind) := fun h => by
        rw [(AssetKind.ofCode_eq_none_iff kind).2 h] at hk
        cases hk
      rw [if_pos (by omega)])

variable {k : AssetKind} (hk : AssetKind.ofCode kind = some k) (hfits : ¬ (key = 0 ∨ length = 0 ∨ 67108864 < length))
include hk hfits

theorem exec_assetBegin_busy
    (hb : s.catalog.publish.isSome = true ∨ s.catalog.intake.state = .open ∨ s.catalog.intake.state = .finishing) :
    exec (.assetBegin tag key kind length check) s = .next (answered 0x1D tag .busy [] s) :=
  request_answered h rfl (by
    have hbusy : (s.catalog.publishing || s.catalog.intakeBusy) = true := by
      rcases hb with hb | hb
      · simp [Catalog.publishing, hb]
      · simp [Catalog.intakeBusy_eq_true hb]
    simp only [assetBeginOwner, hk, if_neg hfits, holdPlace_catalog, hbusy, if_true])

variable (hp : s.catalog.publish = none) (hi : s.catalog.intake.state = .none ∨ s.catalog.intake.state = .failed)
include hp hi

theorem exec_assetBegin_notNow (hst : s.catalog.staged = none) :
    exec (.assetBegin tag key kind length check) s = .next (answered 0x1D tag .notNow [] s) :=
  request_answered h rfl (by
    simp [assetBeginOwner, hk, hfits, Catalog.publishing, hp, Catalog.intakeBusy_eq_false hi, hst])

variable (hst : s.catalog.staged.isSome = true)
include hst

theorem exec_assetBegin_refused {st : Status} (hw : s.store.state.writeRefusal = some st) :
    exec (.assetBegin tag key kind length check) s = .next (answered 0x1D tag st [] s) :=
  request_answered h rfl (by
    have hstaged : s.catalog.staged ≠ none := Option.isSome_iff_ne_none.1 hst
    simp [assetBeginOwner, hk, hfits, Catalog.publishing, hp, Catalog.intakeBusy_eq_false hi, hstaged, hw])

variable (hon : s.store.state = .online)
include hon

theorem exec_assetBegin_noSpace (hroom : s.catalog.noRoom key = true) :
    exec (.assetBegin tag key kind length check) s = .next (answered 0x1D tag .noSpace [] s) :=
  request_answered h rfl (by
    have hstaged : s.catalog.staged ≠ none := Option.isSome_iff_ne_none.1 hst
    simp [assetBeginOwner, hk, hfits, Catalog.publishing, hp, Catalog.intakeBusy_eq_false hi, hstaged, hon,
      StoreState.writeRefusal, hroom])

theorem exec_assetBegin (hroom : s.catalog.noRoom key = false) : exec (.assetBegin tag key kind length check) s =
    .next ((eraserStep (reply 0x1D tag .ok [] (beginIntake key k length check (holdPlace s)))).seenSince s) := by
  have hstaged : s.catalog.staged ≠ none := Option.isSome_iff_ne_none.1 hst
  have howner : assetBeginOwner tag key kind length check (holdPlace s) =
      eraserStep (reply 0x1D tag .ok [] (beginIntake key k length check (holdPlace s))) := by
    simp [assetBeginOwner, hk, hfits, Catalog.publishing, hp, Catalog.intakeBusy_eq_false hi, hstaged, hon,
      StoreState.writeRefusal, hroom]
  rw [← howner]
  exact request_of_takes h

end Requests

/-- What an accepted ASSET_BEGIN leaves: the new record and the open intake, and everything else as it was (R114). -/
theorem assetBegin_accepted {s : State} {key : Nat} (tag : Nat) (k : AssetKind) (length check : Nat)
    (huid : ∀ a ∈ s.catalog.pool, a.uid < s.catalog.nextUid) (hn : (s.catalog.pool.map (·.uid)).Nodup)
    (hone : ∀ a ∈ s.catalog.pool, ∀ b ∈ s.catalog.pool, a.inStaged = true → b.inStaged = true → a.key = b.key → a = b) :
    let t := (eraserStep (reply 0x1D tag .ok [] (beginIntake key k length check (holdPlace s)))).seenSince s
    let a := newAsset s.catalog.nextUid key k length check
    t.link = s.link.push (replyMsg 0x1D tag .ok [] .nothing) ∧
      t.catalog.intake = { state := .open, key := key, record := s.catalog.nextUid } ∧
      t.catalog.record s.catalog.nextUid = some a ∧ (∀ b ∈ t.catalog.pool, b.inStaged = true → b.key = key → b = a) ∧
      (∀ b ∈ s.catalog.pool, b.inLive = true → ∃ c ∈ t.catalog.pool, c.uid = b.uid ∧ c.inLive = true) ∧
      t.catalog.titles = s.catalog.titles ∧ t.catalog.staged = s.catalog.staged ∧ t.plans = s.plans ∧ t.cache = s.cache ∧
      t.lanes = s.lanes := by
  intro t a
  obtain ⟨pool, retiring, units, port, hc⟩ := State.clearedFor_frame (s := holdPlace s) key
  have hmem := fun b => State.mem_clearedFor (s := holdPlace s) key hn (b := b)
  have hunstaged := fun b => State.clearedFor_unstaged (s := holdPlace s) key hn hone (b := b)
  have hlive := fun b => State.clearedFor_live (s := holdPlace s) key hn (b := b)
  rw [hc] at hmem hunstaged hlive
  have hpool : t.catalog.pool = pool ++ [a] := by
    simp only [t, State.seenSince_catalog, eraserStep_catalog, reply_catalog, beginIntake_eq, hc, State.setCatalog_catalog,
      holdPlace_catalog, Catalog.closeFailed_nextUid, a]
  have hfresh : ∀ b ∈ pool, b.uid ≠ s.catalog.nextUid := fun b hb => by
    obtain ⟨c, hcm, rfl | rfl⟩ := hmem b hb
    · exact Nat.ne_of_lt (huid b hcm)
    · exact Nat.ne_of_lt (huid c hcm)
  refine ⟨?_, ?_, ?_, fun b hb hst hk => ?_, fun b hb hl => ?_, ?_⟩
  · simp only [t, State.seenSince_link, eraserStep_link, beginIntake_eq, hc]
    rfl
  · simp only [t, State.seenSince_catalog, eraserStep_catalog, reply_catalog, beginIntake_eq, hc, State.setCatalog_catalog,
      holdPlace_catalog, Catalog.closeFailed_nextUid]
  · rw [Catalog.record, hpool, List.find?_append, List.find?_eq_none.2 fun b hb => by simpa using hfresh b hb, Option.none_or]
    simp [a, newAsset]
  · rw [hpool, List.mem_append, List.mem_singleton] at hb
    rcases hb with hb | hb
    · exact absurd hk (hunstaged b hb hst)
    · exact hb
  · obtain ⟨c, hcm, hcu, hcl⟩ := hlive b hb hl
    exact ⟨c, by rw [hpool]; exact List.mem_append_left _ hcm, hcu, hcl⟩
  · simp only [t, State.seenSince_catalog, State.seenSince_plans, State.seenSince_cache, State.seenSince_lanes, eraserStep_catalog,
      eraserStep_plans, eraserStep_cache, eraserStep_lanes, reply_catalog, reply_plans, reply_cache, reply_lanes, beginIntake_eq, hc,
      State.setCatalog_catalog, State.setCatalog_plans, State.setCatalog_cache, State.setCatalog_lanes, holdPlace_catalog,
      holdPlace_plans, holdPlace_cache, holdPlace_lanes, Catalog.closeFailed_titles, Catalog.closeFailed_staged, and_self]

/-- Settles O36: the refusals in the order of R114, then the new record. -/
theorem assetsBegin : Obligations.AssetsBegin := by
  intro s tag key kind length check h
  refine ⟨exec_assetBegin_badParam h, fun ⟨hkey, hk1, hk3, hl1, hl2⟩ => ?_⟩
  obtain ⟨k, hk⟩ := AssetKind.exists_ofCode ⟨hk1, hk3⟩
  have hfits : ¬ (key = 0 ∨ length = 0 ∨ 67108864 < length) := by omega
  refine ⟨exec_assetBegin_busy h hk hfits, fun hp hi => ⟨exec_assetBegin_notNow h hk hfits hp hi, fun hst =>
    ⟨fun hro => exec_assetBegin_refused h hk hfits hp hi hst (by rw [hro]; rfl),
      fun hoff => exec_assetBegin_refused h hk hfits hp hi hst (StoreState.writeRefusal_offline hoff), fun hon =>
      ⟨fun hfull => exec_assetBegin_noSpace h hk hfits hp hi hst hon (Catalog.noRoom_of_full hfull),
        fun hcount hpool huid hn hone => ?_⟩⟩⟩⟩
  obtain ⟨hlink, hintake, hrecord, hstaged, hlive, hrest⟩ := assetBegin_accepted (key := key) tag k length check huid hn hone
  refine ⟨_, newAsset s.catalog.nextUid key k length check,
    exec_assetBegin h hk hfits hp hi hst hon (Catalog.noRoom_of_place hcount hpool), hlink, ?_⟩
  rw [hintake]
  exact ⟨rfl, rfl, rfl, rfl, rfl, hrecord, rfl, (AssetKind.ofCode_eq_some_iff kind k).1 hk, rfl, rfl, rfl, rfl, rfl, rfl, rfl, rfl, rfl,
    hstaged, hlive, hrest⟩

end Sys2Proof.Machine
end

section
/-!
PUBLISH (R122, R123): the reference checks, the refusals in their order, and the image and the first page of an accepted one, for the
statement of O38.
-/

namespace Sys2Proof.Machine

open Sys2Proof

/-! ### The reference checks (R122) -/

theorem Catalog.keyPasses_iff (c : Catalog) (kind : AssetKind) (key : Nat) : c.keyPasses kind key = true ↔
    key = 0 ∨ ∃ a, c.pool.find? (fun a => a.inStaged && a.key == key) = some a ∧ a.kind = kind ∧ a.state = .complete := by
  unfold Catalog.keyPasses Catalog.stagedRecord
  cases c.pool.find? (fun a => a.inStaged && a.key == key) <;> simp

theorem Catalog.badReference_eq_none_iff (c : Catalog) (g : Staged) :
    c.badReference g = none ↔ ∀ x ∈ g.references, c.keyPasses x.2.1 x.2.2 = true := by
  simp [Catalog.badReference]

/-- The reference reported is the first that fails (R122). -/
theorem Catalog.badReference_eq_some_iff (c : Catalog) (g : Staged) (title key : Nat) : c.badReference g = some (title, key) ↔
    ∃ pre x post, g.references = pre ++ x :: post ∧ (∀ y ∈ pre, c.keyPasses y.2.1 y.2.2 = true) ∧
      ¬ c.keyPasses x.2.1 x.2.2 = true ∧ x.1 = title ∧ x.2.2 = key := by
  simp only [Catalog.badReference, Option.map_eq_some_iff, List.find?_eq_some_iff_append, Prod.mk.injEq, Bool.not_eq_true',
    Bool.not_eq_true, Bool.not_not]
  constructor
  · rintro ⟨x, ⟨hx, pre, post, hsplit, hpre⟩, ht, hk⟩
    exact ⟨pre, x, post, hsplit, hpre, hx, ht, hk⟩
  · rintro ⟨pre, x, post, hsplit, hpre, hx, ht, hk⟩
    exact ⟨x, ⟨hx, pre, post, hsplit, hpre⟩, ht, hk⟩

/-! ### The request (R122) -/

section Requests

variable {s : State} {tag : Nat} (h : s.takes tag)
include h

theorem exec_publish_notNow (hst : s.catalog.staged = none) :
    exec (.publish tag) s = .next (answered 0x21 tag .notNow [] s) :=
  request_answered h rfl (by simp [publishOwner, hst])

variable {g : Staged} (hst : s.catalog.staged = some g)
include hst

theorem exec_publish_busy
    (hb : s.catalog.publish.isSome = true ∨ s.catalog.intake.state = .open ∨ s.catalog.intake.state = .finishing) :
    exec (.publish tag) s = .next (answered 0x21 tag .busy [] s) :=
  request_answered h rfl (by
    have hbusy : (s.catalog.publishing || s.catalog.intakeBusy) = true := by
      rcases hb with hb | hb
      · simp [Catalog.publishing, hb]
      · simp [Catalog.intakeBusy_eq_true hb]
    simp only [publishOwner, hst, holdPlace_catalog, hbusy, if_true])

variable (hp : s.catalog.publish = none) (hi : s.catalog.intake.state = .none ∨ s.catalog.intake.state = .failed)
include hp hi

theorem exec_publish_refused {st : Status} (hw : s.store.state.writeRefusal = some st) :
    exec (.publish tag) s = .next (answered 0x21 tag st [] s) :=
  request_answered h rfl (by
    simp [publishOwner, hst, Catalog.publishing, hp, Catalog.intakeBusy_eq_false hi, hw])

variable (hon : s.store.state = .online)
include hon

theorem exec_publish_incomplete {title key : Nat} (hbad : s.catalog.badReference g = some (title, key)) :
    exec (.publish tag) s = .next (answered 0x21 tag .incomplete (beBytes 2 title ++ beBytes 4 key) s) :=
  request_answered h rfl (by
    simp [publishOwner, hst, Catalog.publishing, hp, Catalog.intakeBusy_eq_false hi, hon, StoreState.writeRefusal, hbad])

variable (hgood : s.catalog.badReference g = none)
include hgood

theorem exec_publish_retiringFull (hfull : s.catalog.retiringFull = true) :
    exec (.publish tag) s = .next (answered 0x21 tag .busy [] s) :=
  request_answered h rfl (by
    simp [publishOwner, hst, Catalog.publishing, hp, Catalog.intakeBusy_eq_false hi, hon, StoreState.writeRefusal, hgood, hfull])

theorem exec_publish (hfull : s.catalog.retiringFull = false) :
    exec (.publish tag) s = .next ((beginPublish tag g (holdPlace s)).seenSince s) := by
  have howner : publishOwner tag (holdPlace s) = beginPublish tag g (holdPlace s) := by
    simp [publishOwner, hst, Catalog.publishing, hp, Catalog.intakeBusy_eq_false hi, hon, StoreState.writeRefusal, hgood, hfull]
  rw [← howner]
  exact request_of_takes h

end Requests

/-! ### The image and its first page (R123) -/

/-- The publish that an accepted PUBLISH begins: the image of the staged generation, its first page asked for (R123). -/
def Catalog.begunPublish (c : Catalog) (tag : Nat) (g : Staged) : Publish :=
  { tag := tag, number := c.nextNumber, image := c.imageBytes g, check := crc32 (c.imageBytes g), writer := { outstanding := true } }

theorem Catalog.closeFailed_imageBytes (c : Catalog) (g : Staged) : c.closeFailed.imageBytes g = c.imageBytes g := by
  unfold Catalog.closeFailed; split <;> rfl

theorem Catalog.closeFailed_nextNumber (c : Catalog) : c.closeFailed.nextNumber = c.nextNumber := by
  unfold Catalog.closeFailed; split <;> rfl

theorem Publish.page_first {p : Publish} (h : p.pagesDone = 0) :
    p.page = p.image.take 4096 ++ List.replicate (4096 - (p.image.take 4096).length) 0xFF#8 := by
  simp [Publish.page, h]

theorem beginPublish_eq (tag : Nat) (g : Staged) (s : State) : beginPublish tag g s =
    { s with
      catalog := { s.catalog.closeFailed with publish := some (s.catalog.begunPublish tag g) }
      store := s.store.place .imagePage .write (.pageProgram (s.catalog.begunPublish tag g).page) } := by
  rw [Catalog.begunPublish, ← Catalog.closeFailed_imageBytes, ← Catalog.closeFailed_nextNumber]
  rfl

/-- Settles O38: the reference checks, the refusals in the order of R122, then the publish begun. -/
theorem publishIsCheckedAndBegins : Obligations.PublishIsCheckedAndBegins := by
  refine ⟨fun c g => ?_, fun s tag h => ⟨exec_publish_notNow h, fun g hst => ⟨exec_publish_busy h hst, fun hp hi =>
    ⟨fun hro => exec_publish_refused h hst hp hi (by rw [hro]; rfl),
      fun hoff => exec_publish_refused h hst hp hi (StoreState.writeRefusal_offline hoff), fun hon =>
      ⟨fun title key => exec_publish_incomplete h hst hp hi hon, fun hgood =>
        ⟨fun hfull => exec_publish_retiringFull h hst hp hi hon hgood (by simpa [Catalog.retiringFull] using hfull),
          fun hroom => ?_⟩⟩⟩⟩⟩⟩
  · simp only [← Catalog.keyPasses_iff]
    exact ⟨c.badReference_eq_none_iff g, c.badReference_eq_some_iff g⟩
  · refine ⟨_, s.catalog.begunPublish tag g,
      exec_publish h hst hp hi hon hgood (by simpa [Catalog.retiringFull] using hroom), ?_⟩
    rw [beginPublish_eq]
    simp only [State.seenSince_catalog, State.seenSince_store, State.seenSince_link, State.seenSince_plans, State.seenSince_cache]
    exact ⟨rfl, rfl, rfl, rfl, rfl, rfl, rfl, Catalog.closeFailed_intake hi,
      Publish.page_first (p := s.catalog.begunPublish tag g) rfl ▸ Store.place_placed _ _ _ s.store,
      s.catalog.closeFailed_titles, s.catalog.closeFailed_staged, s.catalog.closeFailed_pool, trivial, rfl, rfl⟩

end Sys2Proof.Machine
end

section
/-!
The catalog image (R123, R126, R202): its assets are the COMPLETE staged records in key order, and the generation built from it is the
one it was formed of, for the statement of O41.
-/

namespace Sys2Proof.Machine

open Sys2Proof

/-! ### Fields and blocks of bytes -/

theorem fieldAt_add (bytes : List Byte) (o i w : Nat) : fieldAt bytes (o + i) w = fieldAt (bytes.drop o) i w := by
  simp [fieldAt, List.drop_drop]

theorem fieldAt_beBytes_append {w n : Nat} (rest : List Byte) (h : n < 256 ^ w) : fieldAt (beBytes w n ++ rest) 0 w = n := by
  rw [fieldAt_append_left _ _ _ _ (by simp), fieldAt_beBytes h]

theorem fieldAt_byteOf_cons {n : Nat} (rest : List Byte) (h : n < 256) : fieldAt (byteOf n :: rest) 0 1 = n :=
  fieldAt_beBytes_append (w := 1) rest h

theorem fieldAt_cons (b : Byte) (rest : List Byte) {o : Nat} (w : Nat) (h : 0 < o) :
    fieldAt (b :: rest) o w = fieldAt rest (o - 1) w := fieldAt_append_right [b] rest o w h

theorem rgbAt_add (bytes : List Byte) (o i : Nat) : rgbAt bytes (o + i) = rgbAt (bytes.drop o) i := by
  simp only [rgbAt, Nat.add_assoc, fieldAt_add]

section Blocks

variable {α : Type} {f : α → List Byte} {L : Nat}

theorem length_flatMap_blocks {xs : List α} (hf : ∀ x ∈ xs, (f x).length = L) : (xs.flatMap f).length = L * xs.length := by
  rw [List.length_flatMap, List.map_congr_left hf, List.map_const', List.sum_replicate, smul_eq_mul, Nat.mul_comm]

/-- At the i-th of blocks of one length the i-th block begins. -/
theorem drop_flatMap_blocks {xs : List α} (hf : ∀ x ∈ xs, (f x).length = L) {i : Nat} (hi : i < xs.length) (post : List Byte) :
    ∃ rest, (xs.flatMap f ++ post).drop (L * i) = f xs[i] ++ rest := by
  induction xs generalizing i with
  | nil => cases hi
  | cons x xs ih =>
    cases i with
    | zero => exact ⟨xs.flatMap f ++ post, by simp⟩
    | succ i =>
      obtain ⟨rest, hrest⟩ := ih (fun y hy => hf y (List.mem_cons_of_mem x hy)) (Nat.lt_of_succ_lt_succ hi)
      refine ⟨rest, ?_⟩
      have hx : (f x).length = L := hf x List.mem_cons_self
      rw [List.flatMap_cons, List.append_assoc, Nat.mul_succ, Nat.add_comm, ← List.drop_drop, List.drop_left' hx, hrest,
        List.getElem_cons_succ]

end Blocks

/-! ### The assets of an image (R123) -/

theorem insertAsset_perm (a : Asset) (l : List Asset) : (insertAsset a l).Perm (a :: l) := by
  induction l with
  | nil => exact List.Perm.refl _
  | cons b rest ih =>
    unfold insertAsset
    split
    · exact List.Perm.refl _
    · exact (ih.cons b).trans (List.Perm.swap a b rest)

theorem insertAsset_sorted (a : Asset) {l : List Asset} (h : l.Pairwise fun a b => a.key ≤ b.key) :
    (insertAsset a l).Pairwise fun a b => a.key ≤ b.key := by
  induction l with
  | nil => exact List.pairwise_singleton _ a
  | cons b rest ih =>
    obtain ⟨hb, hrest⟩ := List.pairwise_cons.1 h
    unfold insertAsset
    split
    · rename_i hab
      exact List.pairwise_cons.2 ⟨List.forall_mem_cons.2 ⟨hab, fun x hx => Nat.le_trans hab (hb x hx)⟩, h⟩
    · rename_i hab
      refine List.pairwise_cons.2 ⟨fun x hx => ?_, ih hrest⟩
      rcases List.mem_cons.1 ((insertAsset_perm a rest).mem_iff.1 hx) with rfl | hx
      · omega
      · exact hb x hx

theorem Catalog.imageAssets_perm (c : Catalog) :
    c.imageAssets.Perm (c.pool.filter fun a => a.inStaged && a.state == .complete) := by
  unfold Catalog.imageAssets
  induction c.pool.filter fun a => a.inStaged && a.state == .complete with
  | nil => exact List.Perm.refl _
  | cons a l ih => exact (insertAsset_perm a _).trans (ih.cons a)

theorem Catalog.imageAssets_sorted (c : Catalog) : c.imageAssets.Pairwise fun a b => a.key ≤ b.key := by
  unfold Catalog.imageAssets
  induction c.pool.filter fun a => a.inStaged && a.state == .complete with
  | nil => exact List.Pairwise.nil
  | cons a l ih => exact insertAsset_sorted a ih

/-! ### A title record reads back (R202) -/

/-- The fields of a title record fit its layout (R202). -/
structure TitleRec.Fits (t : TitleRec) : Prop where
  number : t.number < 65536
  badge : t.badge < 256
  red : t.tint.r < 256
  green : t.tint.g < 256
  blue : t.tint.b < 256
  stillKey : t.stillKey < 4294967296
  clipKey : t.clipKey < 4294967296
  name : t.name.length ≤ 48

theorem TitleRec.bytes_length {t : TitleRec} (h : t.name.length ≤ 48) : t.bytes.length = 64 := by
  simp [TitleRec.bytes]
  omega

theorem titleAtOffset_drop (bytes : List Byte) (o : Nat) : titleAtOffset bytes o = titleAtOffset (bytes.drop o) 0 := by
  simp only [titleAtOffset, fieldAt_add, rgbAt_add, List.drop_drop, Nat.zero_add]
  rfl

theorem titleAtOffset_bytes {t : TitleRec} (h : t.Fits) (rest : List Byte) : titleAtOffset (t.bytes ++ rest) 0 = t := by
  have hlength : t.name.length < 256 := Nat.lt_of_le_of_lt h.name (by decide)
  simp only [titleAtOffset, Nat.zero_add]
  simp [TitleRec.bytes, rgbBytes, rgbAt, fieldAt_append_right, fieldAt_cons, fieldAt_beBytes_append, fieldAt_byteOf_cons,
    List.drop_append, List.drop_eq_nil_of_le, Nat.min_eq_right h.name, hlength, h.number, h.badge, h.red, h.green, h.blue,
    h.stillKey, h.clipKey]

/-! ### An asset record reads back (R202) -/

/-- The fields of an asset record fit its layout (R202). -/
structure Asset.Fits (a : Asset) : Prop where
  key : a.key < 4294967296
  length : a.length < 4294967296
  check : a.check < 4294967296
  extents : a.extents.length ≤ 16
  runs : ∀ r ∈ a.extents, r.first < 4294967296 ∧ r.count < 65536
  width : a.desc.width < 65536
  height : a.desc.height < 65536
  period : a.desc.period < 65536
  units : a.desc.units < 65536

/-- The bytes of one extent (R202). -/
def Run.bytes (r : Run) : List Byte := beBytes 4 r.first ++ beBytes 2 r.count

theorem Run.bytes_length (r : Run) : r.bytes.length = 6 := by simp [Run.bytes]

/-- The record that a mount loads of an asset record of the image (R126). -/
def Asset.loaded (uid : Nat) (a : Asset) : Asset :=
  { a with
    uid := uid, state := .complete, accepted := a.length, inLive := true, inStaged := false, readers := 0, damaged := false
    desc := a.kind.usedData a.desc }

/-- What is read of loaded records whatever names they get. -/
theorem map_loaded {β : Type} {p q : Asset → β} (h : ∀ uid a, p (a.loaded uid) = q a) (uid : Nat) (l : List Asset) :
    (l.mapIdx fun i a => a.loaded (uid + i)).map p = l.map q :=
  List.ext_getElem (by simp) fun i _ _ => by simp [h]

theorem Asset.bytes_eq (a : Asset) : a.bytes =
    beBytes 4 a.key ++ (byteOf a.kind.code :: byteOf a.extents.length :: 0#8 :: 0#8 :: (beBytes 4 a.length ++ (beBytes 4 a.check ++
      (beBytes 2 a.desc.width ++ (beBytes 2 a.desc.height ++ (beBytes 2 a.desc.period ++ (beBytes 2 a.desc.units ++
        (a.extents.flatMap Run.bytes ++ List.replicate (6 * (16 - a.extents.length)) 0#8)))))))) := by
  have hruns : (fun r => beBytes 4 r.first ++ beBytes 2 r.count) = Run.bytes := rfl
  simp [Asset.bytes, ClipDesc.bytes, hruns]

theorem Asset.bytes_length {a : Asset} (h : a.extents.length ≤ 16) : a.bytes.length = 120 := by
  have hruns := length_flatMap_blocks (xs := a.extents) fun r _ => r.bytes_length
  simp [Asset.bytes_eq, hruns]
  omega

theorem assetAtOffset_drop (bytes : List Byte) (o uid : Nat) : assetAtOffset bytes o uid = assetAtOffset (bytes.drop o) 0 uid := by
  simp only [assetAtOffset, Nat.add_assoc, fieldAt_add, Nat.zero_add]
  rfl

/-- The extents of an asset record read back (R202). -/
theorem extents_of_bytes {a : Asset} (h : a.Fits) (rest : List Byte) : ((List.range a.extents.length).map fun j =>
    (⟨fieldAt (a.bytes ++ rest) (24 + 6 * j) 4, fieldAt (a.bytes ++ rest) (28 + 6 * j) 2⟩ : Run)) = a.extents := by
  refine List.ext_getElem (by simp) fun j _ hj => ?_
  have hhead : (a.bytes ++ rest).drop 24 =
      a.extents.flatMap Run.bytes ++ (List.replicate (6 * (16 - a.extents.length)) 0#8 ++ rest) := by
    simp [Asset.bytes_eq, List.drop_append, List.drop_eq_nil_of_le]
  obtain ⟨rest', hrest⟩ := drop_flatMap_blocks (fun r (_ : r ∈ a.extents) => r.bytes_length) hj
    (List.replicate (6 * (16 - a.extents.length)) 0#8 ++ rest)
  obtain ⟨hfirst, hcount⟩ := h.runs _ (List.getElem_mem hj)
  have hblock : (a.bytes ++ rest).drop (24 + 6 * j) = a.extents[j].bytes ++ rest' := by
    rw [← List.drop_drop, hhead, hrest]
  have hread : fieldAt (a.bytes ++ rest) (24 + 6 * j) 4 = a.extents[j].first := by
    rw [← Nat.add_zero (24 + 6 * j), fieldAt_add, hblock, Run.bytes, List.append_assoc, fieldAt_beBytes_append _ hfirst]
  have hsecond : fieldAt (a.bytes ++ rest) (28 + 6 * j) 2 = a.extents[j].count := by
    rw [show 28 + 6 * j = 24 + 6 * j + 4 by omega, fieldAt_add, hblock, Run.bytes, List.append_assoc,
      fieldAt_append_right _ _ _ _ (by simp), beBytes_length, fieldAt_beBytes_append _ hcount]
  simp [hread, hsecond]

/-- The single fields of an asset record read back (R202). -/
theorem Asset.fields_of_bytes {a : Asset} (h : a.Fits) (rest : List Byte) :
    let f := fieldAt (a.bytes ++ rest)
    f 0 4 = a.key ∧ f 4 1 = a.kind.code ∧ f 5 1 = a.extents.length ∧ f 8 4 = a.length ∧ f 12 4 = a.check ∧
      f 16 2 = a.desc.width ∧ f 18 2 = a.desc.height ∧ f 20 2 = a.desc.period ∧ f 22 2 = a.desc.units := by
  have hcount : a.extents.length < 256 := Nat.lt_of_le_of_lt h.extents (by decide)
  have hcode : a.kind.code < 256 := by cases a.kind <;> decide
  simp [Asset.bytes_eq, fieldAt_append_right, fieldAt_cons, fieldAt_beBytes_append, fieldAt_byteOf_cons, hcount, hcode,
    h.key, h.length, h.check, h.width, h.height, h.period, h.units]

theorem assetAtOffset_bytes {a : Asset} (h : a.Fits) (uid : Nat) (rest : List Byte) :
    assetAtOffset (a.bytes ++ rest) 0 uid = some (a.loaded uid) := by
  obtain ⟨hkey, hcode, hcount, hlength, hcheck, hwidth, hheight, hperiod, hunits⟩ := Asset.fields_of_bytes h rest
  have hkind : AssetKind.ofCode a.kind.code = some a.kind := (AssetKind.ofCode_eq_some_iff _ _).2 rfl
  simp only [assetAtOffset, Nat.zero_add, hkey, hcode, hcount, hlength, hcheck, hwidth, hheight, hperiod, hunits, hkind,
    Option.map_some, Nat.min_eq_right h.extents, extents_of_bytes h rest]
  rfl

/-! ### The generation read back (R126) -/

section Image

variable {c : Catalog} {g : Staged} (ht : ∀ x ∈ g.titles, x.Fits) (ha : ∀ a ∈ c.imageAssets, a.Fits)

theorem imageBytes_eq (c : Catalog) (g : Staged) : c.imageBytes g =
    beBytes 4 c.nextNumber ++ (beBytes 4 g.glyphKey ++ (beBytes 2 g.titles.length ++ (beBytes 2 c.imageAssets.length ++
      (beBytes 4 0 ++ (g.titles.flatMap TitleRec.bytes ++ c.imageAssets.flatMap Asset.bytes))))) := by
  simp [Catalog.imageBytes]

include ht in
theorem imageBytes_titles : (g.titles.flatMap TitleRec.bytes).length = 64 * g.titles.length :=
  length_flatMap_blocks fun x hx => TitleRec.bytes_length (ht x hx).name

include ha in
theorem imageBytes_assets : (c.imageAssets.flatMap Asset.bytes).length = 120 * c.imageAssets.length :=
  length_flatMap_blocks fun a h => Asset.bytes_length (ha a h).extents

include ht ha in
theorem imageBytes_length : (c.imageBytes g).length = 16 + 64 * g.titles.length + 120 * c.imageAssets.length := by
  simp [imageBytes_eq, imageBytes_titles ht, imageBytes_assets ha]
  omega

theorem drop_imageBytes (c : Catalog) (g : Staged) :
    (c.imageBytes g).drop 16 = g.titles.flatMap TitleRec.bytes ++ c.imageAssets.flatMap Asset.bytes := by
  simp [imageBytes_eq, List.drop_append, List.drop_eq_nil_of_le]

include ht in
theorem titles_of_imageBytes :
    ((List.range g.titles.length).map fun i => titleAtOffset (c.imageBytes g) (16 + 64 * i)) = g.titles := by
  refine List.ext_getElem (by simp) fun i _ hi => ?_
  obtain ⟨rest, hrest⟩ := drop_flatMap_blocks (fun x hx => TitleRec.bytes_length (ht x hx).name) hi
    (c.imageAssets.flatMap Asset.bytes)
  rw [List.getElem_map, List.getElem_range, titleAtOffset_drop, ← List.drop_drop, drop_imageBytes, hrest,
    titleAtOffset_bytes (ht _ (List.getElem_mem hi))]

include ht ha in
theorem assets_of_imageBytes (uid : Nat) :
    ((List.range c.imageAssets.length).map fun i =>
      assetAtOffset (c.imageBytes g) (16 + 64 * g.titles.length + 120 * i) (uid + i)) =
      (c.imageAssets.mapIdx fun i a => a.loaded (uid + i)).map some := by
  refine List.ext_getElem (by simp) fun i h _ => ?_
  have hi : i < c.imageAssets.length := by simpa using h
  obtain ⟨rest, hrest⟩ := drop_flatMap_blocks (fun a h => Asset.bytes_length (ha a h).extents) hi []
  rw [List.append_nil] at hrest
  rw [List.getElem_map, List.getElem_range, assetAtOffset_drop, ← List.drop_drop, ← List.drop_drop, drop_imageBytes,
    List.drop_left' (imageBytes_titles ht), hrest, assetAtOffset_bytes (ha _ (List.getElem_mem hi))]
  simp

/-- The head of the image reads back (R202). -/
theorem imageBytes_head (hkey : g.glyphKey < 4294967296) (hnt : g.titles.length < 65536) (hna : c.imageAssets.length < 65536) :
    fieldAt (c.imageBytes g) 0 4 = c.nextNumber ∧ fieldAt (c.imageBytes g) 4 4 = g.glyphKey ∧
      fieldAt (c.imageBytes g) 8 2 = g.titles.length ∧ fieldAt (c.imageBytes g) 10 2 = c.imageAssets.length := by
  have hnumber : c.nextNumber < 4294967296 := Nat.mod_lt _ (by decide)
  simp [imageBytes_eq, fieldAt_append_right, fieldAt_beBytes_append, hnumber, hkey, hnt, hna]

end Image

/-- The generation that a mount builds from the image formed of a stage (R126, R202). -/
def Catalog.loadedFrom (c e : Catalog) (g : Staged) (units : List Nat) : Catalog :=
  { e with
    number := c.nextNumber, glyphKey := g.glyphKey, titles := g.titles
    pool := c.imageAssets.mapIdx fun i a => a.loaded (e.nextUid + i)
    liveImage := units, state := .valid, nextUid := e.nextUid + c.imageAssets.length }

theorem buildCatalog_imageBytes {c : Catalog} {g : Staged} (e : Catalog) (units : List Nat) (hkey : g.glyphKey < 4294967296)
    (hnt : g.titles.length < 65536) (hna : c.imageAssets.length < 65536)
    (hrt : strictlyRising (g.titles.map (·.number)) = true) (hra : strictlyRising (c.imageAssets.map (·.key)) = true)
    (ht : ∀ x ∈ g.titles, x.Fits) (ha : ∀ a ∈ c.imageAssets, a.Fits) :
    buildCatalog { units := units, length := (c.imageBytes g).length, check := crc32 (c.imageBytes g) } (c.imageBytes g) e =
      some (c.loadedFrom e g units) := by
  obtain ⟨hnumber, hglyph, ht8, ha10⟩ := imageBytes_head hkey hnt hna
  have hpool : ((c.imageAssets.mapIdx fun i a => a.loaded (e.nextUid + i)).map some).filterMap id =
      c.imageAssets.mapIdx fun i a => a.loaded (e.nextUid + i) := by simp
  have hkeys : (c.imageAssets.mapIdx fun i a => a.loaded (e.nextUid + i)).map (·.key) = c.imageAssets.map (·.key) :=
    map_loaded (fun _ _ => rfl) _ _
  simp only [buildCatalog, hnumber, hglyph, ht8, ha10, titles_of_imageBytes ht, assets_of_imageBytes ht ha, hpool, hkeys]
  rw [if_pos ⟨trivial, trivial, imageBytes_length ht ha, by simp, hrt, hra⟩]
  rfl

/-- Settles O41: the records of the image read back one by one from their blocks. -/
theorem publishedImagesLoadBack : Obligations.PublishedImagesLoadBack := by
  refine ⟨fun c => ⟨c.imageAssets_perm, c.imageAssets_sorted⟩, fun c e g units hkey hnt hrt hra hna htitles hassets => ?_⟩
  have ht : ∀ x ∈ g.titles, x.Fits := fun x hx =>
    have ⟨h1, h2, h3, h4, h5, h6, h7, h8⟩ := htitles x hx
    ⟨h1, h2, h3, h4, h5, h6, h7, h8⟩
  have ha : ∀ a ∈ c.imageAssets, a.Fits := fun a h =>
    have ⟨h1, h2, h3, h4, h5, h6, h7, h8, h9⟩ := hassets a h
    ⟨h1, h2, h3, h4, h5, h6, h7, h8, h9⟩
  refine ⟨c.loadedFrom e g units, buildCatalog_imageBytes e units hkey (by omega) (by omega) hrt hra ht ha,
    rfl, rfl, rfl, rfl, rfl, map_loaded (fun _ _ => rfl) _ _, fun a h => ?_⟩
  obtain ⟨i, hi, rfl⟩ := List.mem_mapIdx.1 h
  exact ⟨rfl, rfl, rfl, rfl, rfl⟩

end Sys2Proof.Machine
end

section
/-!
ASSET_DATA and ASSET_ABORT (R115, R116, R120): the refusals in their order, the chunk that joins the buffer, the page the writer asks
for, and the intake that ends; for the statement of O37.
-/

namespace Sys2Proof.Machine

open Sys2Proof

/-! ### The page of the buffer and what the writer asks for (R116) -/

theorem intakePage_length (buffer : List Byte) : (intakePage buffer).length = 4096 := by
  simp [intakePage]

theorem intakePage_getD (buffer : List Byte) {n : Nat} (h : n < 4096) : (intakePage buffer).getD n 0 = buffer.getD n 0 := by
  by_cases hn : n < buffer.length
  · rw [intakePage, List.getD_append _ _ _ _ (by simp; omega)]
    simp [List.getD_eq_getElem?_getD, h]
  · rw [intakePage, List.getD_append_right _ _ _ _ (by simp; omega), List.getD_eq_default buffer _ (by omega)]
    simp [List.getD_eq_getElem?_getD, List.getElem?_replicate]
    split <;> rfl

theorem intakeAsk_of_due {s : State} (h : s.catalog.intake.pageDue = true) : intakeAsk s = { s with
    catalog := { s.catalog with intake := { s.catalog.intake with writer := { outstanding := true } } }
    store := s.store.place .intakePage .write (.pageProgram (intakePage s.catalog.intake.buffer)) } := by
  rw [intakeAsk, if_pos h]
  rfl

theorem intakeAsk_of_not_due {s : State} (h : s.catalog.intake.pageDue = false) : intakeAsk s = s := by
  rw [intakeAsk, if_neg (by simp [h])]

/-- The request a page is asked for in an intake that holds bytes (R116). -/
theorem Intake.pageDue_iff {k : Intake} (hk : k.state = .open ∨ k.state = .finishing) (hb : k.buffer ≠ []) :
    k.pageDue = true ↔ k.writer.outstanding = false ∧ (4096 ≤ k.buffer.length ∨ k.state = .finishing) := by
  rcases hk with hk | hk <;> simp [Intake.pageDue, hk, hb]

/-! ### The end of an intake (R106, R119, R120) -/

theorem settleRecord_subset (uid : Nat) (s : State) : ∀ b ∈ (settleRecord uid s).catalog.pool, b ∈ s.catalog.pool := by
  intro b hb
  cases hr : s.catalog.record uid with
  | none => rwa [settleRecord_none hr] at hb
  | some a =>
    rcases settleRecord_cases hr with ⟨-, hs⟩ | ⟨-, -, -, -, hs⟩ | ⟨-, -, hs⟩
    · rw [hs, removeRecord, hr] at hb
      exact List.mem_of_mem_filter hb
    · rwa [hs] at hb
    · rwa [hs] at hb

theorem dropStaged_unstaged (uid : Nat) (s : State) {b : Asset} (hb : b ∈ (dropStaged uid s).catalog.pool) (hu : b.uid = uid) :
    b.inStaged = false := by
  obtain ⟨c, -, rfl⟩ := List.mem_map.1 (settleRecord_subset uid _ b hb)
  by_cases hcu : c.uid = uid
  · rw [if_pos hcu]
  · rw [if_neg hcu] at hu
    exact absurd hu hcu

/-- An intake that ends without its record changes the pool, the retiring list and the store alone (R119, R120). -/
theorem dropIntake_frame (s : State) : ∃ pool retiring store, dropIntake s =
    { s with catalog := { s.catalog with pool := pool, retiring := retiring }, store := store } := by
  obtain ⟨pool, retiring, units, port, h⟩ := dropStaged_settling s.catalog.intake.record s
  exact ⟨pool, retiring, _, by rw [dropIntake, h]; rfl⟩

theorem dropIntake_unstaged (s : State) {b : Asset} (hb : b ∈ (dropIntake s).catalog.pool) (hu : b.uid = s.catalog.intake.record) :
    b.inStaged = false := dropStaged_unstaged _ s hb hu

/-! ### A chunk that joins the buffer (R115) -/

/-- The intake with a chunk more in its buffer, its running CRC and its first bytes (R115). -/
def Intake.joined (chunk : List Byte) (k : Intake) : Intake :=
  { k with buffer := k.buffer ++ chunk, crc := crc32Run k.crc chunk, head := (k.head ++ chunk).take 12 }

/-- The Catalog with a chunk accepted for a record: the intake goes on OPEN, or it is FINISHING under the chunk's tag (R115). -/
def Catalog.accepts (tag : Nat) (a : Asset) (chunk : List Byte) (c : Catalog) : Catalog :=
  { c.modify a.uid fun b => { b with accepted := a.accepted + chunk.length } with
    intake := if a.accepted + chunk.length < a.length then c.intake.joined chunk
      else { c.intake.joined chunk with state := .finishing, tag := tag } }

theorem acceptChunk_eq (tag : Nat) (a : Asset) (chunk : List Byte) (s : State) : acceptChunk tag a chunk s =
    intakeAsk (if a.accepted + chunk.length < a.length then
      reply 0x1E tag .ok (beBytes 4 (a.accepted + chunk.length) ++ beBytes 4 (s.catalog.intake.buffer ++ chunk).length)
        (s.setCatalog (s.catalog.accepts tag a chunk))
    else s.setCatalog (s.catalog.accepts tag a chunk)) := by
  unfold acceptChunk Catalog.accepts
  dsimp only
  split <;> rfl

/-! ### The requests -/

section Requests

variable {s : State} {tag key offset : Nat} {chunk : List Byte} (h : s.takes tag)
include h

theorem exec_assetData_badParam (hc : chunk = []) :
    exec (.assetData tag key offset chunk) s = .next (answered 0x1E tag .badParam [] s) :=
  request_answered h rfl (by simp [assetDataOwner, hc])

section NoIntake

variable (hi : s.catalog.intake.state = .none)
include hi

theorem exec_assetData_notNow (hc : chunk ≠ []) (hl : chunk.length ≤ 1024) :
    exec (.assetData tag key offset chunk) s = .next (answered 0x1E tag .notNow [] s) :=
  request_answered h rfl (by simp [assetDataOwner, hc, Nat.not_lt.2 hl, hi])

theorem exec_assetAbort_notNow : exec (.assetAbort tag key) s = .next (answered 0x1F tag .notNow [] s) :=
  request_answered h rfl (by simp [assetAbortOwner, hi])

end NoIntake

section OtherKey

variable (hi : s.catalog.intake.state ≠ .none) (hkey : key ≠ s.catalog.intake.key)
include hi hkey

theorem exec_assetData_noSuch (hc : chunk ≠ []) (hl : chunk.length ≤ 1024) :
    exec (.assetData tag key offset chunk) s = .next (answered 0x1E tag .noSuch [] s) :=
  request_answered h rfl (by
    cases hk : s.catalog.intake.state
    case none => exact absurd hk hi
    all_goals simp [assetDataOwner, hc, Nat.not_lt.2 hl, hk, hkey])

theorem exec_assetAbort_noSuch : exec (.assetAbort tag key) s = .next (answered 0x1F tag .noSuch [] s) :=
  request_answered h rfl (by
    cases hk : s.catalog.intake.state
    case none => exact absurd hk hi
    all_goals simp [assetAbortOwner, hk, hkey])

end OtherKey

section OwnKey

variable (hkey : key = s.catalog.intake.key)
include hkey

theorem exec_assetData_busy (hi : s.catalog.intake.state = .finishing) (hc : chunk ≠ []) (hl : chunk.length ≤ 1024) :
    exec (.assetData tag key offset chunk) s = .next (answered 0x1E tag .busy [] s) :=
  request_answered h rfl (by simp [assetDataOwner, hc, Nat.not_lt.2 hl, hi, hkey])

theorem exec_assetAbort_busy (hi : s.catalog.intake.state = .finishing) :
    exec (.assetAbort tag key) s = .next (answered 0x1F tag .busy [] s) :=
  request_answered h rfl (by simp [assetAbortOwner, hi, hkey])

theorem exec_assetData_failed (hi : s.catalog.intake.state = .failed) (hc : chunk ≠ []) (hl : chunk.length ≤ 1024) :
    exec (.assetData tag key offset chunk) s =
      .next (answered 0x1E tag s.catalog.intake.failure [] (s.setCatalog { s.catalog with intake := {} })) :=
  request_answered h rfl (by
    simp [assetDataOwner, hc, Nat.not_lt.2 hl, hi, hkey]
    rfl)

theorem exec_assetAbort_failed (hi : s.catalog.intake.state = .failed) :
    exec (.assetAbort tag key) s = .next (answered 0x1F tag .ok [] (s.setCatalog { s.catalog with intake := {} })) :=
  request_answered h rfl (by
    simp [assetAbortOwner, hi, hkey]
    rfl)

variable (hi : s.catalog.intake.state = .open)
include hi

theorem exec_assetAbort : exec (.assetAbort tag key) s =
    .next ((eraserStep (reply 0x1F tag .ok [] ((dropIntake (holdPlace s)).setIntake {}))).seenSince s) := by
  have howner : assetAbortOwner tag key (holdPlace s) =
      eraserStep (reply 0x1F tag .ok [] ((dropIntake (holdPlace s)).setIntake {})) := by
    simp [assetAbortOwner, hi, hkey]
  rw [← howner]
  exact request_of_takes h

variable {a : Asset} (ha : s.catalog.record s.catalog.intake.record = some a) (hc : chunk ≠ []) (hl : chunk.length ≤ 1024)
include ha hc hl

omit h in
/-- A chunk of an OPEN intake's own key is offered to its record (R115). -/
theorem assetDataOwner_offers : assetDataOwner tag key offset chunk (holdPlace s) = offerChunk tag offset chunk a (holdPlace s) := by
  simp [assetDataOwner, hc, Nat.not_lt.2 hl, hi, hkey, ha]

theorem exec_assetData_outOfOrder (ho : offset ≠ a.accepted) :
    exec (.assetData tag key offset chunk) s = .next (answered 0x1E tag .outOfOrder [] s) :=
  request_answered h rfl (by rw [assetDataOwner_offers hkey hi ha hc hl, offerChunk, if_pos ho])

variable (ho : offset = a.accepted)
include ho

theorem exec_assetData_tooLong (hlen : a.length < offset + chunk.length) :
    exec (.assetData tag key offset chunk) s = .next (answered 0x1E tag .badParam [] s) :=
  request_answered h rfl (by rw [assetDataOwner_offers hkey hi ha hc hl, offerChunk, if_neg (not_not.2 ho), if_pos hlen])

variable (hlen : offset + chunk.length ≤ a.length)
include hlen

theorem exec_assetData_intakeFull (hfull : 65536 < s.catalog.intake.buffer.length + chunk.length) :
    exec (.assetData tag key offset chunk) s = .next (answered 0x1E tag .intakeFull []
      (s.setCatalog { s.catalog with intake := { s.catalog.intake with refused := true } })) :=
  request_answered h rfl (by
    have hpos : 0 < chunk.length := List.length_pos_of_ne_nil hc
    rw [assetDataOwner_offers hkey hi ha hc hl, offerChunk, if_neg (not_not.2 ho), if_neg (Nat.not_lt.2 hlen),
      if_pos (by simp only [holdPlace_catalog]; omega)]
    rfl)

theorem exec_assetData (hroom : s.catalog.intake.buffer.length + chunk.length ≤ 65536) :
    exec (.assetData tag key offset chunk) s = .next ((acceptChunk tag a chunk (holdPlace s)).seenSince s) := by
  have howner : assetDataOwner tag key offset chunk (holdPlace s) = acceptChunk tag a chunk (holdPlace s) := by
    rw [assetDataOwner_offers hkey hi ha hc hl, offerChunk, if_neg (not_not.2 ho), if_neg (Nat.not_lt.2 hlen),
      if_neg (by simp only [holdPlace_catalog]; omega)]
  rw [← howner]
  exact request_of_takes h

end OwnKey

end Requests

/-! ### What an accepted ASSET_ABORT and an accepted chunk leave -/

theorem assetAbort_accepted (s : State) (tag : Nat) :
    let t := (eraserStep (reply 0x1F tag .ok [] ((dropIntake (holdPlace s)).setIntake {}))).seenSince s
    t.catalog.intake.state = .none ∧ t.catalog.intake.buffer = [] ∧ t.link = s.link.push (replyMsg 0x1F tag .ok [] .nothing) ∧
      t.catalog.titles = s.catalog.titles ∧ ∀ b ∈ t.catalog.pool, b.uid = s.catalog.intake.record → b.inStaged = false := by
  intro t
  obtain ⟨pool, retiring, store, hd⟩ := dropIntake_frame (holdPlace s)
  have hpool := fun b => dropIntake_unstaged (holdPlace s) (b := b)
  simp only [t, State.seenSince_catalog, State.seenSince_link, eraserStep_catalog, eraserStep_link, reply_catalog]
  rw [hd] at hpool ⊢
  exact ⟨rfl, rfl, rfl, rfl, hpool⟩

theorem Catalog.accepts_record (tag : Nat) {a : Asset} (chunk : List Byte) {c : Catalog} (ha : c.record a.uid = some a) :
    (c.accepts tag a chunk).record a.uid = some { a with accepted := a.accepted + chunk.length } := by
  have hrecord := Catalog.record_modify a.uid (fun b => { b with accepted := a.accepted + chunk.length }) c fun _ => rfl
  rw [ha] at hrecord
  exact hrecord

theorem Catalog.accepts_state (tag : Nat) {a : Asset} (chunk : List Byte) {c : Catalog} (hi : c.intake.state = .open) :
    (c.accepts tag a chunk).intake.state = if a.accepted + chunk.length < a.length then .open else .finishing := by
  unfold Catalog.accepts
  split
  · exact hi
  · rfl

theorem Catalog.accepts_joined (tag : Nat) (a : Asset) (chunk : List Byte) (c : Catalog) :
    (c.accepts tag a chunk).intake.buffer = c.intake.buffer ++ chunk ∧
      (c.accepts tag a chunk).intake.crc = crc32Run c.intake.crc chunk ∧
      (c.accepts tag a chunk).intake.writer = c.intake.writer := by
  unfold Catalog.accepts
  split <;> exact ⟨rfl, rfl, rfl⟩

/-- The state between an accepted chunk and the page its writer asks for (R115). -/
def State.chunkTaken (s : State) (tag : Nat) (a : Asset) (chunk : List Byte) : State :=
  if a.accepted + chunk.length < a.length then
    reply 0x1E tag .ok (beBytes 4 (a.accepted + chunk.length) ++ beBytes 4 (s.catalog.intake.buffer ++ chunk).length)
      (s.setCatalog (s.catalog.accepts tag a chunk))
  else s.setCatalog (s.catalog.accepts tag a chunk)

theorem State.chunkTaken_catalog (s : State) (tag : Nat) (a : Asset) (chunk : List Byte) :
    (s.chunkTaken tag a chunk).catalog = s.catalog.accepts tag a chunk := by
  unfold State.chunkTaken; split <;> rfl

theorem State.chunkTaken_store (s : State) (tag : Nat) (a : Asset) (chunk : List Byte) : (s.chunkTaken tag a chunk).store = s.store := by
  unfold State.chunkTaken; split <;> rfl

/-- What the writer's asking changes beside the store: its own mark (R116). -/
theorem intakeAsk_frame (s : State) : ∃ w st, intakeAsk s =
    { s with catalog := { s.catalog with intake := { s.catalog.intake with writer := w } }, store := st } := by
  cases h : s.catalog.intake.pageDue
  · exact ⟨s.catalog.intake.writer, s.store, intakeAsk_of_not_due h⟩
  · exact ⟨_, _, intakeAsk_of_due h⟩

theorem chunk_accepted {s : State} (tag : Nat) {a : Asset} {chunk : List Byte} (hi : s.catalog.intake.state = .open)
    (hc : chunk ≠ []) (hlen : a.accepted + chunk.length ≤ a.length) (ha : s.catalog.record a.uid = some a) :
    let t := (acceptChunk tag a chunk (holdPlace s)).seenSince s
    let k := s.catalog.intake
    let due := k.writer.outstanding = false ∧ (4096 ≤ (k.buffer ++ chunk).length ∨ a.accepted + chunk.length = a.length)
    t.catalog.intake.buffer = k.buffer ++ chunk ∧ t.catalog.intake.crc = crc32Run k.crc chunk ∧
      t.catalog.record a.uid = some { a with accepted := a.accepted + chunk.length } ∧
      ((due → t.catalog.intake.writer = { outstanding := true } ∧
          s.store.placed .intakePage .write (.pageProgram (intakePage (k.buffer ++ chunk))) t.store) ∧
        (¬ due → t.catalog.intake.writer = k.writer ∧ t.store = s.store)) ∧
      (a.accepted + chunk.length < a.length → t.catalog.intake.state = .open ∧
        t.link = s.link.push (replyMsg 0x1E tag .ok
          (beBytes 4 (a.accepted + chunk.length) ++ beBytes 4 (k.buffer ++ chunk).length) .nothing)) ∧
      (a.accepted + chunk.length = a.length → t.catalog.intake.state = .finishing ∧ t.catalog.intake.tag = tag ∧
        t.link = (holdPlace s).link) := by
  intro t k due
  let u := (holdPlace s).chunkTaken tag a chunk
  have hcat : u.catalog = s.catalog.accepts tag a chunk := State.chunkTaken_catalog _ tag a chunk
  have hstore : u.store = s.store := State.chunkTaken_store _ tag a chunk
  have ht : acceptChunk tag a chunk (holdPlace s) = intakeAsk u := acceptChunk_eq tag a chunk (holdPlace s)
  have hstate := Catalog.accepts_state tag (a := a) chunk hi
  obtain ⟨hbuffer, hcrc, hwriter⟩ := s.catalog.accepts_joined tag a chunk
  obtain ⟨w, st, hframe⟩ := intakeAsk_frame u
  have hdue : u.catalog.intake.pageDue = true ↔ due := by
    have hbusy : u.catalog.intake.state = .open ∨ u.catalog.intake.state = .finishing := by
      rw [hcat, hstate]
      split
      · exact .inl rfl
      · exact .inr rfl
    rw [Intake.pageDue_iff hbusy (by simp [hcat, hbuffer, hc]), hcat, hwriter, hbuffer, hstate]
    by_cases hlt : a.accepted + chunk.length < a.length
    · simp [due, k, hlt, Nat.ne_of_lt hlt]
    · simp [due, k, Nat.le_antisymm hlen (Nat.not_lt.1 hlt)]
  simp only [t, ht, State.seenSince_catalog, State.seenSince_store, State.seenSince_link]
  refine ⟨?_, ?_, ?_, ⟨fun hd => ?_, fun hd => ?_⟩, fun hlt => ?_, fun heq => ?_⟩
  · rw [hframe, ← hbuffer, ← hcat]
  · rw [hframe, ← hcrc, ← hcat]
  · rw [hframe, ← Catalog.accepts_record tag chunk ha, ← hcat]
    rfl
  · rw [intakeAsk_of_due (hdue.2 hd), hstore, hcat, hbuffer]
    exact ⟨rfl, Store.place_placed _ _ _ s.store⟩
  · rw [intakeAsk_of_not_due (Bool.eq_false_iff.2 (mt hdue.1 hd)), hstore, hcat, hwriter]
    exact ⟨rfl, rfl⟩
  · rw [if_pos hlt] at hstate
    rw [hframe]
    refine ⟨hcat ▸ hstate, ?_⟩
    simp only [u, State.chunkTaken, if_pos hlt]
    rfl
  · have hge : ¬ a.accepted + chunk.length < a.length := by omega
    rw [if_neg hge] at hstate
    rw [hframe]
    refine ⟨hcat ▸ hstate, ?_, ?_⟩
    · simp only [hcat, Catalog.accepts, if_neg hge]
    · simp only [u, State.chunkTaken, if_neg hge]
      rfl

end Sys2Proof.Machine
end

section
/-!
The end of a page program of the intake (R116 to R119, R139): the rules of the steps it is made of, for the statements of O37 and O32.
-/

namespace Sys2Proof.Machine

open Sys2Proof

/-! ### The end of an event on the port (R148) -/

/-- With no mount waiting, what ends an event on the port is the eraser's turn (R143). -/
theorem stepEnd_eq {s : State} (h : s.store.mount = .none) : eraserStep (mountIfWaiting s) = s.setStore s.store.eraser := by
  rw [mountIfWaiting_of_none h]
  rfl

theorem portEnd_idle {s : State} {p : PortOp} (hp : s.store.port = some p) (hr : p.releaseReader = none) (hu : p.releaseUnits = [])
    (hh : s.store.heldBack = []) : portEnd s = s.setStore { s.store with port := none } := by
  rw [portEnd_none hp hr, Store.portFreed_idle hh hu]

section Eraser

variable (st : Store)

theorem Store.eraser_port : st.eraser.port = st.port := st.eraser_asks.1

theorem Store.eraser_fillUnit : st.eraser.fillUnit = st.fillUnit := by
  obtain ⟨_, _, _, _, h, -⟩ := st.eraser_frame
  rw [h]

theorem Store.eraser_badUnits : st.eraser.badUnits = st.badUnits := by
  obtain ⟨_, _, _, _, h, -⟩ := st.eraser_frame
  rw [h]

theorem Store.eraser_state : st.eraser.state = st.state := by
  obtain ⟨_, _, _, _, h, -⟩ := st.eraser_frame
  rw [h]

/-- The eraser leaves every unit that is not FREE_DIRTY as it is (R143). -/
theorem Store.eraser_keeps {k : Nat} {e : UnitRec} (h : st.units[k]? = some e) (he : e.state ≠ .freeDirty) :
    st.eraser.units[k]? = some e := (st.eraser_units h).resolve_right fun hd => he hd.1

end Eraser

/-! ### Unit states that last -/

/-- Units that are neither SEALED nor FREE_DIRTY keep their states from `a` to `b`: only releases and the eraser have been at work. -/
def Store.KeepsStates (a b : Store) : Prop :=
  ∀ (k : Nat) (x : UnitState), x ≠ .sealed → x ≠ .freeDirty → (a.units[k]?).map (·.state) = some x → (b.units[k]?).map (·.state) = some x

theorem Store.KeepsStates.trans {a b c : Store} (h : a.KeepsStates b) (h' : b.KeepsStates c) : a.KeepsStates c :=
  fun k x hs hd hx => h' k x hs hd (h k x hs hd hx)

theorem Store.keepsStates_of_units {a b : Store} (h : b.units = a.units) : a.KeepsStates b := fun _ _ _ _ hx => by rw [h]; exact hx

theorem Store.keepsStates_releaseHolders (us : List Nat) (st : Store) : st.KeepsStates (st.releaseHolders us) := by
  intro k x hs _ hx
  obtain ⟨e, he, rfl⟩ := Option.map_eq_some_iff.1 hx
  rw [Store.releaseHolders_units, he, Option.map_some, Option.map_some, UnitRec.releases_state_of_not_sealed _ hs]

theorem Store.keepsStates_eraser (st : Store) : st.KeepsStates st.eraser := by
  intro k x _ hd hx
  obtain ⟨e, he, rfl⟩ := Option.map_eq_some_iff.1 hx
  rw [st.eraser_keeps he hd]
  rfl

/-! ### What a write stream's steps change (R116, R119, R139, R140) -/

/-- From `s` to `t` a write stream has worked with the port free or untouched: it changes the Catalog, the Link, the units, and what
waits for the port or for a clean unit. -/
def StreamWork (s t : State) : Prop := ∃ c l units arbiter heldBack cleanWait, t = { s with
  catalog := c, link := l
  store := { s.store with units := units, arbiter := arbiter, heldBack := heldBack, cleanWait := cleanWait } }

theorem StreamWork.refl (s : State) : StreamWork s s :=
  ⟨s.catalog, s.link, s.store.units, s.store.arbiter, s.store.heldBack, s.store.cleanWait, rfl⟩

theorem StreamWork.trans {s t u : State} (h : StreamWork s t) (h' : StreamWork t u) : StreamWork s u := by
  obtain ⟨_, _, _, _, _, _, rfl⟩ := h
  obtain ⟨_, _, _, _, _, _, rfl⟩ := h'
  exact ⟨_, _, _, _, _, _, rfl⟩

theorem streamWork_setCatalog (c : Catalog) (s : State) : StreamWork s (s.setCatalog c) :=
  ⟨c, s.link, s.store.units, s.store.arbiter, s.store.heldBack, s.store.cleanWait, rfl⟩

theorem streamWork_reply (kind tag : Nat) (st : Status) (data : List Byte) (s : State) : StreamWork s (reply kind tag st data s) :=
  ⟨s.catalog, _, s.store.units, s.store.arbiter, s.store.heldBack, s.store.cleanWait, rfl⟩

theorem streamWork_notice (kind : Nat) (payload : List Byte) (s : State) : StreamWork s (notice kind payload s) :=
  ⟨s.catalog, _, s.store.units, s.store.arbiter, s.store.heldBack, s.store.cleanWait, notice_eq_setLink kind payload s⟩

theorem streamWork_place (purpose : Purpose) (cls : OpClass) (op : StoreOp) (s : State) :
    StreamWork s (s.setStore (s.store.place purpose cls op)) := by
  obtain ⟨a, h, hp⟩ := Store.place_frame purpose cls op s.store
  exact ⟨s.catalog, s.link, s.store.units, a, h, s.store.cleanWait, by rw [hp]; rfl⟩

/-! ### An intake that fails with the port free (R119) -/

/-- A record settled with the port free: units lose holders (R106). -/
theorem settleRecord_free (uid : Nat) {s : State} (hp : s.store.port = none) : ∃ pool retiring units, settleRecord uid s =
    { s with catalog := { s.catalog with pool := pool, retiring := retiring }, store := { s.store with units := units } } ∧
      s.store.KeepsStates { s.store with units := units } := by
  have hsame : ∃ pool retiring units, s =
      { s with catalog := { s.catalog with pool := pool, retiring := retiring }, store := { s.store with units := units } } ∧
        s.store.KeepsStates { s.store with units := units } := ⟨_, _, s.store.units, rfl, Store.keepsStates_of_units rfl⟩
  cases hr : s.catalog.record uid with
  | none => rwa [settleRecord_none hr]
  | some a =>
    rcases settleRecord_cases hr with ⟨-, h⟩ | ⟨-, -, -, -, h⟩ | ⟨-, -, h⟩
    · obtain ⟨units, hu, -⟩ := Store.releaseHolders_frame (s.store.unitsOfAsset a) s.store
      have hkeep := Store.keepsStates_releaseHolders (s.store.unitsOfAsset a) s.store
      rw [hu] at hkeep
      refine ⟨s.catalog.pool.filter (·.uid != uid), s.catalog.retiring.filter (· != uid), units, ?_, hkeep⟩
      rw [h, removeRecord, hr]
      simp [hp, hu]
    · rw [h]
      exact ⟨s.catalog.pool, _, s.store.units, rfl, Store.keepsStates_of_units rfl⟩
    · rwa [h]

theorem dropIntake_free {s : State} (hp : s.store.port = none) :
    ∃ pool retiring units arbiter heldBack cleanWait, dropIntake s = { s with
      catalog := { s.catalog with pool := pool, retiring := retiring }
      store := { s.store with units := units, arbiter := arbiter, heldBack := heldBack, cleanWait := cleanWait } } ∧
      s.store.KeepsStates { s.store with units := units } := by
  obtain ⟨pool, retiring, units, h, hk⟩ := settleRecord_free s.catalog.intake.record
    (s := s.setCatalog (s.catalog.modify s.catalog.intake.record fun a => { a with inStaged := false })) hp
  obtain ⟨a, b, w, p, hab, hport⟩ := Store.abandonStream_frame .intake { s.store with units := units }
  have hsame : p = s.store.port := (hport.2 hp).trans hp.symm
  subst hsame
  refine ⟨pool, retiring, units, a, b, w, ?_, hk⟩
  rw [dropIntake, dropStaged, h]
  exact congrArg (State.setStore _) hab

/-- The intake once it has failed (R119). -/
def Intake.afterFailure (status : Status) (k : Intake) : Intake :=
  if k.state = .finishing then {} else { state := .failed, key := k.key, failure := status }

/-- The Link once the intake has failed: the reply of a FINISHING intake is sent (R119). -/
def Intake.failureTold (status : Status) (k : Intake) (l : Link) : Link :=
  if k.state = .finishing then l.fillPlace (replyMsg 0x1E k.tag status [] .nothing) else l

theorem failIntake_free {s : State} (status : Status) (hp : s.store.port = none)
    (hi : s.catalog.intake.state = .open ∨ s.catalog.intake.state = .finishing) :
    ∃ pool retiring units arbiter heldBack cleanWait, failIntake status s = { s with
      catalog := { s.catalog with pool := pool, retiring := retiring, intake := s.catalog.intake.afterFailure status }
      link := s.catalog.intake.failureTold status s.link
      store := { s.store with units := units, arbiter := arbiter, heldBack := heldBack, cleanWait := cleanWait } } ∧
      s.store.KeepsStates { s.store with units := units } ∧
      ∀ b ∈ pool, b.uid = s.catalog.intake.record → b.inStaged = false := by
  obtain ⟨pool, retiring, units, arbiter, heldBack, cleanWait, h, hk⟩ := dropIntake_free hp
  have hpool := fun b => dropIntake_unstaged s (b := b)
  rw [h] at hpool
  refine ⟨pool, retiring, units, arbiter, heldBack, cleanWait, ?_, hk, hpool⟩
  rcases hi with hi | hi <;> simp only [failIntake, hi, h, Intake.afterFailure, Intake.failureTold] <;> rfl

theorem failIntake_idle {s : State} (status : Status) (hi : s.catalog.intakeBusy = false) : failIntake status s = s := by
  cases hk : s.catalog.intake.state <;> simp [Catalog.intakeBusy, hk] at hi <;> simp [failIntake, hk]

theorem streamWork_failIntake {s : State} (status : Status) (hp : s.store.port = none) : StreamWork s (failIntake status s) := by
  cases hb : s.catalog.intakeBusy with
  | false => rw [failIntake_idle status hb]; exact StreamWork.refl s
  | true =>
    obtain ⟨_, _, units, arbiter, heldBack, cleanWait, h, -⟩ :=
      failIntake_free status hp (by simpa [Catalog.intakeBusy] using hb)
    exact ⟨_, _, units, arbiter, heldBack, cleanWait, h⟩

/-! ### The fill unit (R132, R139) -/

theorem sealFill_spec {s : State} {f : PagePos} (hf : s.store.fillUnit = some f) : ∃ units,
    sealFill s = s.setStore { s.store with units := units, fillUnit := if f.page < s.store.pagesPerUnit then some f else none } ∧
      (f.page < s.store.pagesPerUnit → units = s.store.units) := by
  by_cases h : f.page < s.store.pagesPerUnit
  · refine ⟨s.store.units, ?_, fun _ => rfl⟩
    simp only [sealFill, hf, if_neg (Nat.not_le.2 h), if_pos h]
    rw [← hf]
    rfl
  · refine ⟨(s.store.modifyUnit f.unit fun r => { r with state := if 1 ≤ r.holders then .sealed else .freeDirty }).units, ?_,
      fun h' => absurd h' h⟩
    simp only [sealFill, hf, if_pos (Nat.not_lt.1 h), if_neg h]
    rfl

/-! ### Extents (R116) -/

theorem runPages_append (rs ts : List Run) : runPages (rs ++ ts) = runPages rs ++ runPages ts := List.flatMap_append

/-- A page that follows the last run lengthens it; any other begins a run (R116). -/
theorem appendPage_follows {rs : List Run} {r : Run} {page : Nat} (hr : rs.getLast? = some r) (h : r.first + r.count = page) :
    appendPage rs page = rs.dropLast ++ [⟨r.first, r.count + 1⟩] := by
  simp only [appendPage, hr, if_pos h]

theorem appendPage_begins {rs : List Run} {page : Nat} (h : ¬ ∃ r, rs.getLast? = some r ∧ r.first + r.count = page) :
    appendPage rs page = rs ++ [⟨page, 1⟩] := by
  unfold appendPage
  cases hr : rs.getLast? with
  | none => rw [List.getLast?_eq_none_iff.1 hr]; rfl
  | some r => exact if_neg fun hp => h ⟨r, hr, hp⟩

theorem runPages_appendPage (rs : List Run) (page : Nat) : runPages (appendPage rs page) = runPages rs ++ [page] := by
  by_cases h : ∃ r, rs.getLast? = some r ∧ r.first + r.count = page
  · obtain ⟨r, hr, hp⟩ := h
    rw [appendPage_follows hr hp]
    conv_rhs => rw [← List.dropLast_append_getLast? r hr]
    rw [runPages_append, runPages_append, List.append_assoc]
    simp [runPages, List.range'_concat, hp]
  · rw [appendPage_begins h, runPages_append]
    simp [runPages]

theorem appendPage_length (rs : List Run) (page : Nat) : (∃ r, rs.getLast? = some r ∧ r.first + r.count = page) ∧
    (appendPage rs page).length = rs.length ∨
    (¬ ∃ r, rs.getLast? = some r ∧ r.first + r.count = page) ∧ (appendPage rs page).length = rs.length + 1 := by
  by_cases h : ∃ r, rs.getLast? = some r ∧ r.first + r.count = page
  · obtain ⟨r, hr, hp⟩ := h
    have hne : rs ≠ [] := fun hnil => by rw [hnil] at hr; cases hr
    refine .inl ⟨⟨r, hr, hp⟩, ?_⟩
    rw [appendPage_follows hr hp, List.length_append, List.length_dropLast, List.length_singleton,
      Nat.sub_add_cancel (List.length_pos_of_ne_nil hne)]
  · exact .inr ⟨h, by rw [appendPage_begins h]; simp⟩

/-- The runs have the page's unit once the page has joined them (R131). -/
theorem unit_mem_appendPage (ppu : Nat) (rs : List Run) (page : Nat) : page / ppu ∈ unitsOfRuns ppu (appendPage rs page) := by
  obtain ⟨init, r, happend, hle, hlast⟩ : ∃ init r, appendPage rs page = init ++ [r] ∧ r.first ≤ page ∧ r.first + r.count - 1 = page := by
    by_cases h : ∃ r, rs.getLast? = some r ∧ r.first + r.count = page
    · obtain ⟨r, hr, hp⟩ := h
      exact ⟨_, _, appendPage_follows hr hp, by dsimp only; omega, by dsimp only; omega⟩
    · exact ⟨_, _, appendPage_begins h, Nat.le_refl page, by dsimp only; omega⟩
  rw [unitsOfRuns, List.mem_dedup, happend, List.flatMap_append, List.mem_append]
  have hdiv : r.first / ppu ≤ page / ppu := Nat.div_le_div_right hle
  refine .inr ?_
  rw [List.flatMap_singleton, List.mem_range'_1, hlast]
  omega

theorem unitsOfRuns_nodup (ppu : Nat) (rs : List Run) : (unitsOfRuns ppu rs).Nodup := List.nodup_dedup _

/-! ### A record's extents and holders (R116, R132) -/

theorem Store.addHolders_units (us : List Nat) (st : Store) (k : Nat) :
    (st.addHolders us).units[k]? = (st.units[k]?).map (UnitRec.addHolder^[us.count k]) :=
  Store.foldl_modifyUnit_units _ us st k

theorem setExtents_eq (uid : Nat) (old new : List Run) (s : State) : ∃ units, setExtents uid old new s = { s with
    catalog := s.catalog.modify uid fun a => { a with extents := new }
    store := { s.store with units := units } } ∧
    ∀ k, units[k]? = ((s.store.units[k]?).map (UnitRec.addHolder^[((unitsOfRuns s.store.pagesPerUnit new).filter
        (· ∉ unitsOfRuns s.store.pagesPerUnit old)).count k])).map (UnitRec.release^[((unitsOfRuns s.store.pagesPerUnit old).filter
        (· ∉ unitsOfRuns s.store.pagesPerUnit new)).count k]) := by
  let is := (unitsOfRuns s.store.pagesPerUnit new).filter (· ∉ unitsOfRuns s.store.pagesPerUnit old)
  let was := (unitsOfRuns s.store.pagesPerUnit old).filter (· ∉ unitsOfRuns s.store.pagesPerUnit new)
  obtain ⟨u, hu, -⟩ := s.store.addHolders_frame is
  obtain ⟨v, hv, -⟩ := (s.store.addHolders is).releaseHolders_frame was
  refine ⟨v, ?_, fun k => ?_⟩
  · have hstore : (s.store.addHolders is).releaseHolders was = { s.store with units := v } := by rw [hv, hu]
    simp only [setExtents]
    rw [show ((s.store.addHolders _).releaseHolders _) = { s.store with units := v } from hstore]
    rfl
  · rw [← Store.addHolders_units, ← Store.releaseHolders_units]
    exact congrArg (·.units[k]?) hv.symm

end Sys2Proof.Machine
end

section
/-!
A page of the intake programmed and verified (R116 to R118, R139): it is entered in the record's extents, and the intake goes on, fails
with EXTENT_LIMIT, or is judged; for the statements of O37 and O32.
-/

namespace Sys2Proof.Machine

open Sys2Proof

/-! ### The header test of a kind (R118, R201) -/

theorem headOf_still_iff (head : List Byte) (n : Nat) (d : ClipDesc) : headOf .still head n = some d ↔
    8 ≤ head.length ∧ fieldAt head 0 1 = 1 ∧ fieldAt head 1 1 = 0 ∧ fieldAt head 6 2 = 0 ∧
      d = { width := fieldAt head 2 2, height := fieldAt head 4 2 } ∧ 16 ≤ d.width ∧ d.width ≤ 240 ∧ 16 ≤ d.height ∧
      d.height ≤ 360 := by
  simp only [headOf, stillHead, Option.ite_none_right_eq_some, Option.some.injEq]
  constructor
  · rintro ⟨⟨h0, h1, h6, hl, hw, hw', hh, hh'⟩, rfl⟩
    exact ⟨hl, h0, h1, h6, rfl, hw, hw', hh, hh'⟩
  · rintro ⟨hl, h0, h1, h6, rfl, hw, hw', hh, hh'⟩
    exact ⟨⟨h0, h1, h6, hl, hw, hw', hh, hh'⟩, rfl⟩

theorem headOf_clip_iff (head : List Byte) (n : Nat) (d : ClipDesc) : headOf .clip head n = some d ↔
    12 ≤ head.length ∧ fieldAt head 0 1 = 2 ∧ fieldAt head 1 1 = 0 ∧ fieldAt head 10 2 = 0 ∧
      d = ⟨fieldAt head 2 2, fieldAt head 4 2, fieldAt head 6 2, fieldAt head 8 2⟩ ∧ 16 ≤ d.width ∧ d.width ≤ 960 ∧
      16 ≤ d.height ∧ d.height ≤ 540 ∧ 1500 ≤ d.period ∧ d.period ≤ 9000 ∧ 1 ≤ d.units ∧ d.units ≤ 8192 ∧
      12 + 10 * d.units ≤ n := by
  simp only [headOf, clipHead, Option.ite_none_right_eq_some, Option.some.injEq]
  constructor
  · rintro ⟨⟨h0, h1, h10, hl, hrest⟩, rfl⟩
    exact ⟨hl, h0, h1, h10, rfl, hrest⟩
  · rintro ⟨hl, h0, h1, h10, rfl, hrest⟩
    exact ⟨⟨h0, h1, h10, hl, hrest⟩, rfl⟩

theorem glyphHeadOk_iff (head : List Byte) : glyphHeadOk head = true ↔ 8 ≤ head.length ∧ fieldAt head 0 1 = 3 ∧
    fieldAt head 1 1 = 0 ∧ fieldAt head 2 2 = 256 ∧ fieldAt head 4 1 = 16 ∧ fieldAt head 5 1 = 24 ∧ fieldAt head 6 2 = 0 := by
  simp [glyphHeadOk, and_assoc]

theorem headOf_glyphs_iff (head : List Byte) (n : Nat) (d : ClipDesc) : headOf .glyphs head n = some d ↔
    8 ≤ head.length ∧ fieldAt head 0 1 = 3 ∧ fieldAt head 1 1 = 0 ∧ fieldAt head 2 2 = 256 ∧
      fieldAt head 4 1 = 16 ∧ fieldAt head 5 1 = 24 ∧ fieldAt head 6 2 = 0 ∧ n = 8 + 256 * 384 ∧ d = {} := by
  simp only [headOf, Option.ite_none_right_eq_some, Option.some.injEq, glyphHeadOk_iff, glyphSetLength, and_assoc, eq_comm (b := d)]

/-! ### The judgement of a finished intake (R118) -/

/-- The catalog after an intake's judgement: the intake is over, and its record has changed (R118). -/
def Catalog.judged (uid : Nat) (f : Asset → Asset) (c : Catalog) : Catalog := { c with intake := {} }.modify uid f

section Judge

variable {s : State} {a : Asset} (ha : s.catalog.record s.catalog.intake.record = some a)
include ha

theorem judgeIntake_badCheck (hc : crc32Final s.catalog.intake.crc ≠ a.check) : judgeIntake s =
    reply 0x1E s.catalog.intake.tag .checkMismatch []
      (s.setCatalog (s.catalog.judged a.uid fun a => { a with state := .badCheck })) := by
  simp only [judgeIntake, ha, if_pos hc]
  rfl

variable (hc : crc32Final s.catalog.intake.crc = a.check)
include hc

theorem judgeIntake_badFormat (hd : headOf a.kind s.catalog.intake.head a.length = none) : judgeIntake s =
    reply 0x1E s.catalog.intake.tag .badFormat []
      (s.setCatalog (s.catalog.judged a.uid fun a => { a with state := .badFormat })) := by
  simp only [judgeIntake, ha, if_neg (not_not.2 hc), hd]
  rfl

theorem judgeIntake_complete {d : ClipDesc} (hd : headOf a.kind s.catalog.intake.head a.length = some d) : judgeIntake s =
    reply 0x1E s.catalog.intake.tag .ok (beBytes 4 a.key ++ [byteOf a.extents.length])
      (s.setCatalog (s.catalog.judged a.uid fun a => { a with state := .complete, desc := d })) := by
  simp only [judgeIntake, ha, if_neg (not_not.2 hc), hd]
  rfl

end Judge

theorem Catalog.judged_record {uid : Nat} {c : Catalog} {a : Asset} {f : Asset → Asset} (ha : c.record uid = some a)
    (hf : ∀ a, (f a).uid = a.uid) : (c.judged uid f).record uid = some (f a) := by
  rw [Catalog.judged, Catalog.record_modify uid f _ hf]
  exact congrArg (Option.map f) ha

theorem streamWork_judgeIntake (s : State) : StreamWork s (judgeIntake s) := by
  cases ha : s.catalog.record s.catalog.intake.record with
  | none =>
    simp only [judgeIntake, ha]
    exact StreamWork.refl s
  | some a =>
    by_cases hc : crc32Final s.catalog.intake.crc = a.check
    · cases hd : headOf a.kind s.catalog.intake.head a.length with
      | none =>
        rw [judgeIntake_badFormat ha hc hd]
        exact (streamWork_setCatalog _ s).trans (streamWork_reply _ _ _ _ _)
      | some d =>
        rw [judgeIntake_complete ha hc hd]
        exact (streamWork_setCatalog _ s).trans (streamWork_reply _ _ _ _ _)
    · rw [judgeIntake_badCheck ha hc]
      exact (streamWork_setCatalog _ s).trans (streamWork_reply _ _ _ _ _)

/-! ### INTAKE_OPEN and the next page (R116, R117) -/

theorem intakeOpenTest_opens {s : State} (hr : s.catalog.intake.refused = true) (hb : s.catalog.intake.buffer.length ≤ 16384) :
    intakeOpenTest s = notice 0xE1 (beBytes 4 s.catalog.intake.key ++ beBytes 4 s.catalog.intake.buffer.length)
      (s.setIntake { s.catalog.intake with refused := false }) := by
  simp only [intakeOpenTest, if_pos (And.intro hr hb)]

theorem intakeOpenTest_quiet {s : State} (h : s.catalog.intake.refused = false ∨ 16384 < s.catalog.intake.buffer.length) :
    intakeOpenTest s = s := by
  rw [intakeOpenTest]
  refine if_neg fun h' => ?_
  rcases h with h | h
  · rw [h] at h'
    exact Bool.false_ne_true h'.1
  · omega

theorem streamWork_intakeOpenTest (s : State) : StreamWork s (intakeOpenTest s) := by
  unfold intakeOpenTest
  dsimp only
  split
  · exact (streamWork_setCatalog _ s).trans (streamWork_notice _ _ _)
  · exact StreamWork.refl s

/-- INTAKE_OPEN changes the intake's refusal mark alone in the Catalog (R117). -/
theorem intakeOpenTest_catalog (s : State) : ∃ r, (intakeOpenTest s).catalog = { s.catalog with
    intake := { s.catalog.intake with refused := r } } := by
  unfold intakeOpenTest
  dsimp only
  split
  · exact ⟨false, by rw [notice_catalog]; rfl⟩
  · exact ⟨s.catalog.intake.refused, rfl⟩

@[simp] theorem intakeOpenTest_store (s : State) : (intakeOpenTest s).store = s.store := by
  unfold intakeOpenTest
  dsimp only
  split
  · rw [notice_store]
    rfl
  · rfl

theorem streamWork_intakeAsk (s : State) : StreamWork s (intakeAsk s) := by
  cases h : s.catalog.intake.pageDue with
  | false => rw [intakeAsk_of_not_due h]; exact StreamWork.refl s
  | true =>
    rw [intakeAsk, if_pos h]
    exact (streamWork_setCatalog _ s).trans (streamWork_place _ _ _ _)

/-! ### A page entered (R116, R132) -/

/-- The page's 4,096 bytes have left the buffer, and the record has its new extents with the holders they need (R116, R132). -/
def State.entered (a : Asset) (new : List Run) (s : State) : State :=
  (setExtents a.uid a.extents new s).setIntake { s.catalog.intake with buffer := s.catalog.intake.buffer.drop 4096, writer := {} }

theorem streamWork_entered (a : Asset) (new : List Run) (s : State) : StreamWork s (s.entered a new) := by
  obtain ⟨units, h, -⟩ := setExtents_eq a.uid a.extents new s
  rw [State.entered, h]
  exact ⟨_, s.link, units, s.store.arbiter, s.store.heldBack, s.store.cleanWait, rfl⟩

theorem State.entered_record {a : Asset} {s : State} (new : List Run) (ha : s.catalog.record a.uid = some a) :
    (s.entered a new).catalog.record a.uid = some { a with extents := new } := by
  have h := Catalog.record_modify a.uid (fun a => { a with extents := new }) s.catalog fun _ => rfl
  rw [ha] at h
  exact h

theorem enterPage_goesOn {s : State} {a : Asset} {page : Nat} (ha : s.catalog.record s.catalog.intake.record = some a)
    (hn : (extentsWith a.extents s.catalog.intake.writer.reloc page).length ≤ 16)
    (hk : ¬ (s.catalog.intake.state = .finishing ∧ s.catalog.intake.buffer.drop 4096 = [])) : enterPage page s =
      intakeAsk (intakeOpenTest (s.entered a (extentsWith a.extents s.catalog.intake.writer.reloc page))) := by
  simp only [enterPage, ha, if_neg (Nat.not_lt.2 hn), if_neg hk]
  rfl

theorem enterPage_ends {s : State} {a : Asset} {page : Nat} (ha : s.catalog.record s.catalog.intake.record = some a)
    (hn : (extentsWith a.extents s.catalog.intake.writer.reloc page).length ≤ 16)
    (hk : s.catalog.intake.state = .finishing ∧ s.catalog.intake.buffer.drop 4096 = []) : enterPage page s =
      judgeIntake (s.entered a (extentsWith a.extents s.catalog.intake.writer.reloc page)) := by
  simp only [enterPage, ha, if_neg (Nat.not_lt.2 hn), if_pos hk]
  rfl

theorem enterPage_tooMany {s : State} {a : Asset} {page : Nat} (ha : s.catalog.record s.catalog.intake.record = some a)
    (hn : 16 < (extentsWith a.extents s.catalog.intake.writer.reloc page).length) :
    enterPage page s = failIntake .extentLimit s := by
  simp only [enterPage, ha, if_pos hn]

theorem streamWork_enterPage (page : Nat) {s : State} (hp : s.store.port = none) : StreamWork s (enterPage page s) := by
  cases ha : s.catalog.record s.catalog.intake.record with
  | none =>
    simp only [enterPage, ha]
    exact StreamWork.refl s
  | some a =>
    by_cases hn : 16 < (extentsWith a.extents s.catalog.intake.writer.reloc page).length
    · rw [enterPage_tooMany ha hn]
      exact streamWork_failIntake _ hp
    · by_cases hk : s.catalog.intake.state = .finishing ∧ s.catalog.intake.buffer.drop 4096 = []
      · rw [enterPage_ends ha (Nat.not_lt.1 hn) hk]
        exact (streamWork_entered _ _ s).trans (streamWork_judgeIntake _)
      · rw [enterPage_goesOn ha (Nat.not_lt.1 hn) hk]
        exact (streamWork_entered _ _ s).trans ((streamWork_intakeOpenTest _).trans (streamWork_intakeAsk _))

/-! ### The event (R139, R148) -/

/-- The state in which the verified page of the intake is entered: the port free, the fill unit's next page moved on (R139). -/
def State.programmed (f : PagePos) (s : State) : State :=
  s.setStore { s.store with port := none, fillUnit := some ⟨f.unit, f.page + 1⟩ }

section Event

variable {s : State} {p : PortOp} {data : List Byte}
  (hl : s.power.resetLow = false) (hp : s.store.port = some p) (hop : p.op = .pageProgram data)
include hl hp hop

theorem exec_pageProgramDone_intake (outcome : ProgramOutcome) (hpurpose : p.purpose = .intakePage) :
    exec (.pageProgramDone outcome) s =
      .next ((eraserStep (mountIfWaiting (assetProgramEnd (outcome == .pass) p (portEnd s)))).seenSince s) := by
  have hstep : pageProgramDoneStep outcome s =
      eraserStep (mountIfWaiting (assetProgramEnd (outcome == .pass) p (portEnd s))) := by
    simp only [pageProgramDoneStep, hp, hop, hpurpose]
  rw [← hstep]
  exact live_of_live hl

end Event

section Passed

variable {s u : State} {f : PagePos} (hm : s.store.mount = .none) (hw : StreamWork (s.programmed f) u)
include hm hw

omit hm in
theorem StreamWork.programmed_fillUnit : u.store.fillUnit = some ⟨f.unit, f.page + 1⟩ := by
  obtain ⟨_, _, _, _, _, _, rfl⟩ := hw
  rfl

theorem StreamWork.sealed_mount : (sealFill u).store.mount = .none := by
  obtain ⟨units, h, -⟩ := sealFill_spec hw.programmed_fillUnit
  rw [h]
  obtain ⟨_, _, _, _, _, _, rfl⟩ := hw
  exact hm

/-- What a passed program of the intake leaves beside what entering its page has done (R132, R139, R143). -/
theorem programEnd_passes :
    let t := (eraserStep (mountIfWaiting (sealFill u))).seenSince s
    t.store.port = none ∧
      t.store.fillUnit = (if f.page + 1 < s.store.pagesPerUnit then some ⟨f.unit, f.page + 1⟩ else none) ∧
      t.plans = s.plans ∧ t.cache = s.cache ∧ t.lanes = s.lanes ∧ t.catalog = u.catalog ∧ t.link = u.link ∧
      (∃ more, t.store.arbiter = u.store.arbiter ++ more) ∧
      (f.page + 1 < s.store.pagesPerUnit → ∀ (k : Nat) (e : UnitRec), u.store.units[k]? = some e → e.state ≠ .freeDirty →
        t.store.units[k]? = some e) := by
  intro t
  have hend : eraserStep (mountIfWaiting (sealFill u)) = (sealFill u).setStore (sealFill u).store.eraser :=
    stepEnd_eq (hw.sealed_mount hm)
  obtain ⟨units, hseal, hunits⟩ := sealFill_spec hw.programmed_fillUnit
  obtain ⟨more, _, harbiter, -⟩ := Store.eraser_waiting (sealFill u).store
  rw [hseal] at harbiter
  simp only [t, State.seenSince_catalog, State.seenSince_store, State.seenSince_link, State.seenSince_plans,
    State.seenSince_cache, State.seenSince_lanes]
  rw [hend, hseal]
  obtain ⟨_, _, _, _, _, _, rfl⟩ := hw
  refine ⟨Store.eraser_port _, Store.eraser_fillUnit _, rfl, rfl, rfl, rfl, rfl, ⟨more, harbiter⟩, fun hpage k e he hd => ?_⟩
  refine Store.eraser_keeps _ ?_ hd
  exact (congrArg (·[k]?) (hunits hpage)).trans he

end Passed

end Sys2Proof.Machine
end

section
/-!
A page program of the intake that passes, from the event to the state it leaves, and the statement of O37.
-/

namespace Sys2Proof.Machine

open Sys2Proof

/-! ### The intake goes on after a page (R116, R117) -/

section GoesOn

variable {e : State} (hport : e.store.port = none) (hw : e.catalog.intake.writer = {})

/-- After a page the intake tells the host that it is open again where that is due, and asks for the next page where one is due. -/
theorem intake_goesOn_keeps :
    let u := intakeAsk (intakeOpenTest e)
    u.catalog.pool = e.catalog.pool ∧ u.catalog.intake.state = e.catalog.intake.state ∧
      u.catalog.intake.buffer = e.catalog.intake.buffer ∧ u.store.units = e.store.units ∧
      u.catalog.intake.refused = (intakeOpenTest e).catalog.intake.refused ∧ u.link = (intakeOpenTest e).link := by
  intro u
  obtain ⟨r, hcatalog⟩ := intakeOpenTest_catalog e
  obtain ⟨w, st, hframe⟩ := intakeAsk_frame (intakeOpenTest e)
  have hunits : st.units = e.store.units := by
    have hstore : st = (intakeAsk (intakeOpenTest e)).store := by rw [hframe]
    rw [hstore]
    cases hdue : (intakeOpenTest e).catalog.intake.pageDue with
    | false => rw [intakeAsk_of_not_due hdue, intakeOpenTest_store]
    | true =>
      obtain ⟨_, _, hplace⟩ := Store.place_frame .intakePage .write
        (.pageProgram (intakePage (intakeOpenTest e).catalog.intake.buffer)) e.store
      rw [intakeAsk_of_due hdue, intakeOpenTest_store, hplace]
  simp only [u, hframe, hcatalog, hunits, and_self]

include hport hw in
theorem intake_goesOn_asks (hbusy : e.catalog.intake.state = .open ∨ e.catalog.intake.state = .finishing)
    (hk : e.catalog.intake.buffer ≠ [])
    (hdue : 4096 ≤ e.catalog.intake.buffer.length ∨ e.catalog.intake.state = .finishing) :
    let u := intakeAsk (intakeOpenTest e)
    u.catalog.intake.writer = { outstanding := true } ∧ u.store.arbiter = e.store.arbiter ++
      [{ purpose := .intakePage, cls := .write, passed := 0, op := .pageProgram (intakePage e.catalog.intake.buffer) }] := by
  obtain ⟨r, hcatalog⟩ := intakeOpenTest_catalog e
  have hpage : (intakeOpenTest e).catalog.intake.pageDue = true := by
    rw [hcatalog]
    exact (Intake.pageDue_iff (k := { e.catalog.intake with refused := r }) hbusy hk).2 ⟨congrArg (·.outstanding) hw, hdue⟩
  intro u
  have hu : u = _ := intakeAsk_of_due hpage
  rw [intakeOpenTest_store, Store.place_of_free hport, hcatalog] at hu
  rw [hu]
  exact ⟨rfl, rfl⟩

end GoesOn

/-! ### A page entered, in each of its ends -/

section Entered

variable {s : State} {a : Asset} {new : List Run}

theorem State.entered_frame (a : Asset) (new : List Run) (s : State) : ∃ units, s.entered a new = { s with
    catalog := { s.catalog.modify a.uid fun a => { a with extents := new } with
      intake := { s.catalog.intake with buffer := s.catalog.intake.buffer.drop 4096, writer := {} } }
    store := { s.store with units := units } } := by
  obtain ⟨units, h, -⟩ := setExtents_eq a.uid a.extents new s
  exact ⟨units, by rw [State.entered, h]; rfl⟩

@[simp] theorem State.entered_intake : (s.entered a new).catalog.intake =
    { s.catalog.intake with buffer := s.catalog.intake.buffer.drop 4096, writer := {} } := rfl

@[simp] theorem State.entered_link : (s.entered a new).link = s.link := rfl

@[simp] theorem State.entered_port : (s.entered a new).store.port = s.store.port := by
  obtain ⟨units, h⟩ := State.entered_frame a new s
  rw [h]

@[simp] theorem State.entered_arbiter : (s.entered a new).store.arbiter = s.store.arbiter := by
  obtain ⟨units, h⟩ := State.entered_frame a new s
  rw [h]

/-- A unit of the new extents alone gains a holder, one of the old alone loses one (R116, R132); here a unit that is not SEALED. -/
theorem State.entered_unit {u : Nat} {e : UnitRec} (he : s.store.units[u]? = some e) (hs : e.state ≠ .sealed) :
    let was := unitsOfRuns s.store.pagesPerUnit a.extents
    let is := unitsOfRuns s.store.pagesPerUnit new
    (s.entered a new).store.units[u]? = some { e with
      holders := if u ∈ is ∧ u ∉ was then e.holders + 1 else if u ∈ was ∧ u ∉ is then e.holders - 1 else e.holders } := by
  intro was is
  obtain ⟨units, h, hunits⟩ := setExtents_eq a.uid a.extents new s
  have hstore : (s.entered a new).store.units = units := by rw [State.entered, h]; rfl
  rw [hstore, hunits, he]
  have hcount : ∀ l l' : List Nat, l.Nodup → (l.filter (· ∉ l')).count u = if u ∈ l ∧ u ∉ l' then 1 else 0 := fun l l' hn => by
    split
    · exact List.count_eq_one_of_mem (hn.filter _) (List.mem_filter.2 (by simpa using ‹u ∈ l ∧ u ∉ l'›))
    · rename_i hnot
      exact List.count_eq_zero.2 fun hmem => hnot (by simpa using List.mem_filter.1 hmem)
  rw [hcount _ _ (unitsOfRuns_nodup _ _), hcount _ _ (unitsOfRuns_nodup _ _)]
  by_cases hin : u ∈ is ∧ u ∉ was
  · have hout : ¬ (u ∈ was ∧ u ∉ is) := fun h => hin.2 h.1
    rw [if_pos hin, if_neg hout, if_pos hin]
    rfl
  · by_cases hout : u ∈ was ∧ u ∉ is
    · rw [if_neg hin, if_pos hout, if_neg hin, if_pos hout]
      exact congrArg some (UnitRec.release_of_not_sealed hs)
    · rw [if_neg hin, if_neg hout, if_neg hin, if_neg hout]
      rfl

end Entered

section Page

variable {s : State} {a : Asset} {page : Nat} {new : List Run} (hport : s.store.port = none)
  (ha : s.catalog.record s.catalog.intake.record = some a)
  (hnew : extentsWith a.extents s.catalog.intake.writer.reloc page = new) (hn : new.length ≤ 16)
include ha

theorem entered_own : (s.entered a new).catalog.record s.catalog.intake.record = some { a with extents := new } := by
  have huid : a.uid = s.catalog.intake.record := by simpa using List.find?_some ha
  rw [← huid] at ha ⊢
  exact State.entered_record new ha

include hnew hn

section Goes

variable (hk : ¬ (s.catalog.intake.state = .finishing ∧ s.catalog.intake.buffer.drop 4096 = []))
include hk

theorem enterPage_goesOn_eq : enterPage page s = intakeAsk (intakeOpenTest (s.entered a new)) := by
  subst hnew
  exact enterPage_goesOn ha hn hk

/-- The intake that goes on: its record has the page, its buffer has lost it, its writer has no relocation (R116). -/
theorem enterPage_goesOn_keeps :
    let u := enterPage page s
    u.catalog.record s.catalog.intake.record = some { a with extents := new } ∧
      u.catalog.intake.state = s.catalog.intake.state ∧ u.catalog.intake.buffer = s.catalog.intake.buffer.drop 4096 ∧
      u.store.units = (s.entered a new).store.units := by
  intro u
  have hu : u = _ := enterPage_goesOn_eq ha hnew hn hk
  obtain ⟨hpool, hstate, hbuffer, hunits, -⟩ := intake_goesOn_keeps (e := s.entered a new)
  rw [← hu] at hpool hstate hbuffer hunits
  refine ⟨?_, hstate, hbuffer, hunits⟩
  rw [Catalog.record, hpool]
  exact entered_own ha

theorem enterPage_goesOn_writer :
    (enterPage page s).catalog.intake.writer.reloc = none ∧ (enterPage page s).catalog.intake.writer.failures = 0 := by
  rw [enterPage_goesOn_eq ha hnew hn hk]
  obtain ⟨r, hcatalog⟩ := intakeOpenTest_catalog (s.entered a new)
  cases hdue : (intakeOpenTest (s.entered a new)).catalog.intake.pageDue with
  | false =>
    rw [intakeAsk_of_not_due hdue, hcatalog]
    exact ⟨rfl, rfl⟩
  | true =>
    rw [intakeAsk_of_due hdue]
    exact ⟨rfl, rfl⟩

include hport in
theorem enterPage_goesOn_asks (hbusy : s.catalog.intake.state = .open ∨ s.catalog.intake.state = .finishing)
    (hdue : 4096 ≤ (s.catalog.intake.buffer.drop 4096).length ∨ s.catalog.intake.state = .finishing) :
    let u := enterPage page s
    u.catalog.intake.writer = { outstanding := true } ∧ u.store.arbiter = s.store.arbiter ++
      [{ purpose := .intakePage, cls := .write, passed := 0
         op := .pageProgram (intakePage (s.catalog.intake.buffer.drop 4096)) }] := by
  intro u
  have hu : u = _ := enterPage_goesOn_eq ha hnew hn hk
  have hne : s.catalog.intake.buffer.drop 4096 ≠ [] := fun hnil => by
    rcases hdue with hdue | hdue
    · rw [hnil] at hdue
      exact absurd hdue (by decide)
    · exact hk ⟨hdue, hnil⟩
  obtain ⟨hwriter, harbiter⟩ := intake_goesOn_asks (e := s.entered a new) (by rw [State.entered_port, hport]) rfl hbusy hne hdue
  rw [hu]
  exact ⟨hwriter, by rw [harbiter, State.entered_arbiter, State.entered_intake]⟩

theorem enterPage_goesOn_opens (hr : s.catalog.intake.refused = true) (hb : (s.catalog.intake.buffer.drop 4096).length ≤ 16384) :
    let u := enterPage page s
    u.catalog.intake.refused = false ∧
      u.link = (notice 0xE1 (beBytes 4 s.catalog.intake.key ++ beBytes 4 (s.catalog.intake.buffer.drop 4096).length) s).link := by
  intro u
  have hu : u = _ := enterPage_goesOn_eq ha hnew hn hk
  obtain ⟨-, -, -, -, hrefused, hlink⟩ := intake_goesOn_keeps (e := s.entered a new)
  rw [← hu, intakeOpenTest_opens (s := s.entered a new) hr hb] at hrefused hlink
  exact ⟨by rw [hrefused, notice_catalog]; rfl, by rw [hlink]; exact notice_link_congr _ _ rfl⟩

theorem enterPage_goesOn_quiet (h : s.catalog.intake.refused = false ∨ 16384 < (s.catalog.intake.buffer.drop 4096).length) :
    let u := enterPage page s
    u.catalog.intake.refused = s.catalog.intake.refused ∧ u.link = s.link := by
  intro u
  have hu : u = _ := enterPage_goesOn_eq ha hnew hn hk
  obtain ⟨-, -, -, -, hrefused, hlink⟩ := intake_goesOn_keeps (e := s.entered a new)
  rw [← hu, intakeOpenTest_quiet (s := s.entered a new) h] at hrefused hlink
  exact ⟨hrefused, hlink⟩

end Goes

section Ends

variable (hk : s.catalog.intake.state = .finishing ∧ s.catalog.intake.buffer.drop 4096 = [])
include hk

theorem enterPage_ends_eq : enterPage page s = judgeIntake (s.entered a new) := by
  subst hnew
  exact enterPage_ends ha hn hk

/-- The intake that is judged: its record has the page and the judgement, the intake is over and the reply sent (R118). -/
theorem enterPage_ends_spec : ∃ b : Asset,
    let u := enterPage page s
    u.catalog.record s.catalog.intake.record = some b ∧ b.extents = new ∧ u.catalog.intake = {} ∧
      u.store.units = (s.entered a new).store.units ∧
      (crc32Final s.catalog.intake.crc ≠ a.check → b = { a with extents := new, state := .badCheck } ∧
        u.link = s.link.fillPlace (replyMsg 0x1E s.catalog.intake.tag .checkMismatch [] .nothing)) ∧
      (crc32Final s.catalog.intake.crc = a.check →
        (headOf a.kind s.catalog.intake.head a.length = none → b = { a with extents := new, state := .badFormat } ∧
          u.link = s.link.fillPlace (replyMsg 0x1E s.catalog.intake.tag .badFormat [] .nothing)) ∧
        ∀ d, headOf a.kind s.catalog.intake.head a.length = some d →
          b = { a with extents := new, state := .complete, desc := d } ∧ u.link = s.link.fillPlace
            (replyMsg 0x1E s.catalog.intake.tag .ok (beBytes 4 a.key ++ [byteOf new.length]) .nothing)) := by
  have huid : a.uid = s.catalog.intake.record := by simpa using List.find?_some ha
  have hown := entered_own (new := new) ha
  have hrecord : (s.entered a new).catalog.record a.uid = some { a with extents := new } :=
    State.entered_record new (by rw [huid]; exact ha)
  rw [enterPage_ends_eq ha hnew hn hk]
  by_cases hc : crc32Final s.catalog.intake.crc = a.check
  · cases hd : headOf a.kind s.catalog.intake.head a.length with
    | none =>
      refine ⟨{ a with extents := new, state := .badFormat }, ?_⟩
      rw [judgeIntake_badFormat hown hc hd, ← huid]
      exact ⟨Catalog.judged_record hrecord fun _ => rfl, rfl, rfl, rfl, fun h => absurd hc h, fun _ => ⟨fun _ => ⟨rfl, rfl⟩,
        fun d h => by cases h⟩⟩
    | some d =>
      refine ⟨{ a with extents := new, state := .complete, desc := d }, ?_⟩
      rw [judgeIntake_complete hown hc hd, ← huid]
      refine ⟨Catalog.judged_record hrecord fun _ => rfl, rfl, rfl, rfl, fun h => absurd hc h, fun _ => ⟨fun h => (by cases h),
        fun d' h => ?_⟩⟩
      cases h
      exact ⟨rfl, rfl⟩
  · refine ⟨{ a with extents := new, state := .badCheck }, ?_⟩
    rw [judgeIntake_badCheck hown hc, ← huid]
    exact ⟨Catalog.judged_record hrecord fun _ => rfl, rfl, rfl, rfl, fun _ => ⟨rfl, rfl⟩, fun h => absurd h hc⟩

end Ends

end Page

/-! ### The event -/

section Event

variable {s : State} {p : PortOp} {data : List Byte} {f : PagePos}
  (hl : s.power.resetLow = false) (hp : s.store.port = some p) (hpurpose : p.purpose = .intakePage)
  (hop : p.op = .pageProgram data) (ho : p.orphan = false) (hr : p.releaseReader = none) (hu : p.releaseUnits = [])
  (hh : s.store.heldBack = []) (hf : s.store.fillUnit = some f)
include hl hp hpurpose hop ho hr hu hh hf

/-- A program of the intake that passes: its writer's step, and the fill unit perhaps sealed (R139). -/
theorem exec_intakePage_streamPass : exec (.pageProgramDone .pass) s =
    .next ((eraserStep (mountIfWaiting (sealFill (streamPass false p.page (s.programmed f))))).seenSince s) := by
  have hend : assetProgramEnd true p (portEnd s) = sealFill (streamPass false p.page (s.programmed f)) := by
    have hadvance : advanceStream false (portEnd s) = s.programmed f := by
      rw [portEnd_idle hp hr hu hh]
      simp only [advanceStream, State.setStore_store, hf, State.programmed]
      rfl
    simp only [assetProgramEnd, if_true, ho, Bool.false_eq_true, if_false, hadvance]
  rw [exec_pageProgramDone_intake hl hp hop .pass hpurpose, ← hend]
  rfl

/-- With no page left to move, the page is entered (R116, R140). -/
theorem exec_intakePage_passes
    (hreloc : ∀ r, s.catalog.intake.writer.reloc = some r → r.src.length ≤ r.moved.length) :
    exec (.pageProgramDone .pass) s =
      .next ((eraserStep (mountIfWaiting (sealFill (enterPage p.page (s.programmed f))))).seenSince s) := by
  have hpass : streamPass false p.page (s.programmed f) = enterPage p.page (s.programmed f) := by
    have hwriter : (s.programmed f).writer false = s.catalog.intake.writer := rfl
    rw [streamPass, hwriter]
    cases hrel : s.catalog.intake.writer.reloc with
    | none => rfl
    | some r => exact if_neg (Nat.not_lt.2 (hreloc r hrel))
  rw [exec_intakePage_streamPass hl hp hpurpose hop ho hr hu hh hf, hpass]

/-! ### What a passed page leaves -/

variable (hm : s.store.mount = .none)
include hm

/-- What every end of a passed page of the intake has in common (R132, R139). -/
def State.pagePassed (s t : State) (f : PagePos) : Prop :=
  exec (.pageProgramDone .pass) s = .next t ∧ t.store.port = none ∧
    t.store.fillUnit = (if f.page + 1 < s.store.pagesPerUnit then some ⟨f.unit, f.page + 1⟩ else none) ∧
    t.catalog.titles = s.catalog.titles ∧ t.catalog.staged = s.catalog.staged ∧ t.plans = s.plans ∧ t.cache = s.cache ∧
    t.lanes = s.lanes

/-- The event's end state follows the state in which the page has been entered (R139, R143). -/
theorem intakePage_passes (hreloc : ∀ r, s.catalog.intake.writer.reloc = some r → r.src.length ≤ r.moved.length) :
    ∃ t, s.pagePassed t f ∧ t.catalog = (enterPage p.page (s.programmed f)).catalog ∧
      t.link = (enterPage p.page (s.programmed f)).link ∧
      (∃ more, t.store.arbiter = (enterPage p.page (s.programmed f)).store.arbiter ++ more) ∧
      (f.page + 1 < s.store.pagesPerUnit → ∀ (k : Nat) (e : UnitRec),
        (enterPage p.page (s.programmed f)).store.units[k]? = some e → e.state ≠ .freeDirty → t.store.units[k]? = some e) := by
  obtain ⟨hport, hfill, hplans, hcache, hlanes, hcatalog, hlink, harbiter, hunits⟩ :=
    programEnd_passes hm (streamWork_enterPage p.page (s := s.programmed f) rfl)
  have htables : (enterPage p.page (s.programmed f)).titleTables = s.titleTables := titleTables_enterPage (s.programmed f) p.page
  obtain ⟨htitles, hstaged⟩ := Prod.mk.inj htables
  exact ⟨_, ⟨exec_intakePage_passes hl hp hpurpose hop ho hr hu hh hf hreloc, hport, hfill, hcatalog ▸ htitles, hcatalog ▸ hstaged,
    hplans, hcache, hlanes⟩, hcatalog, hlink, harbiter, hunits⟩

variable {a : Asset} (ha : s.catalog.record s.catalog.intake.record = some a)
  (hi : s.catalog.intake.state = .open ∨ s.catalog.intake.state = .finishing)
include ha hi

/-- A page that would need a 17th extent fails the intake (R116, R119). -/
theorem intakePage_tooMany (hreloc : ∀ r, s.catalog.intake.writer.reloc = some r → r.src.length ≤ r.moved.length)
    (hn : 16 < (extentsWith a.extents s.catalog.intake.writer.reloc p.page).length) :
    ∃ t, s.pagePassed t f ∧ (∀ b ∈ t.catalog.pool, b.uid = a.uid → b.inStaged = false) ∧
      (s.catalog.intake.state = .open → t.catalog.intake.state = .failed ∧ t.catalog.intake.key = s.catalog.intake.key ∧
        t.catalog.intake.failure = .extentLimit ∧ t.catalog.intake.buffer = [] ∧ t.link = s.link) ∧
      (s.catalog.intake.state = .finishing → t.catalog.intake.state = .none ∧
        t.link = s.link.fillPlace (replyMsg 0x1E s.catalog.intake.tag .extentLimit [] .nothing)) := by
  have huid : a.uid = s.catalog.intake.record := by simpa using List.find?_some ha
  obtain ⟨t, hpass, hcatalog, hlink, -⟩ := intakePage_passes hl hp hpurpose hop ho hr hu hh hf hm hreloc
  obtain ⟨pool, retiring, units, arbiter, heldBack, cleanWait, hfail, -, hpool⟩ :=
    failIntake_free (s := s.programmed f) .extentLimit rfl hi
  rw [enterPage_tooMany (s := s.programmed f) ha hn, hfail] at hcatalog hlink
  refine ⟨t, hpass, ?_, fun hopen => ?_, fun hfin => ?_⟩
  · rw [hcatalog, huid]
    exact hpool
  · rw [hcatalog, hlink]
    simp [Intake.afterFailure, Intake.failureTold, State.programmed, hopen]
  · rw [hcatalog, hlink]
    simp [Intake.afterFailure, Intake.failureTold, State.programmed, hfin]

/-- A page within 16 extents is entered, and the intake goes on or is judged (R116 to R118, R132). -/
theorem intakePage_enters (hrel : s.catalog.intake.writer.reloc = none) {new : List Run} (hnew : appendPage a.extents p.page = new)
    (hn : new.length ≤ 16) :
    let k := s.catalog.intake
    let rest := k.buffer.drop 4096
    ∃ t b, s.pagePassed t f ∧ t.catalog.record k.record = some b ∧ b.extents = new ∧
      (f.page + 1 < s.store.pagesPerUnit → ∀ (u : Nat) (e : UnitRec), (s.programmed f).store.units[u]? = some e → e.state = .filling →
        t.store.units[u]? = ((s.programmed f).entered a new).store.units[u]?) ∧
      (k.state = .open ∨ rest ≠ [] → b = { a with extents := b.extents } ∧ t.catalog.intake.state = k.state ∧
        t.catalog.intake.buffer = rest ∧
        (4096 ≤ rest.length ∨ k.state = .finishing → t.catalog.intake.writer = { outstanding := true } ∧
          ∃ more, t.store.arbiter = s.store.arbiter ++ { purpose := .intakePage, cls := .write, passed := 0
                                                         op := .pageProgram (intakePage rest) } :: more) ∧
        (k.refused = true → rest.length ≤ 16384 → t.catalog.intake.refused = false ∧
          t.link = (notice 0xE1 (beBytes 4 k.key ++ beBytes 4 rest.length) s).link) ∧
        (k.refused = false ∨ 16384 < rest.length → t.catalog.intake.refused = k.refused ∧ t.link = s.link)) ∧
      (k.state = .finishing → rest = [] → t.catalog.intake.state = .none ∧ t.catalog.intake.buffer = [] ∧
        (crc32Final k.crc ≠ a.check → b = { a with extents := b.extents, state := .badCheck } ∧
          t.link = s.link.fillPlace (replyMsg 0x1E k.tag .checkMismatch [] .nothing)) ∧
        (crc32Final k.crc = a.check →
          (headOf a.kind k.head a.length = none → b = { a with extents := b.extents, state := .badFormat } ∧
            t.link = s.link.fillPlace (replyMsg 0x1E k.tag .badFormat [] .nothing)) ∧
          ∀ d, headOf a.kind k.head a.length = some d →
            b = { a with extents := b.extents, state := .complete, desc := d } ∧
            t.link = s.link.fillPlace (replyMsg 0x1E k.tag .ok (beBytes 4 a.key ++ [byteOf b.extents.length]) .nothing))) := by
  intro k rest
  obtain ⟨t, hpass, hcatalog, hlink, ⟨more, harbiter⟩, hunits⟩ :=
    intakePage_passes hl hp hpurpose hop ho hr hu hh hf hm fun r h => by rw [hrel] at h; cases h
  have hnew' : extentsWith a.extents (s.programmed f).catalog.intake.writer.reloc p.page = new := by
    have hnone : (s.programmed f).catalog.intake.writer.reloc = none := hrel
    rw [hnone]
    exact hnew
  have hkeep : (enterPage p.page (s.programmed f)).store.units = ((s.programmed f).entered a new).store.units →
      f.page + 1 < s.store.pagesPerUnit → ∀ (u : Nat) (e : UnitRec), (s.programmed f).store.units[u]? = some e → e.state = .filling →
        t.store.units[u]? = ((s.programmed f).entered a new).store.units[u]? := fun hsame hpage u e he hs => by
    have hunit := State.entered_unit (s := s.programmed f) (a := a) (new := new) he (by rw [hs]; decide)
    rw [hunit]
    exact hunits hpage u _ (by rw [hsame, hunit]) (by dsimp only; rw [hs]; decide)
  by_cases hk : k.state = .finishing ∧ rest = []
  · obtain ⟨b, hrecord, hext, hintake, hsame, hbad, hgood⟩ := enterPage_ends_spec (s := s.programmed f) ha hnew' hn hk
    rw [← hcatalog] at hrecord hintake
    rw [← hlink] at hbad hgood
    subst hext
    refine ⟨t, b, hpass, hrecord, rfl, hkeep hsame, fun hgo => ?_, fun _ _ => ⟨by rw [hintake], by rw [hintake], hbad, hgood⟩⟩
    rcases hgo with hgo | hgo
    · rw [hk.1] at hgo
      cases hgo
    · exact absurd hk.2 hgo
  · obtain ⟨hrecord, hstate, hbuffer, hsame⟩ := enterPage_goesOn_keeps (s := s.programmed f) ha hnew' hn hk
    have hasks := enterPage_goesOn_asks (s := s.programmed f) rfl ha hnew' hn hk hi
    have hopens := enterPage_goesOn_opens (s := s.programmed f) ha hnew' hn hk
    have hquiet := enterPage_goesOn_quiet (s := s.programmed f) ha hnew' hn hk
    dsimp only at hrecord hstate hbuffer hasks hopens hquiet
    rw [← hcatalog] at hrecord hstate hbuffer hasks hopens hquiet
    rw [← hlink] at hopens hquiet
    refine ⟨t, _, hpass, hrecord, rfl, hkeep hsame, fun _ => ⟨rfl, hstate, hbuffer, fun hdue => ?_, fun hr hb => ?_, hquiet⟩,
      fun h h' => absurd ⟨h, h'⟩ hk⟩
    · obtain ⟨hwriter, harb⟩ := hasks hdue
      refine ⟨hwriter, more, ?_⟩
      rw [harbiter, harb, List.append_assoc]
      rfl
    · obtain ⟨hrefused, hnotice⟩ := hopens hr hb
      exact ⟨hrefused, hnotice.trans (notice_link_congr _ _ rfl)⟩

end Event

/-- The fill unit, FILLING, with the page's record as its holder (R116, R131). -/
theorem entered_fillUnit {s : State} {a : Asset} {page u : Nat} {e : UnitRec} (hu : page / s.store.pagesPerUnit = u)
    (he : s.store.units[u]? = some e) (hs : e.state = .filling) :
    (s.entered a (appendPage a.extents page)).store.units[u]? =
      some (if u ∈ unitsOfRuns s.store.pagesPerUnit a.extents then e else { e with holders := e.holders + 1 }) := by
  have hmem : u ∈ unitsOfRuns s.store.pagesPerUnit (appendPage a.extents page) := hu ▸ unit_mem_appendPage _ a.extents page
  rw [State.entered_unit he (by rw [hs]; decide)]
  by_cases hwas : u ∈ unitsOfRuns s.store.pagesPerUnit a.extents
  · simp [hwas, hmem]
  · simp [hwas, hmem]

/-- Settles O37: the page of the buffer, the two requests, the header tests, and the end of a page program. -/
theorem assetDataIsTakenOrRefused : Obligations.AssetDataIsTakenOrRefused := by
  refine ⟨fun buffer => ⟨intakePage_length buffer, fun n => intakePage_getD buffer⟩, fun s tag key offset chunk h => ?_,
    fun head n d => ⟨headOf_still_iff head n d, headOf_clip_iff head n d, headOf_glyphs_iff head n d⟩, ?_⟩
  · refine ⟨exec_assetData_badParam h, fun hi => ⟨exec_assetData_notNow h hi, exec_assetAbort_notNow h hi⟩,
      fun hi hkey => ⟨exec_assetData_noSuch h hi hkey, exec_assetAbort_noSuch h hi hkey⟩,
      fun hi hkey => ⟨exec_assetData_busy h hkey hi, exec_assetAbort_busy h hkey hi⟩,
      fun hi hkey => ⟨fun hc hl => ⟨_, exec_assetData_failed h hkey hi hc hl, rfl, rfl⟩,
        _, exec_assetAbort_failed h hkey hi, rfl, rfl⟩, fun a hi hkey ha huid => ⟨?_, fun hc hl => ?_⟩⟩
    · have habort := assetAbort_accepted s tag
      rw [← huid] at habort
      exact ⟨_, exec_assetAbort h hkey hi, habort⟩
    · refine ⟨exec_assetData_outOfOrder h hkey hi ha hc hl, exec_assetData_tooLong h hkey hi ha hc hl,
        exec_assetData_intakeFull h hkey hi ha hc hl, fun ho hlen hroom => ?_⟩
      have haccepted := exec_assetData h hkey hi ha hc hl ho hlen hroom
      subst ho
      obtain ⟨hbuffer, hcrc, hrecord, hrest⟩ := chunk_accepted tag hi hc hlen (huid.symm ▸ ha)
      refine ⟨_, { a with accepted := a.accepted + chunk.length }, haccepted, hbuffer, hcrc, ?_, rfl, hrest⟩
      rw [← huid]
      exact hrecord
  · intro s p data a f hl hp hpurpose hop ho hr hu hh hm ha hrel hf hpage hi k ppu rest follows passes
    refine ⟨fun hcount => ?_, fun hfull hnot => ?_⟩
    · have hlength : (appendPage a.extents p.page).length = if follows then a.extents.length else a.extents.length + 1 := by
        rcases appendPage_length a.extents p.page with ⟨hfol, hlen⟩ | ⟨hfol, hlen⟩
        · rw [hlen, if_pos hfol]
        · rw [hlen, if_neg hfol]
      have hn : (appendPage a.extents p.page).length ≤ 16 := by
        rw [hlength]
        rcases hcount with hcount | ⟨hcount, hfol⟩
        · split <;> omega
        · rw [if_pos hfol]
          omega
      obtain ⟨t, b, hpass, hrecord, hext, hunits, hgoes, hends⟩ :=
        intakePage_enters hl hp hpurpose hop ho hr hu hh hf hm ha hi hrel rfl hn
      refine ⟨t, b, hpass, hrecord, by rw [hext, runPages_appendPage], by rw [hext, hlength], fun hmore hunit hfilling => ?_, hgoes,
        hends⟩
      obtain ⟨e, he, hs⟩ := Option.map_eq_some_iff.1 hfilling
      rw [hunits hmore f.unit e he hs, entered_fillUnit (s := s.programmed f) hunit he hs, he]
      rfl
    · refine intakePage_tooMany hl hp hpurpose hop ho hr hu hh hf hm ha hi (fun r h => by rw [hrel] at h; cases h) ?_
      rw [hrel]
      show 16 < (appendPage a.extents p.page).length
      rw [appendPage_begins hnot, List.length_append, hfull, List.length_singleton]
      omega

end Sys2Proof.Machine
end

section
/-!
Glyph reads (R108, R125): the glyph set's test, the last read of a glyph load, one that is followed by another, and one with an
unreadable page; for the statement of O32.
-/

namespace Sys2Proof.Machine

open Sys2Proof

/-! ### The state an event on the port leaves -/

/-- With no mount waiting, an event on the port leaves the Catalog and the Link as its own step did, and the store with the eraser's
turn taken (R143). -/
theorem stepEnd_spec (s : State) {u : State} (h : u.store.mount = .none) :
    let t := (eraserStep (mountIfWaiting u)).seenSince s
    t.catalog = u.catalog ∧ t.link = u.link ∧ t.store = u.store.eraser := by
  intro t
  simp only [t, stepEnd_eq h, State.seenSince_catalog, State.seenSince_link, State.seenSince_store]
  exact ⟨rfl, rfl, rfl⟩

theorem Store.eraser_of_not_online {st : Store} (h : st.state ≠ .online) : st.eraser = st := by
  unfold Store.eraser
  split
  · rename_i hon _ _
    exact absurd hon h
  · rfl

/-! ### Glyph sets -/

/-- A complete glyph set (R125, R201). -/
theorem glyphDataOk_iff (data : List Byte) : glyphDataOk data = true ↔ data.length = 98312 ∧ fieldAt data 0 1 = 3 ∧
    fieldAt data 1 1 = 0 ∧ fieldAt data 2 2 = 256 ∧ fieldAt data 4 1 = 16 ∧ fieldAt data 5 1 = 24 ∧ fieldAt data 6 2 = 0 ∧
    ∀ b ∈ data.drop 8, b.toNat ≤ 15 := by
  simp only [glyphDataOk, Bool.and_eq_true, glyphHeadOk_iff, beq_iff_eq, glyphSetLength, List.all_eq_true, decide_eq_true_eq]
  constructor
  · rintro ⟨⟨⟨-, h0, h1, h2, h4, h5, h6⟩, hl⟩, hb⟩
    exact ⟨hl, h0, h1, h2, h4, h5, h6, hb⟩
  · rintro ⟨hl, h0, h1, h2, h4, h5, h6, hb⟩
    exact ⟨⟨⟨by omega, h0, h1, h2, h4, h5, h6⟩, hl⟩, hb⟩

/-! ### The reader of a live record (R106, R107) -/

/-- A record of the live generation stays when a reader is released. -/
theorem releaseReader_live {uid : Nat} {s : State} {a : Asset} (ha : s.catalog.record uid = some a) (hlive : a.inLive = true) :
    releaseReader uid s = s.setCatalog (s.catalog.modify uid fun a => { a with readers := a.readers - 1 }) := by
  have hrecord := Catalog.record_modify uid (fun a => { a with readers := a.readers - 1 }) s.catalog fun _ => rfl
  rw [ha, Option.map_some] at hrecord
  unfold releaseReader settleRecord
  rw [State.setCatalog_catalog, hrecord]
  simp [hlive]

theorem failGlyphLoad_live {s : State} {g : GlyphLoad} {a : Asset} (hg : s.catalog.glyphLoad = some g)
    (ha : s.catalog.record g.record = some a) (hlive : a.inLive = true) : failGlyphLoad s =
      s.setCatalog { s.catalog.modify g.record (fun a => { a with readers := a.readers - 1 }) with glyphLoad := none } := by
  rw [failGlyphLoad, hg]
  exact releaseReader_live (s := s.setCatalog { s.catalog with glyphLoad := none }) ha hlive

/-! ### An unreadable page (R108) -/

section Unreadable

variable {s : State} {uid : Nat} {a : Asset}

/-- The first unreadable page stands where the pages before it end. -/
theorem findIdx?_unreadable {pre post : List PageRead} {pg : PageRead} (hpre : pre.all readable = true) (hpg : readable pg = false) :
    (pre ++ pg :: post).findIdx? (fun p => !readable p) = some pre.length := by
  have hnone : pre.findIdx? (fun p => !readable p) = none := by
    simpa [List.findIdx?_eq_none_iff] using hpre
  rw [List.findIdx?_append, hnone, List.findIdx?_cons, hpg]
  simp

/-- A read with an unreadable page leaves its record DAMAGED and tells it once, of the first such page (R108, R200). -/
theorem reportPages_damages (run : Run) {pages : List PageRead} (ha : s.catalog.record uid = some a) (hn : pages.length = run.count)
    (hbad : pages.all readable = false) :
    let u := reportPages uid run pages s
    u.catalog.record uid = some { a with damaged := true } ∧ damageTold a run pages s u ∧
      u.catalog.glyphLoad = s.catalog.glyphLoad ∧ u.catalog.glyphs = s.catalog.glyphs := by
  intro u
  obtain ⟨pre, pg, post, rfl, hpre, hpg⟩ := exists_first_unreadable hbad
  have hu : u = reportDamage uid (run.first + pre.length) s := reportPages_first ha hn hpre hpg
  have hrecord : u.catalog.record uid = some { a with damaged := true } := hu ▸ reportDamage_record ha
  refine ⟨hrecord, ?_⟩
  cases hd : a.damaged with
  | true =>
    rw [hu, reportDamage_of_damaged ha hd]
    exact ⟨⟨fun _ => rfl, fun h => by rw [hd] at h; cases h⟩, rfl, rfl⟩
  | false =>
    rw [hu, reportDamage_of_fresh ha hd]
    refine ⟨⟨fun h => (by rw [hd] at h; cases h), fun _ n hfirst => ?_⟩, by rw [notice_catalog]; rfl, by rw [notice_catalog]; rfl⟩
    rw [findIdx?_unreadable hpre hpg] at hfirst
    cases hfirst
    exact notice_link_congr _ _ rfl

end Unreadable

/-! ### The read on the port -/

section Read

variable {s : State} {p : PortOp} {run : Run} {pages : List PageRead} {g : GlyphLoad} {a : Asset}
  (hl : s.power.resetLow = false) (hp : s.store.port = some p) (ho : p.orphan = false) (hr : p.releaseReader = none)
  (hu : p.releaseUnits = []) (hh : s.store.heldBack = []) (hm : s.store.mount = .none)
  (hpurpose : p.purpose = .glyph) (hop : p.op = .pageRead run) (hn : pages.length = run.count)
  (hg : s.catalog.glyphLoad = some g) (ha : s.catalog.record g.record = some a) (hlive : a.inLive = true)

include hl hp ho hpurpose hop hn in
theorem exec_glyphReadDone : exec (.glyphReadDone pages) s =
    .next ((eraserStep (mountIfWaiting (glyphReadEnd run pages s))).seenSince s) := by
  have hstep : glyphReadDoneStep pages s = eraserStep (mountIfWaiting (glyphReadEnd run pages s)) := by
    simp [glyphReadDoneStep, hp, hop, hpurpose, hn, ho]
  rw [← hstep]
  exact live_of_live hl

section Readable

variable (hall : pages.all readable = true)
include hp hr hu hh hall

/-- Pages that can all be read free the port and report nothing (R108, R148). -/
theorem portEnd_of_readable : portEnd (reportPages g.record run pages s) = s.setStore { s.store with port := none } := by
  rw [reportPages_readable g.record run s hall, portEnd_idle hp hr hu hh]

include hg ha hlive

/-- The last read of a glyph load: glyph memory holds a valid set's coverages, and the reader is released (R125). -/
theorem glyphReadEnd_last (hrest : g.rest = []) :
    let data := (g.data ++ pages.flatMap pageBytes).take a.length
    let u := glyphReadEnd run pages s
    u.store = { s.store with port := none } ∧ u.catalog.glyphLoad = none ∧
      u.catalog.glyphs = (if glyphDataOk data then some (data.drop 8) else s.catalog.glyphs) ∧
      (u.catalog.record g.record).map (·.readers) = some (a.readers - 1) := by
  intro data u
  let v := (s.setStore { s.store with port := none }).setCatalog { s.catalog with glyphLoad := none }
  have hv : u = releaseReader g.record (if glyphDataOk data then v.setGlyphMemory (some (data.drop 8)) else v) := by
    simp only [u, glyphReadEnd, hg, portEnd_of_readable hp hr hu hh hall, hall, if_true, hrest, finishGlyphLoad]
    simp only [State.setStore_catalog, ha]
    rfl
  have hrecord := Catalog.record_modify g.record (fun a => { a with readers := a.readers - 1 }) s.catalog fun _ => rfl
  rw [ha] at hrecord
  by_cases hok : glyphDataOk data = true
  · rw [if_pos hok, releaseReader_live (a := a) (by exact ha) hlive] at hv
    rw [hv, if_pos hok]
    exact ⟨rfl, rfl, rfl, congrArg (Option.map (·.readers)) hrecord⟩
  · rw [if_neg hok, releaseReader_live (a := a) (by exact ha) hlive] at hv
    rw [hv, if_neg hok]
    exact ⟨rfl, rfl, rfl, congrArg (Option.map (·.readers)) hrecord⟩

omit ha hlive in
/-- A read that is not the last, with the store taking reads, is followed by the next in class PREFETCH (R125). -/
theorem glyphReadEnd_next {r : Run} {rest : List Run} (hrest : g.rest = r :: rest) (hreads : s.store.reads = true) :
    glyphReadEnd run pages s = (s.setCatalog { s.catalog with
      glyphLoad := some ⟨g.record, rest, g.data ++ pages.flatMap pageBytes⟩ }).setStore { s.store with
        port := none, arbiter := s.store.arbiter ++ [{ purpose := .glyph, cls := .prefetch, op := .pageRead r, passed := 0 }] } := by
  have hreads' : (s.setStore { s.store with port := none }).store.reads = true := hreads
  simp only [glyphReadEnd, hg, portEnd_of_readable hp hr hu hh hall, hall, if_true, hrest, hreads']
  simp only [State.setStore_store, State.setCatalog_store, Store.place_of_free]
  rfl

/-- Where the store takes no reads the load is over, and its reader released (R125, R147). -/
theorem glyphReadEnd_stops {r : Run} {rest : List Run} (hrest : g.rest = r :: rest) (hreads : s.store.reads = false) :
    glyphReadEnd run pages s = (s.setStore { s.store with port := none }).setCatalog
      { s.catalog.modify g.record (fun a => { a with readers := a.readers - 1 }) with glyphLoad := none } := by
  have hreads' : (s.setStore { s.store with port := none }).store.reads = false := hreads
  simp only [glyphReadEnd, hg, portEnd_of_readable hp hr hu hh hall, hall, if_true, hrest, hreads', Bool.false_eq_true, if_false]
  exact failGlyphLoad_live (s := s.setStore { s.store with port := none }) hg ha hlive

end Readable

include hp hr hu hh hn hg ha hlive in
/-- A read with an unreadable page ends the load, and its record is DAMAGED with one reader fewer (R108, R125). -/
theorem glyphReadEnd_damaged (hbad : pages.all readable = false) :
    let u := glyphReadEnd run pages s
    u.store = { s.store with port := none } ∧ u.catalog.glyphLoad = none ∧ u.catalog.glyphs = s.catalog.glyphs ∧
      damageTold a run pages s u ∧ u.catalog.record g.record = some { a with damaged := true, readers := a.readers - 1 } := by
  intro u
  obtain ⟨hrecord, htold, hload, hglyphs⟩ := reportPages_damages run ha hn hbad
  let v := (reportPages g.record run pages s).setStore { s.store with port := none }
  have hend : portEnd (reportPages g.record run pages s) = v := by
    rw [portEnd_reportPages hp hr, Store.portFreed_idle hh hu]
  have hv : u = failGlyphLoad v := by
    simp only [u, glyphReadEnd, hg, hend, hbad, Bool.false_eq_true, if_false]
  rw [failGlyphLoad_live (s := v) (hload.trans hg) hrecord hlive] at hv
  have hafter := Catalog.record_modify g.record (fun a => { a with readers := a.readers - 1 }) v.catalog fun _ => rfl
  rw [show v.catalog.record g.record = _ from hrecord] at hafter
  rw [hv]
  exact ⟨rfl, rfl, hglyphs, htold, hafter⟩

/-! ### The event (R125, R145) -/

include hl hp ho hr hu hh hm hpurpose hop hn hg ha hlive in
theorem glyphRead_last (hall : pages.all readable = true) (hrest : g.rest = []) :
    let data := (g.data ++ pages.flatMap pageBytes).take a.length
    ∃ t, exec (.glyphReadDone pages) s = .next t ∧ t.catalog.glyphLoad = none ∧
      t.catalog.glyphs = (if glyphDataOk data then some (data.drop 8) else s.catalog.glyphs) ∧
      (t.catalog.record g.record).map (·.readers) = some (a.readers - 1) := by
  obtain ⟨hstore, hspec⟩ := glyphReadEnd_last hp hr hu hh hg ha hlive hall hrest
  obtain ⟨hcatalog, -⟩ := stepEnd_spec s (u := glyphReadEnd run pages s) (by rw [hstore]; exact hm)
  exact ⟨_, exec_glyphReadDone hl hp ho hpurpose hop hn, hcatalog ▸ hspec⟩

include hl hp ho hr hu hh hm hpurpose hop hn hg ha hlive in
theorem glyphRead_more {r : Run} {rest : List Run} (hall : pages.all readable = true) (hrest : g.rest = r :: rest) :
    ((s.store.state = .online ∨ s.store.state = .readOnly) →
      ∃ t more, exec (.glyphReadDone pages) s = .next t ∧ t.store.port = none ∧ t.catalog.glyphs = s.catalog.glyphs ∧
        t.catalog.glyphLoad = some ⟨g.record, rest, g.data ++ pages.flatMap pageBytes⟩ ∧ t.catalog.pool = s.catalog.pool ∧
        t.store.arbiter = s.store.arbiter ++ { purpose := .glyph, cls := .prefetch, op := .pageRead r, passed := 0 } :: more) ∧
    (s.store.state ≠ .online → s.store.state ≠ .readOnly →
      ∃ t, exec (.glyphReadDone pages) s = .next t ∧ t.store.port = none ∧ t.catalog.glyphLoad = none ∧
        t.catalog.glyphs = s.catalog.glyphs ∧ t.catalog.record g.record = some { a with readers := a.readers - 1 } ∧
        t.store.arbiter = s.store.arbiter ∧ t.link = s.link) := by
  refine ⟨fun hon => ?_, fun hnon hnro => ?_⟩
  · have hu' := glyphReadEnd_next (run := run) hp hr hu hh hg hall hrest ((Store.reads_iff s.store).2 hon)
    obtain ⟨hcatalog, -, hstore⟩ := stepEnd_spec s (u := glyphReadEnd run pages s) (by rw [hu']; exact hm)
    obtain ⟨more, _, harbiter, -⟩ := Store.eraser_waiting (glyphReadEnd run pages s).store
    refine ⟨_, more, exec_glyphReadDone hl hp ho hpurpose hop hn, ?_, ?_, ?_, ?_, ?_⟩
    · rw [hstore, Store.eraser_port, hu']
      rfl
    · rw [hcatalog, hu']
      rfl
    · rw [hcatalog, hu']
      rfl
    · rw [hcatalog, hu']
      rfl
    · rw [hstore, harbiter, hu', State.setStore_store, List.append_assoc]
      rfl
  · have hu' := glyphReadEnd_stops (run := run) hp hr hu hh hg ha hlive hall hrest 
      (Bool.eq_false_iff.2 fun h => ((Store.reads_iff s.store).1 h).elim hnon hnro)
    obtain ⟨hcatalog, hlink, hstore⟩ := stepEnd_spec s (u := glyphReadEnd run pages s) (by rw [hu']; exact hm)
    have hafter := Catalog.record_modify g.record (fun a => { a with readers := a.readers - 1 }) s.catalog fun _ => rfl
    rw [ha] at hafter
    have hquiet : (glyphReadEnd run pages s).store.eraser = { s.store with port := none } := by
      rw [hu']
      exact Store.eraser_of_not_online hnon
    refine ⟨_, exec_glyphReadDone hl hp ho hpurpose hop hn, ?_, ?_, ?_, ?_, ?_, ?_⟩
    · rw [hstore, hquiet]
    · rw [hcatalog, hu']
      rfl
    · rw [hcatalog, hu']
      rfl
    · rw [hcatalog, hu']
      exact hafter
    · rw [hstore, hquiet]
    · rw [hlink, hu']
      rfl

include hl hp ho hr hu hh hm hpurpose hop hn hg ha hlive in
theorem glyphRead_damaged (hbad : pages.all readable = false) :
    ∃ t, exec (.glyphReadDone pages) s = .next t ∧ t.store.port = none ∧ t.catalog.glyphLoad = none ∧
      t.catalog.glyphs = s.catalog.glyphs ∧ damageTold a run pages s t ∧
      t.catalog.record g.record = some { a with damaged := true, readers := a.readers - 1 } := by
  obtain ⟨hstore, hload, hglyphs, ⟨hknown, hfirst⟩, hrecord⟩ := glyphReadEnd_damaged hp hr hu hh hn hg ha hlive hbad
  obtain ⟨hcatalog, hlink, hstore'⟩ := stepEnd_spec s (u := glyphReadEnd run pages s) (by rw [hstore]; exact hm)
  refine ⟨_, exec_glyphReadDone hl hp ho hpurpose hop hn, ?_, hcatalog ▸ hload, hcatalog ▸ hglyphs,
    ⟨fun h => hlink.trans (hknown h), fun h n hn => hlink.trans (hfirst h n hn)⟩, hcatalog ▸ hrecord⟩
  rw [hstore', Store.eraser_port, hstore]

end Read

end Sys2Proof.Machine
end

section
/-!
Relocations (R138 to R140): the steps of a write stream's relocation, the pages read back, and the pages moved; for the statement of O32.
-/

namespace Sys2Proof.Machine

open Sys2Proof

/-! ### Runs are determined by their pages (R116) -/

/-- Pages in a row that follow the last run lengthen it. -/
theorem foldl_appendPage_range (init : List Run) (first n k : Nat) :
    (List.range' (first + n) k).foldl appendPage (init ++ [⟨first, n⟩]) = init ++ [⟨first, n + k⟩] := by
  induction k generalizing n with
  | zero => rfl
  | succ k ih =>
    have hstep : appendPage (init ++ [⟨first, n⟩]) (first + n) = init ++ [⟨first, n + 1⟩] := by
      rw [appendPage_follows (r := ⟨first, n⟩) (by simp) rfl, List.dropLast_concat]
    rw [List.range'_succ, List.foldl_cons, hstep, Nat.add_assoc first n 1, ih, Nat.add_right_comm, Nat.add_assoc]

/-- Runs that are not empty and do not join are the runs of their pages (R116). -/
theorem runsOf_runPages {rs : List Run} (hpos : ∀ r ∈ rs, 0 < r.count) (hchain : rs.IsChain fun x y => x.first + x.count ≠ y.first) :
    runsOf (runPages rs) = rs := by
  induction rs using List.reverseRecOn with
  | nil => rfl
  | append_singleton init r ih =>
    have hinit : runsOf (runPages init) = init :=
      ih (fun x hx => hpos x (List.mem_append_left _ hx)) (List.isChain_append.1 hchain).1
    obtain ⟨k, hk⟩ : ∃ k, r.count = k + 1 := Nat.exists_eq_succ_of_ne_zero (Nat.ne_of_gt (hpos r (by simp)))
    have hbegins : appendPage init r.first = init ++ [⟨r.first, 1⟩] := appendPage_begins fun ⟨x, hx, hjoin⟩ =>
      (List.isChain_append.1 hchain).2.2 x hx r rfl hjoin
    rw [runsOf, runPages_append, List.foldl_append, ← runsOf, hinit]
    have hpages : runPages [r] = r.first :: List.range' (r.first + 1) k := by
      simp [runPages, hk, List.range'_succ]
    rw [hpages, List.foldl_cons, hbegins, foldl_appendPage_range, Nat.add_comm 1 k, ← hk]

/-- The extents at the end of a relocation, from the numbers its pages have then (R140). -/
theorem extentsWith_relocated {old es : List Run} {r : Relocation} {page : Nat}
    (hpages : runPages es = (runPages old).map (fun n =>
      match (r.origin.zip r.moved).find? (·.1 == n) with | some x => x.2 | none => n) ++ [page])
    (hpos : ∀ x ∈ es, 0 < x.count) (hchain : es.IsChain fun x y => x.first + x.count ≠ y.first) :
    extentsWith old (some r) page = es := by
  have hplace : (fun n => (((r.origin.zip r.moved).find? (·.1 == n)).map (·.2)).getD n) =
      fun n => match (r.origin.zip r.moved).find? (·.1 == n) with | some x => x.2 | none => n := by
    funext n
    cases (r.origin.zip r.moved).find? (·.1 == n) <;> rfl
  rw [extentsWith, hplace, ← runsOf_runPages hpos hchain, hpages, runsOf, runsOf, List.foldl_append]
  rfl

/-! ### What a relocation asks for (R140) -/

/-- The page program of a stream as it waits at the arbiter. -/
def programOp (image : Bool) (data : List Byte) : WaitingOp :=
  { purpose := if image then .imagePage else .intakePage, cls := .write, op := .pageProgram data, passed := 0 }

/-- What a relocation asks for next: the next page read back, or the failed page programmed again (R140). -/
def relocOp (image : Bool) (r : Relocation) (page : List Byte) : WaitingOp :=
  match r.src[r.moved.length]? with
  | some n => { purpose := if image then .imageReadBack else .intakeReadBack, cls := .write, op := .pageRead ⟨n, 1⟩, passed := 0 }
  | none => programOp image page

theorem placeProgram_free {s : State} (hp : s.store.port = none) (image : Bool) (data : List Byte) : placeProgram image data s =
    s.setStore { s.store with arbiter := s.store.arbiter ++ [programOp image data] } := by
  rw [placeProgram, Store.place_of_free hp]
  rfl

@[simp] theorem setWriter_store (image : Bool) (w : Writer) (s : State) : (s.setWriter image w).store = s.store := by
  cases image <;> rfl

@[simp] theorem setWriter_streamPage (image : Bool) (w : Writer) (s : State) :
    (s.setWriter image w).streamPage image = s.streamPage image := by
  cases image
  · rfl
  · simp only [State.setWriter, State.streamPage, if_true, State.setCatalog_catalog, Option.map_map]
    rfl

theorem relocNext_free {s : State} (hp : s.store.port = none) (image : Bool) (r : Relocation) : relocNext image r s =
    (s.setWriter image { s.writer image with reloc := some r }).setStore
      { s.store with arbiter := s.store.arbiter ++ [relocOp image r (s.streamPage image)] } := by
  unfold relocNext relocOp
  cases r.src[r.moved.length]? with
  | none =>
    dsimp only
    rw [placeProgram_free (by rw [setWriter_store, hp]), setWriter_store, setWriter_streamPage]
  | some n =>
    dsimp only
    rw [setWriter_store, Store.place_of_free hp]

/-- A moved page that passes is noted, and the relocation goes on (R140). -/
theorem streamPass_moves {image : Bool} {page : Nat} {s : State} {r : Relocation} (hr : (s.writer image).reloc = some r)
    (hlt : r.moved.length < r.src.length) : streamPass image page s = relocNext image { r with moved := r.moved ++ [page] } s := by
  simp only [streamPass, hr, if_pos hlt]

theorem relocOp_moved (image : Bool) (r : Relocation) (n : Nat) (page : List Byte) :
    relocOp image { r with moved := r.moved ++ [n] } page = match r.src[r.moved.length + 1]? with
      | some n => { purpose := if image then .imageReadBack else .intakeReadBack, cls := .write, op := .pageRead ⟨n, 1⟩, passed := 0 }
      | none => programOp image page := by
  simp only [relocOp, List.length_append, List.length_singleton]

/-! ### The event (R139, R140) -/

/-- `stepEnd_spec` for the end state of a command. -/
theorem exists_stepEnd {c : Instr} {s u : State} (h : exec c s = .next ((eraserStep (mountIfWaiting u)).seenSince s))
    (hm : u.store.mount = .none) :
    ∃ t, exec c s = .next t ∧ t.catalog = u.catalog ∧ t.link = u.link ∧ t.store = u.store.eraser :=
  ⟨_, h, stepEnd_spec s hm⟩

section Event

variable {s : State} {p : PortOp}
  (hl : s.power.resetLow = false) (hp : s.store.port = some p) (ho : p.orphan = false) (hr : p.releaseReader = none)
  (hu : p.releaseUnits = []) (hh : s.store.heldBack = []) (hm : s.store.mount = .none)
include hl hp ho hr hu hh hm

omit hm in
/-- A page read back of a relocation ends with its stream's step, the port free (R140). -/
theorem exec_relocationReadDone (page : PageRead) (hpurpose : p.purpose = .intakeReadBack ∨ p.purpose = .imageReadBack) :
    exec (.relocationReadDone page) s = .next ((eraserStep (mountIfWaiting
      (readBackEnd (p.purpose == .imageReadBack) page (s.setStore { s.store with port := none })))).seenSince s) := by
  have hstep : relocationReadDoneStep page s = eraserStep (mountIfWaiting
      (readBackEnd (p.purpose == .imageReadBack) page (s.setStore { s.store with port := none }))) := by
    simp only [relocationReadDoneStep, hp, if_pos hpurpose, ho, Bool.false_eq_true, if_false, portEnd_idle hp hr hu hh]
  rw [← hstep]
  exact live_of_live hl

theorem readBack_programs {page : PageRead} (hpurpose : p.purpose = .intakeReadBack ∨ p.purpose = .imageReadBack)
    (hpage : readable page = true) :
    ∃ t more, exec (.relocationReadDone page) s = .next t ∧ t.store.port = none ∧
      t.store.arbiter = s.store.arbiter ++ [programOp (p.purpose == .imageReadBack) (pageBytes page)] ++ more := by
  have hread : readBackEnd (p.purpose == .imageReadBack) page (s.setStore { s.store with port := none }) =
      s.setStore { s.store with
        port := none, arbiter := s.store.arbiter ++ [programOp (p.purpose == .imageReadBack) (pageBytes page)] } := by
    rw [readBackEnd, if_pos hpage, placeProgram_free rfl]
    rfl
  have hdone := exec_relocationReadDone hl hp ho hr hu hh page hpurpose
  rw [hread] at hdone
  obtain ⟨t, ht, -, -, hstore⟩ := exists_stepEnd hdone (by exact hm)
  obtain ⟨more, _, harbiter, -⟩ := Store.eraser_waiting { s.store with
    port := none, arbiter := s.store.arbiter ++ [programOp (p.purpose == .imageReadBack) (pageBytes page)] }
  exact ⟨t, more, ht, by rw [hstore, Store.eraser_port]; rfl, by rw [hstore]; exact harbiter⟩

/-- An unreadable page read back fails the intake with STORE_FAULT (R119, R140). -/
theorem readBack_failsIntake {page : PageRead} (hpurpose : p.purpose = .intakeReadBack) (hpage : readable page = false)
    (hi : s.catalog.intake.state = .open) :
    ∃ t, exec (.relocationReadDone page) s = .next t ∧ t.store.port = none ∧ t.catalog.intake.state = .failed ∧
      t.catalog.intake.failure = .storeFault := by
  have hdone := exec_relocationReadDone hl hp ho hr hu hh page (.inl hpurpose)
  obtain ⟨_, _, _, _, _, _, hfail, -⟩ := failIntake_free (s := s.setStore { s.store with port := none }) .storeFault rfl (.inl hi)
  have hread : readBackEnd (p.purpose == .imageReadBack) page (s.setStore { s.store with port := none }) =
      failIntake .storeFault (s.setStore { s.store with port := none }) := by
    rw [readBackEnd, hpage, hpurpose]
    rfl
  rw [hread, hfail] at hdone
  obtain ⟨t, ht, hcatalog, -, hstore⟩ := exists_stepEnd hdone (by exact hm)
  have hafter : t.catalog.intake = s.catalog.intake.afterFailure .storeFault := by rw [hcatalog]; rfl
  refine ⟨t, ht, by rw [hstore, Store.eraser_port]; rfl, ?_⟩
  rw [hafter]
  simp [Intake.afterFailure, hi]

end Event

end Sys2Proof.Machine
end

section
/-!
Page programs of a write stream that fail (R119, R123, R138 to R142): the unit is BAD and listed, a relocation begins in a fresh unit,
or the write fails; for the statement of O32.
-/

namespace Sys2Proof.Machine

open Sys2Proof

/-! ### The lowest clean unit (R138) -/

theorem Store.lowestClean_eq_some {st : Store} {u : Nat} (hu : (st.units[u]?).map (·.state) = some .freeClean)
    (hlow : ∀ v, v < u → (st.units[v]?).map (·.state) ≠ some .freeClean) : st.lowestClean = some u := by
  obtain ⟨e, he, hs⟩ := Option.map_eq_some_iff.1 hu
  obtain ⟨hlt, rfl⟩ := List.getElem?_eq_some_iff.1 he
  refine List.findIdx?_eq_some_iff_getElem.2 ⟨hlt, by simpa using hs, fun v hv => ?_⟩
  have hne := hlow v hv
  rw [List.getElem?_eq_getElem (by omega)] at hne
  simpa using hne

/-! ### The failed unit (R139, R141, R142) -/

/-- The store with a unit BAD (R139). -/
def Store.withBad (x : Nat) (st : Store) : Store := st.modifyUnit x fun r => { r with state := .bad }

theorem addBad_room {x : Nat} {s : State} (h : s.store.badUnits.length < 256) :
    addBad x s = s.setStore { s.store.withBad x with badUnits := insertUnit x s.store.badUnits } := if_pos h

theorem addBad_full {x : Nat} {s : State} (h : 256 ≤ s.store.badUnits.length) (hon : s.store.state = .online) :
    addBad x s = becomeReadOnly .badListFull (s.setStore (s.store.withBad x)) := by
  have hroom : ¬ (s.store.withBad x).badUnits.length < 256 := Nat.not_lt.2 h
  exact (if_neg hroom).trans (if_pos hon)

theorem Store.withBad_bad {x : Nat} {st : Store} (hx : x < st.units.length) :
    ((st.withBad x).units[x]?).map (·.state) = some .bad := by
  simp [Store.withBad, Store.modifyUnit, hx]

theorem Store.withBad_other {x v : Nat} {st : Store} (h : v ≠ x) : (st.withBad x).units[v]? = st.units[v]? := by
  simp [Store.withBad, Store.modifyUnit, Ne.symm h]

theorem Store.withBad_lowestClean {x u : Nat} {st : Store} (hx : x < st.units.length)
    (hu : (st.units[u]?).map (·.state) = some .freeClean) (hne : u ≠ x)
    (hlow : ∀ v, v < u → v ≠ x → (st.units[v]?).map (·.state) ≠ some .freeClean) : (st.withBad x).lowestClean = some u := by
  refine Store.lowestClean_eq_some (by rw [Store.withBad_other hne, hu]) fun v hv => ?_
  by_cases hvx : v = x
  · rw [hvx, Store.withBad_bad hx]
    decide
  · rw [Store.withBad_other hvx]
    exact hlow v hv hvx

theorem Store.listed_insertUnit {x : Nat} {a b : Store} (h : b.badUnits = insertUnit x a.badUnits) : a.listed [x] b := by
  obtain ⟨hmem, hsorted⟩ := insertUnit_spec x a.badUnits
  rw [Store.listed, h]
  exact ⟨fun v => by rw [hmem, List.mem_singleton], hsorted⟩

/-- The state once a program of a stream has failed in unit `x`: the port free, the unit BAD and listed, and no fill unit any more
where it was the intake's (R139, R141). -/
def State.unitFailed (image : Bool) (x : Nat) (s : State) : State :=
  s.setStore { s.store.withBad x with
    port := none, fillUnit := if image then s.store.fillUnit else none, badUnits := insertUnit x s.store.badUnits }

section StreamFail

variable {s : State} {image : Bool} {page : Nat} (hroom : s.store.badUnits.length < 256)

@[simp] theorem State.unitFailed_writer (x : Nat) : (s.unitFailed image x).writer image = s.writer image := rfl

@[simp] theorem State.unitFailed_streamPage (x : Nat) : (s.unitFailed image x).streamPage image = s.streamPage image := rfl

include hroom

/-- What a stream does about a failed program, with room in the bad unit list (R139, R140). -/
theorem streamFail_room : streamFail image page (s.setStore { s.store with port := none }) =
    let v := s.unitFailed image (s.store.unitOfPage page)
    let w := s.writer image
    if s.streamActive image then
      if 2 ≤ w.failures then failStream image .storeFault v
      else takeFresh image (nextRelocation (s.streamPagesIn image (s.store.unitOfPage page)) w.reloc)
        (v.setWriter image { w with failures := w.failures + 1 })
    else v := by
  cases image with
  | false =>
    have hbad : addBad (s.store.unitOfPage page) (s.setStore { s.store with port := none, fillUnit := none }) =
        s.unitFailed false (s.store.unitOfPage page) := addBad_room hroom
    exact congrArg (fun v : State => if v.streamActive false then
      if 2 ≤ (v.writer false).failures then failStream false .storeFault v
      else takeFresh false (nextRelocation (s.streamPagesIn false (s.store.unitOfPage page)) (v.writer false).reloc)
        (v.setWriter false { v.writer false with failures := (v.writer false).failures + 1 })
      else v) hbad
  | true =>
    have hbad : addBad (s.store.unitOfPage page) (s.setStore { s.store with port := none }) =
        s.unitFailed true (s.store.unitOfPage page) := addBad_room hroom
    exact congrArg (fun v : State => if v.streamActive true then
      if 2 ≤ (v.writer true).failures then failStream true .storeFault v
      else takeFresh true (nextRelocation (s.streamPagesIn true (s.store.unitOfPage page)) (v.writer true).reloc)
        (v.setWriter true { v.writer true with failures := (v.writer true).failures + 1 })
      else v) hbad

end StreamFail

/-! ### The fresh unit (R138, R140) -/

/-- What becomes of the fresh unit of a stream: the fill unit, or a unit of the image, which holds it (R138). -/
def UnitRec.taken (image : Bool) (r : UnitRec) : UnitRec :=
  if image then { r with state := .sealed, holders := r.holders + 1 } else { r with state := .filling }

/-- The store with a stream's fresh unit taken (R138). -/
def Store.freshTaken (image : Bool) (u : Nat) (st : Store) : Store :=
  { st.modifyUnit u (UnitRec.taken image) with fillUnit := if image then st.fillUnit else some ⟨u, 0⟩ }

theorem takeFresh_clean {image : Bool} {r : Relocation} {s : State} {u : Nat} (h : s.store.lowestClean = some u) :
    takeFresh image r s = relocNext image { r with fresh := true } (takeUnit image u s) := by
  simp only [takeFresh, h]

theorem takeUnit_store (image : Bool) (u : Nat) (s : State) : (takeUnit image u s).store = s.store.freshTaken image u := by
  cases image <;> rfl

/-- The relocation that begins at a failure, with its fresh unit (R140, log entry 29). -/
def begunRelocation (reloc : Option Relocation) (pages : List Nat) : Relocation :=
  match reloc with
  | some r => ⟨r.origin, r.moved ++ r.src.drop r.moved.length, [], true⟩
  | none => ⟨pages, pages, [], true⟩

theorem nextRelocation_fresh (pages : List Nat) (reloc : Option Relocation) :
    { nextRelocation pages reloc with fresh := true } = begunRelocation reloc pages := by
  cases reloc <;> rfl

theorem relocOp_begun (image : Bool) {r : Relocation} (page : List Byte) (hm : r.moved = []) :
    (∀ n rest, r.src = n :: rest → relocOp image r page =
      { purpose := if image then .imageReadBack else .intakeReadBack, cls := .write, op := .pageRead ⟨n, 1⟩, passed := 0 }) ∧
    (r.src = [] → relocOp image r page = programOp image page) := by
  refine ⟨fun n rest h => ?_, fun h => ?_⟩ <;> simp [relocOp, hm, h]

theorem begunRelocation_moved (reloc : Option Relocation) (pages : List Nat) : (begunRelocation reloc pages).moved = [] := by
  cases reloc <;> rfl

/-! ### A publish that fails with the port free (R123) -/

theorem failPublish_free {s : State} {q : Publish} (hp : s.store.port = none) (hq : s.catalog.publish = some q) :
    ∃ units arbiter heldBack cleanWait rootQueue rootWrite, failPublish s = { s with
      catalog := { s.catalog with publish := none }
      link := s.link.fillPlace (replyMsg 0x21 q.tag .storeFault [] .nothing)
      store := { s.store with
        units := units, arbiter := arbiter, heldBack := heldBack, cleanWait := cleanWait, rootQueue := rootQueue, rootWrite := rootWrite } } ∧
      s.store.KeepsStates { s.store with units := units } := by
  obtain ⟨a, b, w, p, hab, hport⟩ := Store.abandonStream_frame .imageOrMount s.store
  have hsame : p = s.store.port := (hport.2 hp).trans hp.symm
  subst hsame
  let us := q.units.filter (· ∉ ([] : List Nat))
  obtain ⟨units, hu, -⟩ := Store.releaseHolders_frame us
    { s.store with arbiter := a, heldBack := b, cleanWait := w, port := s.store.port }
  have hkeep := Store.keepsStates_releaseHolders us { s.store with arbiter := a, heldBack := b, cleanWait := w, port := s.store.port }
  rw [hu] at hkeep
  refine ⟨units, a, b, w, s.store.rootQueue.filter (·.client != .publish),
    if s.store.rootWrite.any (·.job.client == .publish) then none else s.store.rootWrite, ?_, hkeep⟩
  have hstore : (s.store.abandonStream .imageOrMount).releaseHolders us = _ := (congrArg (Store.releaseHolders us) hab).trans hu
  simp only [failPublish, hq, hp]
  rw [show (s.store.abandonStream .imageOrMount).releaseHolders _ = _ from hstore]
  simp only [hp]
  rfl

/-! ### The event -/

section Event

variable {s : State} {p : PortOp} {data : List Byte} {outcome : ProgramOutcome} {image : Bool} {u : Nat}
  (hl : s.power.resetLow = false) (hp : s.store.port = some p) (ho : p.orphan = false) (hr : p.releaseReader = none)
  (hu : p.releaseUnits = []) (hh : s.store.heldBack = []) (hm : s.store.mount = .none)
  (hpurpose : p.purpose = if image then .imagePage else .intakePage) (hop : p.op = .pageProgram data) (hbad : outcome ≠ .pass)
include hl hp ho hr hu hh hpurpose hop hbad

/-- A program of a stream that fails ends with the stream's step, the port free (R139). -/
theorem exec_programFails : exec (.pageProgramDone outcome) s = .next ((eraserStep (mountIfWaiting
    (streamFail image p.page (s.setStore { s.store with port := none })))).seenSince s) := by
  have hfalse : (outcome == ProgramOutcome.pass) = false := by simpa using hbad
  have hstep : pageProgramDoneStep outcome s = eraserStep (mountIfWaiting
      (streamFail image p.page (s.setStore { s.store with port := none }))) := by
    cases image <;>
      simp only [if_true, Bool.false_eq_true, if_false] at hpurpose <;>
      simp only [pageProgramDoneStep, hp, hop, hpurpose, hfalse, portEnd_idle hp hr hu hh, assetProgramEnd, imageProgramEnd, ho,
        Bool.false_eq_true, if_false]
  rw [← hstep]
  exact live_of_live hl

variable (hx : s.store.unitOfPage p.page < s.store.units.length) (hroom : s.store.badUnits.length < 256)
include hm hx hroom

section Relocates

variable (hactive : s.streamActive image = true) (hfail : (s.writer image).failures < 2)
  (hclean : (s.store.units[u]?).map (·.state) = some .freeClean) (hne : u ≠ s.store.unitOfPage p.page)
  (hlow : ∀ v, v < u → v ≠ s.store.unitOfPage p.page → (s.store.units[v]?).map (·.state) ≠ some .freeClean)
include hactive hfail hclean hne hlow

/-- The stream's first and second failure: its unit is BAD and listed, and a relocation begins in the lowest clean unit (R139, R140). -/
theorem programFails_relocates :
    let r := begunRelocation (s.writer image).reloc (s.streamPagesIn image (s.store.unitOfPage p.page))
    let z := takeUnit image u ((s.unitFailed image (s.store.unitOfPage p.page)).setWriter image
      { s.writer image with failures := (s.writer image).failures + 1 })
    ∃ t, exec (.pageProgramDone outcome) s = .next t ∧ t.store.port = none ∧
      (t.store.units[s.store.unitOfPage p.page]?).map (·.state) = some .bad ∧
      s.store.listed [s.store.unitOfPage p.page] t.store ∧
      (t.store.units[u]?).map (·.state) = some (if image then .sealed else .filling) ∧
      t.store.fillUnit = (if image then s.store.fillUnit else some ⟨u, 0⟩) ∧
      t.catalog = (z.setWriter image { z.writer image with reloc := some r }).catalog ∧
      ∃ more, t.store.arbiter = s.store.arbiter ++ relocOp image r (z.streamPage image) :: more := by
  intro r z
  have hlowest : ((s.unitFailed image (s.store.unitOfPage p.page)).setWriter image
      { s.writer image with failures := (s.writer image).failures + 1 }).store.lowestClean = some u := by
    rw [setWriter_store]
    exact s.store.withBad_lowestClean hx hclean hne hlow
  have hstore : z.store = (s.unitFailed image (s.store.unitOfPage p.page)).store.freshTaken image u := by
    rw [takeUnit_store, setWriter_store]
  have hend : streamFail image p.page (s.setStore { s.store with port := none }) =
      (z.setWriter image { z.writer image with reloc := some r }).setStore
        { z.store with arbiter := z.store.arbiter ++ [relocOp image r (z.streamPage image)] } := by
    rw [streamFail_room hroom]
    dsimp only
    rw [if_pos hactive, if_neg (Nat.not_le.2 hfail), takeFresh_clean hlowest, nextRelocation_fresh,
      relocNext_free (by rw [hstore]; rfl)]
  have hdone := exec_programFails hl hp ho hr hu hh hpurpose hop hbad
  rw [hend] at hdone
  obtain ⟨t, ht, hcatalog, -, htstore⟩ := exists_stepEnd hdone (by rw [State.setStore_store, hstore]; exact hm)
  obtain ⟨more, _, harbiter, -⟩ := Store.eraser_waiting
    { z.store with arbiter := z.store.arbiter ++ [relocOp image r (z.streamPage image)] }
  rw [State.setStore_store] at htstore
  have hkeep : ∀ (k : Nat) (e : UnitRec), z.store.units[k]? = some e → e.state ≠ .freeDirty → t.store.units[k]? = some e :=
    fun k e he hd => by rw [htstore]; exact Store.eraser_keeps _ he hd
  have hunits : z.store.units = ((s.store.withBad (s.store.unitOfPage p.page)).units).modify u (UnitRec.taken image) := by
    rw [hstore]; rfl
  refine ⟨t, ht, ?_, ?_, ?_, ?_, ?_, hcatalog, more, ?_⟩
  · rw [htstore, Store.eraser_port, hstore]
    rfl
  · obtain ⟨e, he, hs⟩ := Option.map_eq_some_iff.1 (Store.withBad_bad hx)
    rw [hkeep _ e (by rw [hunits, List.getElem?_modify, he]; simp [hne]) (by rw [hs]; decide), Option.map_some, hs]
  · refine Store.listed_insertUnit ?_
    rw [htstore, Store.eraser_badUnits, hstore]
    rfl
  · obtain ⟨e, he, hs⟩ := Option.map_eq_some_iff.1 hclean
    have htaken : z.store.units[u]? = some (e.taken image) := by
      rw [hunits, List.getElem?_modify_eq, Store.withBad_other hne, he]
      rfl
    rw [hkeep u _ htaken (by cases image <;> simp [UnitRec.taken])]
    cases image <;> rfl
  · rw [htstore, Store.eraser_fillUnit, hstore]
    cases image <;> rfl
  · rw [htstore, harbiter, hstore, List.append_assoc]
    rfl

end Relocates

section Third

variable (hfail : 2 ≤ (s.writer image).failures)
include hfail

/-- The third failure of a page of the intake fails it with STORE_FAULT (R119, R140). -/
theorem programFails_thirdOfIntake (himage : image = false)
    (hi : s.catalog.intake.state = .open ∨ s.catalog.intake.state = .finishing) :
    ∃ t, exec (.pageProgramDone outcome) s = .next t ∧ t.store.port = none ∧
      (t.store.units[s.store.unitOfPage p.page]?).map (·.state) = some .bad ∧
      s.store.listed [s.store.unitOfPage p.page] t.store ∧ t.store.fillUnit = none ∧
      t.catalog.intake = s.catalog.intake.afterFailure .storeFault ∧ t.link = s.catalog.intake.failureTold .storeFault s.link := by
  subst himage
  obtain ⟨pool, retiring, units, arbiter, heldBack, cleanWait, hfails, hkeep, -⟩ :=
    failIntake_free (s := s.unitFailed false (s.store.unitOfPage p.page)) .storeFault rfl hi
  have hdone := exec_programFails hl hp ho hr hu hh hpurpose hop hbad
  have hactive : s.streamActive false = true := Catalog.intakeBusy_eq_true hi
  rw [streamFail_room hroom] at hdone
  dsimp only at hdone
  rw [if_pos hactive, if_pos hfail, failStream, if_neg Bool.false_ne_true, hfails] at hdone
  obtain ⟨t, ht, hcatalog, hlink, hstore⟩ := exists_stepEnd hdone (by exact hm)
  refine ⟨t, ht, ?_, ?_, Store.listed_insertUnit ?_, ?_, ?_, ?_⟩
  · rw [hstore, Store.eraser_port]
    rfl
  · rw [hstore]
    exact Store.keepsStates_eraser _ _ _ (by decide) (by decide) (hkeep _ _ (by decide) (by decide) (Store.withBad_bad hx))
  · rw [hstore, Store.eraser_badUnits]
    rfl
  · rw [hstore, Store.eraser_fillUnit]
    rfl
  · rw [hcatalog]
    rfl
  · rw [hlink]
    rfl

/-- The third failure of a page of the image fails the publish with STORE_FAULT (R123, R140). -/
theorem programFails_thirdOfImage (himage : image = true) {q : Publish} (hq : s.catalog.publish = some q) :
    ∃ t, exec (.pageProgramDone outcome) s = .next t ∧ t.store.port = none ∧
      (t.store.units[s.store.unitOfPage p.page]?).map (·.state) = some .bad ∧
      s.store.listed [s.store.unitOfPage p.page] t.store ∧ t.catalog = { s.catalog with publish := none } ∧
      t.link = s.link.fillPlace (replyMsg 0x21 q.tag .storeFault [] .nothing) := by
  subst himage
  obtain ⟨units, arbiter, heldBack, cleanWait, rootQueue, rootWrite, hfails, hkeep⟩ :=
    failPublish_free (s := s.unitFailed true (s.store.unitOfPage p.page)) rfl hq
  have hdone := exec_programFails hl hp ho hr hu hh hpurpose hop hbad
  have hactive : s.streamActive true = true := congrArg Option.isSome hq
  rw [streamFail_room hroom] at hdone
  dsimp only at hdone
  rw [if_pos hactive, if_pos hfail, failStream, if_pos rfl, hfails] at hdone
  obtain ⟨t, ht, hcatalog, hlink, hstore⟩ := exists_stepEnd hdone (by exact hm)
  refine ⟨t, ht, ?_, ?_, Store.listed_insertUnit ?_, hcatalog, hlink⟩
  · rw [hstore, Store.eraser_port]
    rfl
  · rw [hstore]
    exact Store.keepsStates_eraser _ _ _ (by decide) (by decide) (hkeep _ _ (by decide) (by decide) (Store.withBad_bad hx))
  · rw [hstore, Store.eraser_badUnits]
    rfl

end Third

end Event

end Sys2Proof.Machine
end

section
/-!
A failed unit that finds the bad unit list full (R119, R142): the store becomes READ_ONLY and the intake fails; and the statement of O32.
-/

namespace Sys2Proof.Machine

open Sys2Proof

/-! ### What leaves the service as it is -/

/-- From `a` to `b` the store's state, bad unit list, port and mount stay, and units that are neither SEALED nor FREE_DIRTY keep their
states. -/
structure Store.SameService (a b : Store) : Prop where
  state : b.state = a.state
  badUnits : b.badUnits = a.badUnits
  port : b.port = a.port
  mount : b.mount = a.mount
  keeps : a.KeepsStates b

theorem Store.SameService.refl (a : Store) : a.SameService a := ⟨rfl, rfl, rfl, rfl, Store.keepsStates_of_units rfl⟩

theorem Store.SameService.trans {a b c : Store} (h : a.SameService b) (h' : b.SameService c) : a.SameService c :=
  ⟨h'.state.trans h.state, h'.badUnits.trans h.badUnits, h'.port.trans h.port, h'.mount.trans h.mount, h.keeps.trans h'.keeps⟩

theorem failPublish_sameService {s : State} (hp : s.store.port = none) : s.store.SameService (failPublish s).store ∧
    (failPublish s).catalog.intake = s.catalog.intake := by
  cases hq : s.catalog.publish with
  | none =>
    have hsame : failPublish s = s := by simp only [failPublish, hq]
    rw [hsame]
    exact ⟨Store.SameService.refl _, rfl⟩
  | some q =>
    obtain ⟨_, _, _, _, _, _, h, hkeep⟩ := failPublish_free hp hq
    rw [h]
    exact ⟨⟨rfl, rfl, rfl, rfl, hkeep⟩, rfl⟩

theorem failRootWrites_sameService (status : Status) {s : State} (hp : s.store.port = none) :
    s.store.SameService (failRootWrites status s).store ∧ (failRootWrites status s).catalog = s.catalog := by
  obtain ⟨a, b, w, p, hab, hport⟩ := Store.abandonStream_frame .root s.store
  have hsame : p = s.store.port := (hport.2 hp).trans hp.symm
  subst hsame
  have hservice : s.store.SameService { s.store.abandonStream .root with rootQueue := [], rootWrite := none } := by
    rw [hab]
    exact ⟨rfl, rfl, rfl, rfl, Store.keepsStates_of_units rfl⟩
  unfold failRootWrites
  dsimp only
  split <;> exact ⟨hservice, rfl⟩

/-! ### A store that becomes READ_ONLY with the port free (R142) -/

/-- The store without its waiting erase batch, READ_ONLY (R142, R144). -/
def Store.stopped (st : Store) : Store := { st.dropBatch (some .freeDirty) with state := .readOnly }

theorem Store.stopped_frame (st : Store) : st.stopped.badUnits = st.badUnits ∧ st.stopped.port = st.port ∧
    st.stopped.mount = st.mount ∧ ∀ x, (∀ b, st.batch = some b → x ∉ b.units) → st.stopped.units[x]? = st.units[x]? := by
  unfold Store.stopped Store.dropBatch
  cases hb : st.batch with
  | none => exact ⟨rfl, rfl, rfl, fun _ _ => rfl⟩
  | some b =>
    by_cases hg : b.granted = true
    · simp only [hg, if_true, implies_true, and_self]
    · simp only [hg, Bool.false_eq_true, if_false]
      obtain ⟨units, hu, -⟩ := Store.modifyUnits_frame (fun _ r => { r with state := .freeDirty }) b.units
        (({ st with batch := none } : Store).withdraw .eraser)
      refine ⟨by rw [hu]; rfl, by rw [hu]; rfl, by rw [hu]; rfl, fun x hx => ?_⟩
      have hnot : b.units.count x = 0 := List.count_eq_zero.2 (hx b rfl)
      rw [Store.foldl_modifyUnit_units, hnot, Function.iterate_zero, Option.map_id]
      rfl

theorem becomeReadOnly_free (cause : StoreCause) {s : State} (hp : s.store.port = none)
    (hi : s.catalog.intake.state = .open ∨ s.catalog.intake.state = .finishing) :
    s.store.stopped.SameService (becomeReadOnly cause s).store ∧
      (becomeReadOnly cause s).catalog.intake = s.catalog.intake.afterFailure .storeReadOnly := by
  obtain ⟨-, hport, -⟩ := s.store.stopped_frame
  obtain ⟨_, _, _, _, _, _, hfail, hkeep, -⟩ := failIntake_free (s := s.setStore s.store.stopped) .storeReadOnly (hport.trans hp) hi
  have hintake : (s.store.stopped.SameService (failIntake .storeReadOnly (s.setStore s.store.stopped)).store) ∧
      (failIntake .storeReadOnly (s.setStore s.store.stopped)).catalog.intake = s.catalog.intake.afterFailure .storeReadOnly := by
    rw [hfail]
    exact ⟨⟨rfl, rfl, rfl, rfl, hkeep⟩, rfl⟩
  obtain ⟨hservice, hafter⟩ := hintake
  obtain ⟨hservice', hafter'⟩ := failPublish_sameService (hservice.port.trans (hport.trans hp))
  have hfree := hservice'.port.trans (hservice.port.trans (hport.trans hp))
  obtain ⟨hservice'', hcatalog⟩ := failRootWrites_sameService .storeReadOnly hfree
  have hstop : stopRootWrites (failPublish (failIntake .storeReadOnly (s.setStore s.store.stopped))) =
      failRootWrites .storeReadOnly (failPublish (failIntake .storeReadOnly (s.setStore s.store.stopped))) := by
    simp only [stopRootWrites, hfree, Option.isNone_none, if_true]
  have hend : becomeReadOnly cause s = stateNotice s.store.state cause
      (failRootWrites .storeReadOnly (failPublish (failIntake .storeReadOnly (s.setStore s.store.stopped)))) := by
    rw [← hstop]
    rfl
  rw [hend, stateNotice, notice_store, notice_catalog, hcatalog]
  exact ⟨hservice.trans (hservice'.trans hservice''), hafter'.trans hafter⟩

/-! ### A page of the image that cannot be read back (R123, R140) -/

theorem readBack_failsPublish {s : State} {p : PortOp} {page : PageRead} {q : Publish}
    (hl : s.power.resetLow = false) (hp : s.store.port = some p) (ho : p.orphan = false) (hr : p.releaseReader = none)
    (hu : p.releaseUnits = []) (hh : s.store.heldBack = []) (hm : s.store.mount = .none) (hpurpose : p.purpose = .imageReadBack)
    (hpage : readable page = false) (hq : s.catalog.publish = some q) :
    ∃ t, exec (.relocationReadDone page) s = .next t ∧ t.store.port = none ∧ t.catalog = { s.catalog with publish := none } ∧
      t.link = s.link.fillPlace (replyMsg 0x21 q.tag .storeFault [] .nothing) := by
  have hdone := exec_relocationReadDone hl hp ho hr hu hh page (.inr hpurpose)
  obtain ⟨_, _, _, _, _, _, hfail, -⟩ := failPublish_free (s := s.setStore { s.store with port := none }) rfl hq
  have hread : readBackEnd (p.purpose == .imageReadBack) page (s.setStore { s.store with port := none }) =
      failPublish (s.setStore { s.store with port := none }) := by
    rw [readBackEnd, hpage, hpurpose]
    rfl
  rw [hread, hfail] at hdone
  obtain ⟨t, ht, hcatalog, hlink, hstore⟩ := exists_stepEnd hdone (by exact hm)
  exact ⟨t, ht, by rw [hstore, Store.eraser_port]; rfl, hcatalog, hlink⟩

/-! ### The event with a full bad unit list -/

section Event

variable {s : State} {p : PortOp} {data : List Byte} {outcome : ProgramOutcome}
  (hl : s.power.resetLow = false) (hp : s.store.port = some p) (ho : p.orphan = false) (hr : p.releaseReader = none)
  (hu : p.releaseUnits = []) (hh : s.store.heldBack = []) (hm : s.store.mount = .none)
  (hpurpose : p.purpose = .intakePage) (hop : p.op = .pageProgram data)
include hl hp ho hr hu hh hm hpurpose hop

/-- A program of the intake that fails with the bad unit list full makes the store READ_ONLY and fails the intake (R119, R142). -/
theorem programFails_full (hbad : outcome ≠ .pass) (hx : s.store.unitOfPage p.page < s.store.units.length)
    (hfull : 256 ≤ s.store.badUnits.length) (hon : s.store.state = .online)
    (hi : s.catalog.intake.state = .open) (hbatch : ∀ b : Batch, s.store.batch = some b → s.store.unitOfPage p.page ∉ b.units) :
    ∃ t, exec (.pageProgramDone outcome) s = .next t ∧ t.store.port = none ∧
      (t.store.units[s.store.unitOfPage p.page]?).map (·.state) = some .bad ∧ t.store.state = .readOnly ∧
      t.store.badUnits = s.store.badUnits ∧ t.catalog.intake.state = .failed ∧ t.catalog.intake.failure = .storeReadOnly := by
  let v := s.setStore ({ s.store with port := none, fillUnit := none }.withBad (s.store.unitOfPage p.page))
  obtain ⟨hservice, hintake⟩ := becomeReadOnly_free .badListFull (s := v) rfl (.inl hi)
  have hfailed : s.catalog.intake.afterFailure .storeReadOnly =
      { state := .failed, key := s.catalog.intake.key, failure := .storeReadOnly } := by simp [Intake.afterFailure, hi]
  have hbecomes : addBad (s.store.unitOfPage p.page) (s.setStore { s.store with port := none, fillUnit := none }) =
      becomeReadOnly .badListFull v := addBad_full hfull hon
  have hidle : (becomeReadOnly .badListFull v).streamActive false = false := by
    have hbusy : (becomeReadOnly .badListFull v).catalog.intakeBusy = false :=
      Catalog.intakeBusy_eq_false (.inr (by rw [hintake]; exact congrArg (·.state) hfailed))
    exact hbusy
  have hend : streamFail false p.page (s.setStore { s.store with port := none }) = becomeReadOnly .badListFull v := by
    have hstep : streamFail false p.page (s.setStore { s.store with port := none }) =
        if (addBad (s.store.unitOfPage p.page) (s.setStore { s.store with port := none, fillUnit := none })).streamActive false then _
        else addBad (s.store.unitOfPage p.page) (s.setStore { s.store with port := none, fillUnit := none }) := rfl
    rw [hstep, hbecomes, hidle, if_neg Bool.false_ne_true]
  have hdone := exec_programFails (image := false) hl hp ho hr hu hh hpurpose hop hbad
  rw [hend] at hdone
  obtain ⟨hlist, hport, hmount, hunits⟩ := v.store.stopped_frame
  obtain ⟨t, ht, hcatalog, -, hstore⟩ := exists_stepEnd hdone (by rw [hservice.mount, hmount]; exact hm)
  refine ⟨t, ht, ?_, ?_, ?_, ?_, ?_⟩
  · rw [hstore, Store.eraser_port, hservice.port, hport]
    rfl
  · rw [hstore]
    refine Store.keepsStates_eraser _ _ _ (by decide) (by decide) (hservice.keeps _ _ (by decide) (by decide) ?_)
    rw [hunits _ hbatch]
    exact Store.withBad_bad hx
  · rw [hstore, Store.eraser_state, hservice.state]
    rfl
  · rw [hstore, Store.eraser_badUnits, hservice.badUnits, hlist]
    rfl
  · rw [hcatalog, hintake, show v.catalog.intake.afterFailure .storeReadOnly = _ from hfailed]
    exact ⟨rfl, rfl⟩

end Event

/-! ### Pages moved (R140) -/

/-- `programEnd_passes` for the end state of a command. -/
theorem exists_programEnd {c : Instr} {s u : State} {f : PagePos}
    (h : exec c s = .next ((eraserStep (mountIfWaiting (sealFill u))).seenSince s)) (hm : s.store.mount = .none)
    (hw : StreamWork (s.programmed f) u) : ∃ t, exec c s = .next t ∧ t.store.port = none ∧
      t.store.fillUnit = (if f.page + 1 < s.store.pagesPerUnit then some ⟨f.unit, f.page + 1⟩ else none) ∧
      t.plans = s.plans ∧ t.cache = s.cache ∧ t.lanes = s.lanes ∧ t.catalog = u.catalog ∧ t.link = u.link ∧
      (∃ more, t.store.arbiter = u.store.arbiter ++ more) ∧
      (f.page + 1 < s.store.pagesPerUnit → ∀ (k : Nat) (e : UnitRec), u.store.units[k]? = some e → e.state ≠ .freeDirty →
        t.store.units[k]? = some e) := ⟨_, h, programEnd_passes hm hw⟩

section Moves

variable {s : State} {p : PortOp} {data : List Byte} {r : Relocation}
  (hl : s.power.resetLow = false) (hp : s.store.port = some p) (ho : p.orphan = false) (hr : p.releaseReader = none)
  (hu : p.releaseUnits = []) (hh : s.store.heldBack = []) (hm : s.store.mount = .none) (hop : p.op = .pageProgram data)
include hl hp ho hr hu hh hm hop

/-- A moved page of the image that passes is noted, and the relocation goes on (R140). -/
theorem imagePage_moves {q : Publish} (hpurpose : p.purpose = .imagePage) (hq : s.catalog.publish = some q)
    (hrel : q.writer.reloc = some r) (hlt : r.moved.length < r.src.length) :
    ∃ t more, exec (.pageProgramDone .pass) s = .next t ∧ t.store.port = none ∧
      t.catalog.publish = some { q with
        nextPage := q.nextPage + 1, writer := { q.writer with reloc := some { r with moved := r.moved ++ [p.page] } } } ∧
      t.store.arbiter = s.store.arbiter ++ relocOp true { r with moved := r.moved ++ [p.page] } q.page :: more := by
  let a := (s.setStore { s.store with port := none }).setCatalog
    { s.catalog with publish := some { q with nextPage := q.nextPage + 1 } }
  have hend : imageProgramEnd true p (portEnd s) = relocNext true { r with moved := r.moved ++ [p.page] } a := by
    have hadvance : advanceStream true (portEnd s) = a := by
      rw [portEnd_idle hp hr hu hh]
      simp only [advanceStream, if_true, State.setStore_catalog, hq]
      rfl
    rw [imageProgramEnd, ho, if_neg Bool.false_ne_true, if_pos rfl, hadvance]
    exact streamPass_moves (s := a) hrel hlt
  have hdone := exec_pageProgramDone_image hl hp hop hpurpose
  rw [hend, relocNext_free rfl] at hdone
  obtain ⟨t, ht, hcatalog, -, hstore⟩ := exists_stepEnd hdone (by exact hm)
  obtain ⟨more, _, harbiter, -⟩ := Store.eraser_waiting { a.store with
    arbiter := a.store.arbiter ++ [relocOp true { r with moved := r.moved ++ [p.page] } (a.streamPage true)] }
  refine ⟨t, more, ht, ?_, ?_, ?_⟩
  · rw [hstore, Store.eraser_port]
    rfl
  · rw [hcatalog]
    rfl
  · rw [hstore, State.setStore_store, harbiter, List.append_assoc]
    rfl

variable {f : PagePos} (hpurpose : p.purpose = .intakePage) (hf : s.store.fillUnit = some f)
include hpurpose hf

/-- A moved page of the intake that passes is noted, and the relocation goes on (R140). -/
theorem intakePage_moves (hrel : s.catalog.intake.writer.reloc = some r) (hlt : r.moved.length < r.src.length)
    (hpage : f.page + 1 < s.store.pagesPerUnit) :
    ∃ t more, exec (.pageProgramDone .pass) s = .next t ∧ t.store.port = none ∧
      t.catalog.intake = { s.catalog.intake with
        writer := { s.catalog.intake.writer with reloc := some { r with moved := r.moved ++ [p.page] } } } ∧
      t.store.fillUnit = some ⟨f.unit, f.page + 1⟩ ∧ t.catalog.pool = s.catalog.pool ∧
      t.store.arbiter = s.store.arbiter ++
        relocOp false { r with moved := r.moved ++ [p.page] } (intakePage s.catalog.intake.buffer) :: more := by
  let r' : Relocation := { r with moved := r.moved ++ [p.page] }
  have hnext : streamPass false p.page (s.programmed f) = _ :=
    (streamPass_moves (image := false) (s := s.programmed f) hrel hlt).trans (relocNext_free rfl false r')
  have hexec := exec_intakePage_streamPass hl hp hpurpose hop ho hr hu hh hf
  rw [hnext] at hexec
  obtain ⟨t, ht, hport, hfill, -, -, -, hcatalog, -, ⟨more, harbiter⟩, -⟩ := exists_programEnd hexec hm
    ⟨_, s.link, s.store.units, _, s.store.heldBack, s.store.cleanWait, rfl⟩
  refine ⟨t, more, ht, hport, ?_, by rw [hfill, if_pos hpage], ?_, ?_⟩
  · rw [hcatalog]
    rfl
  · rw [hcatalog]
    rfl
  · rw [harbiter, State.setStore_store, List.append_assoc]
    rfl

variable {a : Asset} {es : List Run} (ha : s.catalog.record s.catalog.intake.record = some a)
  (hi : s.catalog.intake.state = .open ∨ s.catalog.intake.state = .finishing)
  (hrel : s.catalog.intake.writer.reloc = some r) (hdone : r.src.length ≤ r.moved.length)
  (hes : extentsWith a.extents (some r) p.page = es)
include ha hi hrel hdone hes

theorem relocation_tooMany (hn : 16 < es.length) :
    ∃ t, exec (.pageProgramDone .pass) s = .next t ∧ t.store.port = none ∧
      (s.catalog.intake.state = .open → t.catalog.intake.state = .failed ∧ t.catalog.intake.failure = .extentLimit) ∧
      (s.catalog.intake.state = .finishing → t.catalog.intake.state = .none ∧
        t.link = s.link.fillPlace (replyMsg 0x1E s.catalog.intake.tag .extentLimit [] .nothing)) := by
  have hreloc : ∀ r', s.catalog.intake.writer.reloc = some r' → r'.src.length ≤ r'.moved.length := fun r' h => by
    rw [hrel] at h
    cases h
    exact hdone
  obtain ⟨t, ⟨ht, hport, -⟩, -, hopen, hfin⟩ := intakePage_tooMany hl hp hpurpose hop ho hr hu hh hf hm ha hi hreloc
    (by rw [hrel, hes]; exact hn)
  refine ⟨t, ht, hport, fun h => ?_, hfin⟩
  obtain ⟨hstate, -, hfailure, -⟩ := hopen h
  exact ⟨hstate, hfailure⟩

omit hi in
/-- The end of a relocation: the record's extents are rewritten, its holders moved with them, and the writer starts afresh (R116, R132,
R140). -/
theorem relocation_ends (hn : es.length ≤ 16) :
    ∃ t b, exec (.pageProgramDone .pass) s = .next t ∧ t.store.port = none ∧
      t.catalog.record s.catalog.intake.record = some b ∧ b.extents = es ∧
      t.catalog.intake.buffer = s.catalog.intake.buffer.drop 4096 ∧ t.catalog.intake.writer.reloc = none ∧
      t.catalog.intake.writer.failures = 0 ∧
      (f.page + 1 < s.store.pagesPerUnit → t.store.fillUnit = some ⟨f.unit, f.page + 1⟩ ∧
        ∀ (u : Nat) (e : UnitRec), s.store.units[u]? = some e → (e.state = .bad ∨ e.state = .filling) →
          let was := unitsOfRuns s.store.pagesPerUnit a.extents
          let is := unitsOfRuns s.store.pagesPerUnit es
          t.store.units[u]? = some { e with
            holders := if u ∈ is ∧ u ∉ was then e.holders + 1 else if u ∈ was ∧ u ∉ is then e.holders - 1 else e.holders }) := by
  have hreloc : ∀ r', s.catalog.intake.writer.reloc = some r' → r'.src.length ≤ r'.moved.length := fun r' h => by
    rw [hrel] at h
    cases h
    exact hdone
  have hnew : extentsWith a.extents (s.programmed f).catalog.intake.writer.reloc p.page = es := by
    rw [← hes, ← hrel]
    rfl
  obtain ⟨t, ⟨ht, hport, hfill, -⟩, hcatalog, -, -, hunits⟩ := intakePage_passes hl hp hpurpose hop ho hr hu hh hf hm hreloc
  have hholders : (enterPage p.page (s.programmed f)).store.units = ((s.programmed f).entered a es).store.units →
      f.page + 1 < s.store.pagesPerUnit → ∀ (u : Nat) (e : UnitRec), s.store.units[u]? = some e →
        (e.state = .bad ∨ e.state = .filling) → t.store.units[u]? = ((s.programmed f).entered a es).store.units[u]? :=
    fun hsame hpage u e he hs => by
      have hunit := State.entered_unit (s := s.programmed f) (a := a) (new := es) he (by rcases hs with hs | hs <;> rw [hs] <;> decide)
      rw [hunit]
      exact hunits hpage u _ (by rw [hsame, hunit]) (by rcases hs with hs | hs <;> dsimp only <;> rw [hs] <;> decide)
  have hspec : ∃ b, t.catalog.record s.catalog.intake.record = some b ∧ b.extents = es ∧
      t.catalog.intake.buffer = s.catalog.intake.buffer.drop 4096 ∧ t.catalog.intake.writer.reloc = none ∧
      t.catalog.intake.writer.failures = 0 ∧
      (enterPage p.page (s.programmed f)).store.units = ((s.programmed f).entered a es).store.units := by
    rw [hcatalog]
    by_cases hk : s.catalog.intake.state = .finishing ∧ s.catalog.intake.buffer.drop 4096 = []
    · obtain ⟨b, hrecord, hext, hintake, hsame, -⟩ := enterPage_ends_spec (s := s.programmed f) ha hnew hn hk
      refine ⟨b, hrecord, hext, ?_, ?_, ?_, hsame⟩
      · rw [hintake, hk.2]
      · rw [hintake]
      · rw [hintake]
    · obtain ⟨hrecord, -, hbuffer, hsame⟩ := enterPage_goesOn_keeps (s := s.programmed f) ha hnew hn hk
      obtain ⟨hnone, hzero⟩ := enterPage_goesOn_writer (s := s.programmed f) ha hnew hn hk
      exact ⟨_, hrecord, rfl, hbuffer, hnone, hzero, hsame⟩
  obtain ⟨b, hrecord, hext, hbuffer, hnone, hzero, hsame⟩ := hspec
  refine ⟨t, b, ht, hport, hrecord, hext, hbuffer, hnone, hzero, fun hpage => ⟨by rw [hfill, if_pos hpage], fun u e he hs => ?_⟩⟩
  rw [hholders hsame hpage u e he hs]
  exact State.entered_unit (s := s.programmed f) he (by rcases hs with hs | hs <;> rw [hs] <;> decide)

end Moves

/-! ### The statement -/

theorem streamPagesIn_intake {s : State} {a : Asset} (ha : s.catalog.record s.catalog.intake.record = some a) (x : Nat) :
    s.streamPagesIn false x = (runPages a.extents).filter fun n => s.store.unitOfPage n = x := by
  simp only [State.streamPagesIn, Bool.false_eq_true, if_false, ha]

section Fails

variable {s : State} {p : PortOp} {data : List Byte} {outcome : ProgramOutcome} {u : Nat}
  (hl : s.power.resetLow = false) (hp : s.store.port = some p) (ho : p.orphan = false) (hr : p.releaseReader = none)
  (hu : p.releaseUnits = []) (hh : s.store.heldBack = []) (hm : s.store.mount = .none)
  (hop : p.op = .pageProgram data) (hbad : outcome ≠ .pass) (hx : s.store.unitOfPage p.page < s.store.units.length)
  (hroom : s.store.badUnits.length < 256) (hclean : (s.store.units[u]?).map (·.state) = some .freeClean)
  (hne : u ≠ s.store.unitOfPage p.page)
  (hlow : ∀ v, v < u → v ≠ s.store.unitOfPage p.page → (s.store.units[v]?).map (·.state) ≠ some .freeClean)
include hl hp ho hr hu hh hm hop hbad hx hroom hclean hne hlow

/-- A relocation of the intake begins (R139, R140). -/
theorem intakeProgram_relocates (hpurpose : p.purpose = .intakePage) {a : Asset}
    (ha : s.catalog.record s.catalog.intake.record = some a)
    (hi : s.catalog.intake.state = .open ∨ s.catalog.intake.state = .finishing) (hfail : s.catalog.intake.writer.failures < 2) :
    let r := begunRelocation s.catalog.intake.writer.reloc
      ((runPages a.extents).filter fun n => s.store.unitOfPage n = s.store.unitOfPage p.page)
    ∃ t, exec (.pageProgramDone outcome) s = .next t ∧ t.store.port = none ∧
      (t.store.units[s.store.unitOfPage p.page]?).map (·.state) = some .bad ∧
      s.store.listed [s.store.unitOfPage p.page] t.store ∧ (t.store.units[u]?).map (·.state) = some .filling ∧
      t.store.fillUnit = some ⟨u, 0⟩ ∧ t.catalog.pool = s.catalog.pool ∧
      t.catalog.intake = { s.catalog.intake with writer := { s.catalog.intake.writer with
        failures := s.catalog.intake.writer.failures + 1, reloc := some r } } ∧
      ∃ more, t.store.arbiter = s.store.arbiter ++ relocOp false r (intakePage s.catalog.intake.buffer) :: more := by
  intro r
  obtain ⟨t, ht, hport, hunit, hlisted, hfresh, hfill, hcatalog, more, harbiter⟩ := programFails_relocates (image := false)
    hl hp ho hr hu hh hm hpurpose hop hbad hx hroom (Catalog.intakeBusy_eq_true hi) hfail hclean hne hlow
  rw [streamPagesIn_intake ha] at hcatalog harbiter
  exact ⟨t, ht, hport, hunit, hlisted, hfresh, hfill, by rw [hcatalog]; rfl, by rw [hcatalog]; rfl, more, harbiter⟩

/-- A relocation of the image begins (R139, R140). -/
theorem imageProgram_relocates (hpurpose : p.purpose = .imagePage) {q : Publish} (hq : s.catalog.publish = some q)
    (hfail : q.writer.failures < 2) :
    let r := begunRelocation q.writer.reloc (List.range' (s.store.unitOfPage p.page * s.store.pagesPerUnit) q.nextPage)
    ∃ t, exec (.pageProgramDone outcome) s = .next t ∧ t.store.port = none ∧
      (t.store.units[s.store.unitOfPage p.page]?).map (·.state) = some .bad ∧
      s.store.listed [s.store.unitOfPage p.page] t.store ∧ (t.store.units[u]?).map (·.state) = some .sealed ∧
      t.catalog = { s.catalog with publish := some { q with
        units := q.units ++ [u], nextPage := 0
        writer := { q.writer with failures := q.writer.failures + 1, reloc := some r } } } ∧
      ∃ more, t.store.arbiter = s.store.arbiter ++ relocOp true r q.page :: more := by
  intro r
  have hwriter : s.writer true = q.writer := by simp only [State.writer, if_true, hq, Option.map_some, Option.getD_some]
  have hpages : s.streamPagesIn true (s.store.unitOfPage p.page) =
      List.range' (s.store.unitOfPage p.page * s.store.pagesPerUnit) q.nextPage := by
    simp only [State.streamPagesIn, if_true, hq, Option.map_some, Option.getD_some]
  obtain ⟨t, ht, hport, hunit, hlisted, hfresh, -, hcatalog, more, harbiter⟩ := programFails_relocates (image := true)
    hl hp ho hr hu hh hm hpurpose hop hbad hx hroom (congrArg Option.isSome hq) (by rw [hwriter]; exact hfail) hclean hne hlow
  rw [hwriter, hpages] at hcatalog harbiter
  have htaken : (takeUnit true u ((s.unitFailed true (s.store.unitOfPage p.page)).setWriter true
      { q.writer with failures := q.writer.failures + 1 })).catalog = { s.catalog with publish := some { q with
        units := q.units ++ [u], nextPage := 0, writer := { q.writer with failures := q.writer.failures + 1 } } } := by
    simp only [takeUnit, State.setWriter, if_true, State.unitFailed, State.setStore_catalog, State.setCatalog_catalog, hq,
      Option.map_some]
  generalize takeUnit true u _ = z at hcatalog harbiter htaken
  have hpage : z.streamPage true = q.page := by
    simp only [State.streamPage, if_true, htaken]
    rfl
  refine ⟨t, ht, hport, hunit, hlisted, hfresh, ?_, more, ?_⟩
  · rw [hcatalog]
    simp only [State.setWriter, State.writer, if_true, State.setCatalog_catalog, htaken, Option.map_some, Option.getD_some]
    rfl
  · rw [harbiter, hpage]

end Fails

/-- Settles O32: glyph sets, pages read back, pages moved, programs that fail, and glyph reads. -/
theorem relocationAndGlyphReads : Obligations.RelocationAndGlyphReads := by
  refine ⟨glyphDataOk_iff, fun s p hl hp ho hr hu hh hm => ⟨fun page hpurpose hpage => ?_,
    fun page hpurpose hpage hi => readBack_failsIntake hl hp ho hr hu hh hm hpurpose hpage hi,
    fun page q hpurpose hpage hq => readBack_failsPublish hl hp ho hr hu hh hm hpurpose hpage hq,
    fun data q r hpurpose hop hq hrel hlt => ?_, fun data r f a es hpurpose hop hrel hdone hf hpage ha hi => ?_,
    fun data w r f hpurpose hop hw hrel hlt hf hpage => ?_,
    fun data outcome x u hop hbad hx hlen hclean hne hlow => ?_,
    fun run pages g a hpurpose hop hn hg ha _ hlive =>
      ⟨glyphRead_last hl hp ho hr hu hh hm hpurpose hop hn hg ha hlive,
        fun r rest => glyphRead_more hl hp ho hr hu hh hm hpurpose hop hn hg ha hlive,
        glyphRead_damaged hl hp ho hr hu hh hm hpurpose hop hn hg ha hlive⟩⟩⟩
  · obtain ⟨t, more, ht, hport, harbiter⟩ := readBack_programs hl hp ho hr hu hh hm hpurpose hpage
    refine ⟨t, more, ht, hport, ?_⟩
    rw [harbiter]
    rcases hpurpose with h | h <;> rw [programOp, h] <;> rfl
  · obtain ⟨t, more, ht, hport, hpublish, harbiter⟩ := imagePage_moves hl hp ho hr hu hh hm hop hpurpose hq hrel hlt
    refine ⟨t, more, ht, hport, hpublish, ?_⟩
    rw [harbiter, relocOp_moved]
    cases r.src[r.moved.length + 1]? <;> rfl
  · intro k place was is hpages hpos hchain
    have hes := extentsWith_relocated hpages hpos hchain
    exact ⟨fun hn => relocation_ends hl hp ho hr hu hh hm hop hpurpose hf ha hrel hdone hes hn,
      fun hn => relocation_tooMany hl hp ho hr hu hh hm hop hpurpose hf ha hi hrel hdone hes hn⟩
  · subst hw
    obtain ⟨t, more, ht, hport, hintake, hfill, hpool, harbiter⟩ :=
      intakePage_moves hl hp ho hr hu hh hm hop hpurpose hf hrel hlt hpage
    refine ⟨t, more, ht, hport, hintake, hfill, hpool, ?_⟩
    rw [harbiter, relocOp_moved]
    cases r.src[r.moved.length + 1]? <;> rfl
  · subst hx
    intro again bad next
    have hagain : ∀ reloc pages, again reloc pages = begunRelocation reloc pages := fun reloc pages => by cases reloc <;> rfl
    simp only [hagain]
    refine ⟨fun hpurpose a ha => ⟨fun hroom hi hfail => ?_, fun hroom hfail => ⟨fun hi => ?_, fun hi => ?_⟩,
      fun hfull hon hi hbatch => ?_⟩, fun hpurpose hroom q hq => ⟨fun hfail => ?_, fun hfail => ?_⟩⟩
    · obtain ⟨t, ht, hport, hunit, hlisted, hfresh, hfill, hpool, hintake, more, harbiter⟩ := intakeProgram_relocates
        hl hp ho hr hu hh hm hop hbad hlen hroom hclean hne hlow hpurpose ha hi hfail
      obtain ⟨hreads, hprograms⟩ := relocOp_begun false (intakePage s.catalog.intake.buffer)
        (begunRelocation_moved s.catalog.intake.writer.reloc _)
      exact ⟨t, ⟨ht, hport, hunit⟩, hlisted, hfresh, hfill, hpool, hintake,
        fun n rest hsrc => ⟨more, by rw [harbiter, hreads n rest hsrc]; rfl⟩,
        fun hsrc => ⟨more, by rw [harbiter, hprograms hsrc]; rfl⟩⟩
    · obtain ⟨t, ht, hport, hunit, hlisted, hfill, hintake, hlink⟩ := programFails_thirdOfIntake (image := false)
        hl hp ho hr hu hh hm hpurpose hop hbad hlen hroom hfail rfl (.inl hi)
      refine ⟨t, ⟨ht, hport, hunit⟩, hlisted, hfill, ?_⟩
      rw [hintake, hlink]
      simp [Intake.afterFailure, Intake.failureTold, hi]
    · obtain ⟨t, ht, hport, hunit, hlisted, -, hintake, hlink⟩ := programFails_thirdOfIntake (image := false)
        hl hp ho hr hu hh hm hpurpose hop hbad hlen hroom hfail rfl (.inr hi)
      refine ⟨t, ⟨ht, hport, hunit⟩, hlisted, ?_⟩
      rw [hintake, hlink]
      simp [Intake.afterFailure, Intake.failureTold, hi]
    · obtain ⟨t, ht, hport, hunit, hrest⟩ :=
        programFails_full hl hp ho hr hu hh hm hpurpose hop hbad hlen hfull hon hi hbatch
      exact ⟨t, ⟨ht, hport, hunit⟩, hrest⟩
    · obtain ⟨t, ht, hport, hunit, hlisted, hfresh, hcatalog, more, harbiter⟩ := imageProgram_relocates
        hl hp ho hr hu hh hm hop hbad hlen hroom hclean hne hlow hpurpose hq hfail
      obtain ⟨hreads, hprograms⟩ := relocOp_begun true q.page (begunRelocation_moved q.writer.reloc _)
      exact ⟨t, ⟨ht, hport, hunit⟩, hlisted, hfresh, hcatalog,
        fun n rest hsrc => ⟨more, by rw [harbiter, hreads n rest hsrc]; rfl⟩,
        fun hsrc => ⟨more, by rw [harbiter, hprograms hsrc]; rfl⟩⟩
    · obtain ⟨t, ht, hport, hunit, hrest⟩ := programFails_thirdOfImage (image := true)
        hl hp ho hr hu hh hm hpurpose hop hbad hlen hroom (by simpa [State.writer, hq] using hfail) rfl hq
      exact ⟨t, ⟨ht, hport, hunit⟩, hrest⟩

end Sys2Proof.Machine
end

section
/-!
Root records and images (R133, R136, R202): when a page is a record, which record is the newest, where the log goes on, and which image
can be read; for the statement of O29.
-/

namespace Sys2Proof.Machine

open Sys2Proof

/-! ### A root page's record (R133, R202) -/

theorem rootRecordOf_isSome_iff (pg : PageRead) : (rootRecordOf pg).isSome = true ↔ readable pg = true ∧
    crc32 ((pageBytes pg).take 810) = fieldAt (pageBytes pg) 810 4 ∧ fieldAt (pageBytes pg) 0 4 ≠ 0 ∧
    fieldAt (pageBytes pg) 4 1 ≤ 8 ∧ fieldAt (pageBytes pg) 296 2 ≤ 256 := by
  unfold rootRecordOf
  dsimp only
  split
  · rename_i h
    simpa [rootCheckOk, and_assoc] using h
  · rename_i h
    simpa [rootCheckOk, and_assoc] using h

theorem rootRecordOf_fields {pg : PageRead} {r : RootRecord} (h : rootRecordOf pg = some r) :
    let b := pageBytes pg
    r.sequence = fieldAt b 0 4 ∧
      r.image = ⟨(List.range (fieldAt b 4 1)).map fun i => fieldAt b (8 + 2 * i) 2, fieldAt b 24 4, fieldAt b 28 4⟩ ∧
      r.settings = (List.range 66).map (fun i => fieldAt b (32 + 4 * i) 4) ∧
      r.badUnits = (List.range (fieldAt b 296 2)).map fun i => fieldAt b (298 + 2 * i) 2 := by
  unfold rootRecordOf at h
  dsimp only at h
  split at h
  · cases h
    exact ⟨rfl, rfl, rfl, rfl⟩
  · cases h

theorem imageReadable_iff (d : Descriptor) (part : ImagePart) : imageReadable d part = true ↔
    (∀ u ∈ part.units, u < d.unitCount) ∧ 16 ≤ part.length ∧
      (part.length + 4095) / 4096 ≤ part.units.length * d.pagesPerUnit := by
  simp only [imageReadable, Bool.and_eq_true, List.all_eq_true, decide_eq_true_eq, and_assoc]
  exact Iff.rfl

/-! ### The newest record (R136) -/

theorem newestRecord_concat (pages : List PageRead) (pg : PageRead) : newestRecord (pages ++ [pg]) =
    match rootRecordOf pg, newestRecord pages with
    | none, best => best
    | some r, none => some (r, pages.length)
    | some r, some b => if b.1.sequence < r.sequence then some (r, pages.length) else some b := by
  rw [newestRecord, List.zipIdx_append, List.foldl_append, ← newestRecord]
  simp only [List.zipIdx_cons, List.zipIdx_nil, List.foldl_cons, List.foldl_nil, Nat.zero_add]
  cases rootRecordOf pg <;> cases newestRecord pages <;> rfl

/-- The record of page `n`, of highest sequence among the pages' records and the first of those (R136, log entry 43). -/
def newestAt (pages : List PageRead) (r : RootRecord) (n : Nat) : Prop :=
  pages[n]?.bind rootRecordOf = some r ∧ ∀ (m : Nat) (q : RootRecord), pages[m]?.bind rootRecordOf = some q →
    q.sequence ≤ r.sequence ∧ (q.sequence = r.sequence → n ≤ m)

theorem getElem?_concat_cases {α : Type} {l : List α} {a b : α} {n : Nat} (h : (l ++ [a])[n]? = some b) :
    l[n]? = some b ∨ n = l.length ∧ b = a := by
  rw [List.getElem?_append] at h
  split at h
  · exact .inl h
  · rename_i hge
    obtain ⟨hn, hb⟩ := List.getElem?_eq_some_iff.1 h
    have hn' : n - l.length = 0 := by simpa using hn
    refine .inr ⟨by omega, ?_⟩
    rw [hn'] at h
    simpa using h.symm

/-- A record of one page more is a record of the pages before it, or the new page's. -/
theorem recordAt_concat {pages : List PageRead} {pg : PageRead} {m : Nat} {q : RootRecord} :
    (pages ++ [pg])[m]?.bind rootRecordOf = some q ↔
      pages[m]?.bind rootRecordOf = some q ∨ m = pages.length ∧ rootRecordOf pg = some q := by
  constructor
  · intro h
    obtain ⟨x, hx, hq⟩ := Option.bind_eq_some_iff.1 h
    rcases getElem?_concat_cases hx with hx | ⟨hm, rfl⟩
    · exact .inl (Option.bind_eq_some_iff.2 ⟨x, hx, hq⟩)
    · exact .inr ⟨hm, hq⟩
  · rintro (h | ⟨rfl, h⟩)
    · obtain ⟨x, hx, hq⟩ := Option.bind_eq_some_iff.1 h
      obtain ⟨hlt, -⟩ := List.getElem?_eq_some_iff.1 hx
      rw [List.getElem?_append_left hlt]
      exact h
    · simpa using h

theorem recordAt_lt {pages : List PageRead} {m : Nat} {q : RootRecord} (h : pages[m]?.bind rootRecordOf = some q) :
    m < pages.length := by
  obtain ⟨x, hx, -⟩ := Option.bind_eq_some_iff.1 h
  exact (List.getElem?_eq_some_iff.1 hx).1

theorem newestRecord_spec (pages : List PageRead) : match newestRecord pages with
    | none => ∀ (m : Nat) (q : RootRecord), pages[m]?.bind rootRecordOf ≠ some q
    | some (r, n) => newestAt pages r n := by
  induction pages using List.reverseRecOn with
  | nil => exact fun m q h => by simp at h
  | append_singleton pages pg ih =>
    rw [newestRecord_concat]
    cases hr : rootRecordOf pg with
    | none =>
      have hsame : ∀ (m : Nat) (q : RootRecord),
          (pages ++ [pg])[m]?.bind rootRecordOf = some q ↔ pages[m]?.bind rootRecordOf = some q := fun m q => by
        rw [recordAt_concat, hr]
        simp
      cases hb : newestRecord pages with
      | none =>
        rw [hb] at ih
        exact fun m q h => ih m q ((hsame m q).1 h)
      | some b =>
        rw [hb] at ih
        exact ⟨(hsame _ _).2 ih.1, fun m q h => ih.2 m q ((hsame m q).1 h)⟩
    | some r =>
      cases hb : newestRecord pages with
      | none =>
        rw [hb] at ih
        refine ⟨recordAt_concat.2 (.inr ⟨rfl, hr⟩), fun m q h => ?_⟩
        rcases recordAt_concat.1 h with h | ⟨hm, hq⟩
        · exact absurd h (ih m q)
        · rw [hr] at hq
          cases hq
          exact ⟨Nat.le_refl _, fun _ => Nat.le_of_eq hm.symm⟩
      | some b =>
        obtain ⟨x, n⟩ := b
        rw [hb] at ih
        obtain ⟨hat, hmax⟩ := ih
        by_cases hlt : x.sequence < r.sequence
        · simp only [if_pos hlt]
          refine ⟨recordAt_concat.2 (.inr ⟨rfl, hr⟩), fun m q h => ?_⟩
          rcases recordAt_concat.1 h with h | ⟨hm, hq⟩
          · obtain ⟨hle, -⟩ := hmax m q h
            exact ⟨by omega, fun heq => by omega⟩
          · rw [hr] at hq
            cases hq
            exact ⟨Nat.le_refl _, fun _ => Nat.le_of_eq hm.symm⟩
        · simp only [if_neg hlt]
          refine ⟨recordAt_concat.2 (.inl hat), fun m q h => ?_⟩
          rcases recordAt_concat.1 h with h | ⟨hm, hq⟩
          · exact hmax m q h
          · rw [hr] at hq
            cases hq
            exact ⟨by omega, fun _ => by have := recordAt_lt hat; omega⟩

/-- There is no newest record just where no page is a record (R136). -/
theorem newestRecord_eq_none_iff (pages : List PageRead) : newestRecord pages = none ↔ ∀ pg ∈ pages, rootRecordOf pg = none := by
  have hspec := newestRecord_spec pages
  constructor
  · intro h pg hpg
    rw [h] at hspec
    obtain ⟨m, hm⟩ := List.getElem?_of_mem hpg
    cases hr : rootRecordOf pg with
    | none => rfl
    | some r => exact absurd (by rw [hm]; exact hr) (hspec m r)
  · intro h
    cases hb : newestRecord pages with
    | none => rfl
    | some b =>
      rw [hb] at hspec
      obtain ⟨x, hx, hq⟩ := Option.bind_eq_some_iff.1 hspec.1
      rw [h x (List.mem_of_getElem? hx)] at hq
      cases hq

theorem newestRecord_eq_some_iff (pages : List PageRead) (r : RootRecord) (n : Nat) :
    newestRecord pages = some (r, n) ↔ newestAt pages r n := by
  have hspec := newestRecord_spec pages
  constructor
  · intro h
    rwa [h] at hspec
  · rintro ⟨hat, hmax⟩
    cases hb : newestRecord pages with
    | none =>
      rw [hb] at hspec
      exact absurd hat (hspec n r)
    | some b =>
      obtain ⟨x, k⟩ := b
      rw [hb] at hspec
      obtain ⟨hat', hmax'⟩ := hspec
      obtain ⟨hle, hfirst⟩ := hmax k x hat'
      obtain ⟨hle', hfirst'⟩ := hmax' n r hat
      have hseq : x.sequence = r.sequence := Nat.le_antisymm hle hle'
      have hk : k = n := Nat.le_antisymm (hfirst' hseq.symm) (hfirst hseq)
      subst hk
      rw [hat] at hat'
      rw [Option.some.inj hat']

/-! ### Where the log goes on (R136) -/

theorem pageProgrammed_iff (pg : PageRead) :
    pageProgrammed pg = true ↔ readable pg = false ∨ ∃ b ∈ pageBytes pg, b ≠ 0xFF#8 := by
  simp [pageProgrammed]

theorem afterProgrammed_concat (pages : List PageRead) (pg : PageRead) : afterProgrammed (pages ++ [pg]) =
    if pageProgrammed pg then pages.length + 1 else afterProgrammed pages := by
  rw [afterProgrammed, List.zipIdx_append, List.foldl_append, ← afterProgrammed]
  simp only [List.zipIdx_cons, List.zipIdx_nil, List.foldl_cons, List.foldl_nil, Nat.zero_add]

/-- The log goes on at the first page after the last programmed one (R136). -/
theorem afterProgrammed_spec (pages : List PageRead) :
    (0 < afterProgrammed pages → ∃ pg, pages[afterProgrammed pages - 1]? = some pg ∧ pageProgrammed pg = true) ∧
      ∀ (m : Nat) (pg : PageRead), afterProgrammed pages ≤ m → pages[m]? = some pg → pageProgrammed pg = false := by
  induction pages using List.reverseRecOn with
  | nil => exact ⟨fun h => absurd h (by decide), fun m pg _ h => by simp at h⟩
  | append_singleton pages pg ih =>
    rw [afterProgrammed_concat]
    cases hp : pageProgrammed pg with
    | true =>
      rw [if_pos rfl]
      refine ⟨fun _ => ⟨pg, by simp, hp⟩, fun m x hm hx => ?_⟩
      obtain ⟨hlt, -⟩ := List.getElem?_eq_some_iff.1 hx
      simp at hlt
      omega
    | false =>
      rw [if_neg Bool.false_ne_true]
      obtain ⟨hlast, hafter⟩ := ih
      refine ⟨fun hpos => ?_, fun m x hm hx => ?_⟩
      · obtain ⟨x, hx, hxp⟩ := hlast hpos
        obtain ⟨hlt, -⟩ := List.getElem?_eq_some_iff.1 hx
        exact ⟨x, by rw [List.getElem?_append_left hlt, hx], hxp⟩
      · rcases getElem?_concat_cases hx with hx | ⟨-, rfl⟩
        · exact hafter m x hm hx
        · exact hp

end Sys2Proof.Machine
end

section
/-!
The end of a mount (R136, R137, R171, R172): what it leaves of the settings, the unit table, HELLO and the REMOUNT reply; for the
statement of O29.
-/

namespace Sys2Proof.Machine

open Sys2Proof

/-! ### The settings load does not look at the store (R175) -/

theorem Entry.store_setStore (e : Entry) (v : Int) (s : State) (st : Store) : e.store v (s.setStore st) = (e.store v s).setStore st := by
  cases e <;> rfl

theorem loadEntry_setStore (s : State) (st : Store) (p : Nat × Nat) : loadEntry (s.setStore st) p = (loadEntry s p).setStore st := by
  unfold loadEntry
  cases entryOf p.1 with
  | none => rfl
  | some e =>
    cases ht : e.isTiming with
    | true => simp only [ht, if_true]
    | false =>
      simp only [ht, Bool.false_eq_true, if_false]
      exact e.store_setStore _ s st

theorem loadedEntries_setStore (block : List Nat) (s : State) (st : Store) :
    loadedEntries block (s.setStore st) = (loadedEntries block s).setStore st := by
  unfold loadedEntries
  induction settingIndexes.zip block generalizing s with
  | nil => rfl
  | cons p ps ih => rw [List.foldl_cons, List.foldl_cons, loadEntry_setStore, ih]

theorem endChange_setStore (s : State) (st : Store) : endChange (s.setStore st) = (endChange s).setStore st := by
  unfold endChange
  simp only [State.setStore_power]
  cases s.power.setPowerTag <;> rfl

theorem reportTarget_setStore (i : Fin 2) (s : State) (st : Store) :
    reportTarget i (s.setStore st) = (reportTarget i s).setStore st := by
  let u := s.setPower { s.power with reached := s.power.reached.set i true }
  have hleft : reportTarget i (s.setStore st) = if s.power.changing then
      (if u.power.reached.s0 && u.power.reached.s1 then endChange (u.setStore st) else u.setStore st) else s.setStore st := rfl
  have hright : reportTarget i s = if s.power.changing then
      (if u.power.reached.s0 && u.power.reached.s1 then endChange u else u) else s := rfl
  rw [hleft, hright, endChange_setStore]
  split
  · split <;> rfl
  · rfl

theorem powerUpRequest_setStore (i : Fin 2) (s : State) (st : Store) :
    powerUpRequest i (s.setStore st) = (powerUpRequest i s).setStore st := by
  let t := s.setScreen i { s.screen i with wantedOn := true }
  have hscreen : ((s.setStore st).setScreen i { (s.setStore st).screen i with wantedOn := true }) = t.setStore st := rfl
  unfold powerUpRequest
  rw [hscreen]
  change (match (t.screen i).state with
    | .off => enterWaking i (t.setStore st) | .running => reportTarget i (t.setStore st) | _ => t.setStore st) =
    (match (t.screen i).state with | .off => enterWaking i t | .running => reportTarget i t | _ => t).setStore st
  cases (t.screen i).state
  case running => exact reportTarget_setStore i t st
  all_goals rfl

theorem settingsLoad_setStore (block : Option (List Nat)) (s : State) (st : Store) :
    settingsLoad block (s.setStore st) = (settingsLoad block s).setStore st := by
  have hblock : loadBlock (block.getD defaultBlock) (s.setStore st) = (loadBlock (block.getD defaultBlock) s).setStore st := by
    rw [loadBlock_eq, loadBlock_eq, loadedEntries_setStore]
    rfl
  have hsend : ∀ (i : Fin 2) (s : State), sendPower .active i (s.setStore st) = (sendPower .active i s).setStore st :=
    fun i s => powerUpRequest_setStore i s st
  let v := (loadBlock (block.getD defaultBlock) s).setPower { (loadBlock (block.getD defaultBlock) s).power with
    settings := some (if block.isSome then .loaded else .defaults) }
  unfold settingsLoad
  rw [hblock]
  exact (congrArg (sendPower .active 1) (hsend 0 v)).trans (hsend 1 _)

/-- What a settings load leaves: no store, no Catalog, and both screens wanted on (R171, R175). -/
theorem settingsLoad_wantedOn (block : Option (List Nat)) (s : State) (i : Fin 2) :
    ((settingsLoad block s).screen i).wantedOn = true := by
  obtain ⟨screens, power, l, h, hscreens, -⟩ := settingsLoad_eq block s
  rw [h]
  show (screens.get i).wantedOn = true
  rw [hscreens, Screen.wokenUp]
  split <;> rfl

theorem settingsLoad_causes (block : Option (List Nat)) (s : State) : (settingsLoad block s).power.causes = s.power.causes := by
  have hsend : ∀ (i : Fin 2) (s : State), (sendPower .active i s).power.causes = s.power.causes := fun i s => by
    obtain ⟨reached, changing, tag, l, h, -⟩ := powerUpRequest_frame i s
    exact congrArg (·.power.causes) h
  have hblock : (loadBlock (block.getD defaultBlock) s).power = s.power := by
    rw [loadBlock_eq]
    exact congrArg (·.power) (blank_loadedEntries (block.getD defaultBlock) s)
  unfold settingsLoad
  dsimp only
  rw [hsend, hsend, State.setPower_power, hblock]

/-! ### HELLO and the REMOUNT reply (R137, R172) -/

/-- The Store Controller in service and its answer: HELLO at the start-up mount, else the switch announced and the REMOUNT answered. -/
def State.answersMount (new : StoreState) (s : State) : State :=
  let z := s.setStore { s.store with state := new, mount := .none, startUp := false }
  if s.store.startUp then hello z else answerRemount (announceSwitch z)

theorem mountEnd_eq (new : StoreState) (cause : StoreCause) (s : State) :
    mountEnd new cause s = stateNotice .mounting cause (mountGlyphs (s.answersMount new)) := rfl

theorem announceSwitch_frame (s : State) : ∃ plans cache, announceSwitch s = { s with plans := plans, cache := cache } := by
  obtain ⟨cache, -, h⟩ := announceSwitch_eq s
  exact ⟨⟨{ s.plans.s0 with reResolve := true }, { s.plans.s1 with reResolve := true }⟩, cache, h⟩

/-- The HELLO of a start-up mount that ends in a store state (R172). -/
def helloMsg (new : StoreState) (s : State) : LinkMsg :=
  { kind := 0xE0, tag := 0
    payload := beBytes 2 0x5436 ++ [3#8, byteOf new.code, byteOf s.catalog.state.code] ++ beBytes 4 s.catalog.number ++
      [if s.power.settings = some .loaded then 0#8 else 1#8] ++ causeBytes s.power.causes }

/-- The reply to the REMOUNT whose mount ends with the store taking reads (R137). -/
def remountMsg (new : StoreState) (tag : Nat) (s : State) : LinkMsg :=
  replyMsg 0x11 tag .ok ([byteOf new.code, byteOf s.catalog.state.code] ++ beBytes 4 s.catalog.number) .nothing

/-- What the host is told at the end of a mount: HELLO at start-up, the reply to a REMOUNT otherwise (R137, R172). -/
def State.mountTold (s : State) (new : StoreState) (tag : Option Nat) (l : Link) : Prop :=
  (s.store.startUp = true → l.helloSent = true ∧ helloMsg new s ∈ l.queued) ∧
    (s.store.startUp = false → ∀ n, s.store.remountTag = some n → tag = none ∧ remountMsg new n s ∈ l.queued)

theorem Link.push_helloSent (l : Link) (m : LinkMsg) : (l.push m).helloSent = l.helloSent := by
  unfold Link.push Link.startSend
  dsimp only
  split <;> rfl

theorem answersMount_eq {new : StoreState} (hreads : new = .online ∨ new = .readOnly) (s : State) : ∃ plans cache link tag,
    s.answersMount new = { s with plans := plans, cache := cache, link := link, store := { s.store with
      state := new, mount := .none, startUp := false, remountTag := tag } } ∧ s.mountTold new tag link := by
  unfold State.answersMount
  cases hs : s.store.startUp with
  | true =>
    refine ⟨s.plans, s.cache, _, s.store.remountTag, rfl, fun _ => ⟨?_, ?_⟩, fun h => by rw [hs] at h; cases h⟩
    · rw [Link.push_helloSent]
    · rw [Link.queued_push]
      exact List.mem_append_right _ (List.mem_singleton_self _)
  | false =>
    obtain ⟨plans, cache, hannounced⟩ :=
      announceSwitch_frame (s.setStore { s.store with state := new, mount := .none, startUp := false })
    rw [if_neg Bool.false_ne_true, hannounced]
    cases ht : s.store.remountTag with
    | none =>
      refine ⟨plans, cache, s.link, none, ?_, fun h => (by rw [hs] at h; cases h), fun _ n h => by rw [ht] at h; cases h⟩
      simp only [answerRemount, State.setStore_store, ht]
      rfl
    | some n =>
      refine ⟨plans, cache, s.link.fillPlace (remountMsg new n s), none, ?_, fun h => (by rw [hs] at h; cases h),
        fun _ m h => ⟨rfl, ?_⟩⟩
      · have htakes : ∀ st : Store, st.state = new → st.reads = true := fun st h => (Store.reads_iff st).2 (by rw [h]; exact hreads)
        simp only [answerRemount, State.setStore_store, ht]
        rw [htakes _ rfl, if_pos rfl]
        rfl
      · rw [ht] at h
        cases h
        rw [Link.queued_fillPlace]
        exact List.mem_append_right _ (List.mem_singleton_self _)

/-! ### The end of a mount in service (R126, R136) -/

theorem mountGlyphs_quiet {s : State} (h : s.catalog.glyphKey = 0 ∨ s.catalog.liveRecord s.catalog.glyphKey = none) :
    mountGlyphs s = s := by
  unfold mountGlyphs
  split
  · rename_i hk
    rw [h.resolve_left hk.2]
  · rfl

theorem mountGlyphs_loads {s : State} {a : Asset} (hreads : s.store.reads = true) (hk : s.catalog.glyphKey ≠ 0)
    (ha : s.catalog.liveRecord s.catalog.glyphKey = some a) : mountGlyphs s = startGlyphLoad a s := by
  rw [mountGlyphs, if_pos ⟨hreads, hk⟩, ha]

theorem mountGlyphs_link (s : State) : (mountGlyphs s).link = s.link := by
  unfold mountGlyphs
  split
  · split
    · rw [startGlyphLoad_eq]
    · rfl
  · rfl

/-- A notice leaves what the host has been told at the end of a mount on its way (R190). -/
theorem State.mountTold.notice {s t : State} {new : StoreState} {tag : Option Nat} (h : s.mountTold new tag t.link) (kind : Nat)
    (payload : List Byte) : s.mountTold new tag (notice kind payload t).link := by
  obtain ⟨hsent, -⟩ := notice_room kind payload t
  have hkeep : ∀ m ∈ t.link.queued, m ∈ (Sys2Proof.Machine.notice kind payload t).link.queued := fun m hm =>
    (notice_keeps kind payload t).subset hm
  obtain ⟨hhello, hremount⟩ := h
  refine ⟨fun hs => ?_, fun hs n hn => ?_⟩
  · obtain ⟨hh, hm⟩ := hhello hs
    exact ⟨hsent.trans hh, hkeep _ hm⟩
  · obtain ⟨ht, hm⟩ := hremount hs n hn
    exact ⟨ht, hkeep _ hm⟩

/-- The state in which a store of the descriptor serves (R136). -/
def Descriptor.service (d : Descriptor) : StoreState := if d.protect then .readOnly else .online

theorem Descriptor.service_reads (d : Descriptor) : d.service = .online ∨ d.service = .readOnly := by
  unfold Descriptor.service
  split
  · exact .inr rfl
  · exact .inl rfl

/-- The store in service, with the unit table, bad unit list and image part of its mount (R136). -/
def Store.served (d : Descriptor) (bad held : List Nat) (part : ImagePart) (tag : Option Nat) (st : Store) : Store :=
  { st with
    state := d.service, mount := .none, startUp := false, remountTag := tag
    units := (List.range d.unitCount).map (mountedUnit bad held), badUnits := bad, fillUnit := none, imagePart := part }

/-- The holders of the units that the Catalog hands over (R126). -/
def State.heldUnits (s : State) (d : Descriptor) : List Nat := mountHolders d.pagesPerUnit s.catalog

/-- The image part that a mount keeps: the record's, where its image has been loaded (R136). -/
def State.keptPart (s : State) (record : Option RootRecord) : ImagePart :=
  if s.catalog.state = .valid then (record.map (·.image)).getD {} else {}

/-- The state with the store in service after a mount, before the glyph load and the notice (R136). -/
def State.inService (s : State) (d : Descriptor) (record : Option RootRecord) (plans : Two PlanScreen) (cache : StillCache) (link : Link)
    (tag : Option Nat) : State :=
  { s with
    plans := plans, cache := cache, link := link
    store := s.store.served d ((record.map (·.badUnits)).getD []) (s.heldUnits d) (s.keptPart record) tag }

theorem mountService_eq {s : State} {d : Descriptor} (hd : s.store.descriptor = some d) (record : Option RootRecord) :
    ∃ plans cache link tag l, mountService record s = (mountGlyphs (s.inService d record plans cache link tag)).setLink l ∧
      s.mountTold d.service tag l := by
  let z := s.setStore { s.store with
    units := (List.range d.unitCount).map (mountedUnit ((record.map (·.badUnits)).getD []) (s.heldUnits d))
    badUnits := (record.map (·.badUnits)).getD [], fillUnit := none, imagePart := s.keptPart record }
  obtain ⟨plans, cache, link, tag, hanswer, htold⟩ := answersMount_eq d.service_reads z
  have hend : mountService record s = mountEnd d.service .mountEnd z := by
    rw [mountService, hd]
    rfl
  rw [mountEnd_eq, hanswer] at hend
  generalize hx : ({ z with plans := plans, cache := cache, link := link, store := { z.store with
    state := d.service, mount := .none, startUp := false, remountTag := tag } } : State) = x at hend
  have hlink : (mountGlyphs x).link = link := by rw [mountGlyphs_link, ← hx]
  obtain ⟨l, hl⟩ := stateNotice_link .mounting .mountEnd (mountGlyphs x)
  have htold' : z.mountTold d.service tag l := by
    have hsame : l = (stateNotice .mounting .mountEnd (mountGlyphs x)).link := by rw [hl]; rfl
    rw [hsame]
    exact State.mountTold.notice (by rw [hlink]; exact htold) _ _
  exact ⟨plans, cache, link, tag, l, by rw [hend, hl, ← hx]; rfl, htold'⟩

/-! ### The unit table (R131, R136) -/

/-- The eraser may take up the FREE_DIRTY units of a store that is not write-protected; every other unit is as the mount built it. -/
theorem served_units {d : Descriptor} {bad held : List Nat} {st : Store} (hstate : st.state = d.service)
    (hunits : st.units = (List.range d.unitCount).map (mountedUnit bad held)) :
    st.eraser.units.length = d.unitCount ∧ ∀ (u : Nat) (e : UnitRec), st.eraser.units[u]? = some e →
      (u < 2 → e = ⟨.root, 0⟩) ∧ (2 ≤ u → u ∈ bad → e = ⟨.bad, held.count u⟩) ∧
      (2 ≤ u → u ∉ bad → u ∈ held → e = ⟨.sealed, held.count u⟩) ∧
      (2 ≤ u → u ∉ bad → u ∉ held → e.holders = 0 ∧ (e.state = .freeDirty ∨ d.protect = false ∧ e.state = .erasing)) := by
  obtain ⟨_, _, _, _, hframe, hlength⟩ := st.eraser_frame
  have hcount : st.eraser.units.length = d.unitCount := by
    rw [hframe, hlength, hunits, List.length_map, List.length_range]
  refine ⟨hcount, fun u e he => ?_⟩
  have hlt : u < d.unitCount := by
    rw [← hcount]
    exact (List.getElem?_eq_some_iff.1 he).1
  have hbuilt : st.units[u]? = some (mountedUnit bad held u) := by
    rw [hunits, List.getElem?_map, List.getElem?_range hlt]
    rfl
  have hkept : (mountedUnit bad held u).state ≠ .freeDirty → e = mountedUnit bad held u := fun hs => by
    rw [st.eraser_keeps hbuilt hs] at he
    exact (Option.some.inj he).symm
  by_cases h2 : u < 2
  · have hroot : mountedUnit bad held u = ⟨.root, 0⟩ := by rw [mountedUnit, if_pos h2]
    rw [hroot] at hkept
    exact ⟨fun _ => hkept (by decide), fun h => by omega, fun h => by omega, fun h => by omega⟩
  · by_cases hbad : u ∈ bad
    · have hlisted : mountedUnit bad held u = ⟨.bad, held.count u⟩ := by rw [mountedUnit, if_neg h2, if_pos hbad]
      rw [hlisted] at hkept
      exact ⟨fun h => absurd h h2, fun _ _ => hkept (fun h => by cases h), fun _ h => absurd hbad h, fun _ h => absurd hbad h⟩
    · by_cases hheld : u ∈ held
      · have hsealed : mountedUnit bad held u = ⟨.sealed, held.count u⟩ := by
          rw [mountedUnit, if_neg h2, if_neg hbad, if_pos hheld]
        rw [hsealed] at hkept
        exact ⟨fun h => absurd h h2, fun _ h => absurd h hbad, fun _ _ _ => hkept (fun h => by cases h), fun _ _ h => absurd hheld h⟩
      · have hfree : mountedUnit bad held u = ⟨.freeDirty, 0⟩ := by rw [mountedUnit, if_neg h2, if_neg hbad, if_neg hheld]
        rw [hfree] at hbuilt
        refine ⟨fun h => absurd h h2, fun _ h => absurd h hbad, fun _ _ h => absurd h hheld, fun _ _ _ => ?_⟩
        by_cases hon : st.state = .online
        · have hopen : d.protect = false := by
            cases hp : d.protect with
            | false => rfl
            | true =>
              rw [hstate, Descriptor.service, if_pos hp] at hon
              cases hon
          rcases st.eraser_units hbuilt with h | ⟨-, h⟩
          · rw [he] at h
            cases h
            exact ⟨rfl, .inl rfl⟩
          · rw [he] at h
            cases h
            exact ⟨rfl, .inr ⟨hopen, rfl⟩⟩
        · rw [Store.eraser_of_not_online hon, hbuilt] at he
          cases he
          exact ⟨rfl, .inl rfl⟩

end Sys2Proof.Machine
end

section
/-!
A mount that has ended in service (R126, R136): the store, the unit table and the glyph load that it leaves once the eraser has acted and
the open passes have seen it; for the statement of O29.
-/

namespace Sys2Proof.Machine

open Sys2Proof

/-! ### The glyph load of a mount's end (R125, R126) -/

theorem startGlyphLoad_frame (a : Asset) (s : State) : ∃ c arb held, startGlyphLoad a s =
    { s with catalog := c, store := { s.store with arbiter := arb, heldBack := held } } := by
  rw [startGlyphLoad_eq]
  cases readRuns (takePages (pagesFor a.length) a.extents) with
  | nil => exact ⟨_, s.store.arbiter, s.store.heldBack, rfl⟩
  | cons r _ =>
    obtain ⟨arb, held, h⟩ := Store.place_frame .glyph .prefetch (.pageRead r) s.store
    exact ⟨_, arb, held, by dsimp only; rw [h]⟩

theorem mountGlyphs_frame (s : State) : ∃ c arb held, mountGlyphs s =
    { s with catalog := c, store := { s.store with arbiter := arb, heldBack := held } } := by
  unfold mountGlyphs
  split
  · split
    · exact startGlyphLoad_frame _ s
    · exact ⟨s.catalog, s.store.arbiter, s.store.heldBack, rfl⟩
  · exact ⟨s.catalog, s.store.arbiter, s.store.heldBack, rfl⟩

/-- The glyph load of a record that has begun in `t`, on the Catalog `c` and with a free port (R125). -/
structure GlyphBegun (c : Catalog) (a : Asset) (t : State) : Prop where
  catalog : t.catalog = { c.modify a.uid (fun a => { a with readers := a.readers + 1 }) with
    glyphs := none, glyphLoad := some ⟨a.uid, (readRuns (takePages (pagesFor a.length) a.extents)).drop 1, []⟩ }
  asks : ∀ (r : Run) (more : List Run), readRuns (takePages (pagesFor a.length) a.extents) = r :: more →
    ⟨.glyph, .prefetch, .pageRead r, 0⟩ ∈ t.store.arbiter

theorem startGlyphLoad_begun (a : Asset) {s : State} (hfree : s.store.port = none) : GlyphBegun s.catalog a (startGlyphLoad a s) := by
  rw [startGlyphLoad_eq]
  refine ⟨rfl, fun r more h => ?_⟩
  simp only [h]
  rw [Store.place_of_free hfree]
  exact List.mem_append_right _ (List.mem_singleton_self _)

/-! ### The store in service (R136) -/

/-- The unit table of a mount in service, of which the eraser of an ONLINE store may have taken up FREE_DIRTY units (R131, R136, R143). -/
def Descriptor.tabled (d : Descriptor) (bad held : List Nat) (units : List UnitRec) : Prop :=
  units.length = d.unitCount ∧ ∀ (u : Nat) (e : UnitRec), units[u]? = some e →
    (u < 2 → e = ⟨.root, 0⟩) ∧ (2 ≤ u → u ∈ bad → e = ⟨.bad, held.count u⟩) ∧
    (2 ≤ u → u ∉ bad → u ∈ held → e = ⟨.sealed, held.count u⟩) ∧
    (2 ≤ u → u ∉ bad → u ∉ held → e.holders = 0 ∧ (e.state = .freeDirty ∨ d.protect = false ∧ e.state = .erasing))

/-- What the end of a mount in `x` leaves in `t`: the store in service, the host told, and the other units as they stood (R136). -/
structure State.ServedAs (x : State) (d : Descriptor) (bad held : List Nat) (part : ImagePart) (t : State) : Prop where
  state : t.store.state = d.service
  mount : t.store.mount = .none
  startUp : t.store.startUp = false
  badUnits : t.store.badUnits = bad
  imagePart : t.store.imagePart = part
  units : d.tabled bad held t.store.units
  log : t.store.rootPos = x.store.rootPos ∧ t.store.highestSeq = x.store.highestSeq ∧ t.store.newestRoot = x.store.newestRoot
  told : x.mountTold d.service t.store.remountTag t.link
  others : t.power = x.power ∧ t.light = x.light ∧ t.screens = x.screens
  matrix : ∀ i : Fin 2, (t.compScreen i).matrix = (x.compScreen i).matrix

/-- The end of a mount in service, once the eraser has acted and the open passes have seen what changed since `s` (R35, R136, R143). -/
def State.mountedSince (s : State) (record : Option RootRecord) (x : State) : State := (eraserStep (mountService record x)).seenSince s

section Served

variable {x : State} {d : Descriptor} (hd : x.store.descriptor = some d) (record : Option RootRecord) (s : State)
include hd

theorem State.mountedSince_served :
    x.ServedAs d ((record.map (·.badUnits)).getD []) (x.heldUnits d) (x.keptPart record) (s.mountedSince record x) := by
  obtain ⟨plans, cache, link, tag, l, hend, htold⟩ := mountService_eq hd record
  obtain ⟨c, arb, held, hglyphs⟩ := mountGlyphs_frame (x.inService d record plans cache link tag)
  let st : Store := { x.store.served d ((record.map (·.badUnits)).getD []) (x.heldUnits d) (x.keptPart record) tag with
    arbiter := arb, heldBack := held }
  have hbefore : eraserStep (mountService record x) =
      { x with plans := plans, cache := cache, link := l, catalog := c, store := st.eraser } := by
    rw [hend, hglyphs]
    rfl
  obtain ⟨units, batch, arb', held', herased, -⟩ := st.eraser_frame
  have hafter : s.mountedSince record x = { x with
      plans := plans, cache := cache, link := l, catalog := c, store := st.eraser, comp := (s.mountedSince record x).comp } := by
    rw [State.mountedSince, seenSince_frame, hbefore]
  have hstore : (s.mountedSince record x).store = st.eraser := congrArg State.store hafter
  have htable : d.tabled _ _ st.eraser.units := served_units (st := st) rfl rfl
  constructor
  case units => rw [hstore]; exact htable
  case told =>
    have htag : (s.mountedSince record x).store.remountTag = tag := by rw [hstore, herased]; rfl
    rw [htag, hafter]
    exact htold
  case others => rw [hafter]; exact ⟨rfl, rfl, rfl⟩
  case matrix =>
    intro i
    obtain ⟨hmatrix, -⟩ := seenSince_spec (eraserStep (mountService record x)) s i
    rw [State.mountedSince, hmatrix, hbefore]
    rfl
  case log => rw [hstore, herased]; exact ⟨rfl, rfl, rfl⟩
  all_goals rw [hstore, herased]; rfl

/-- With no glyph record the end of a mount leaves the Catalog as it was handed over (R126, log entry 45). -/
theorem State.mountedSince_quiet (hq : x.catalog.glyphKey = 0 ∨ x.catalog.liveRecord x.catalog.glyphKey = none) :
    (s.mountedSince record x).catalog = x.catalog := by
  obtain ⟨plans, cache, link, tag, l, hend, -⟩ := mountService_eq hd record
  rw [mountGlyphs_quiet (s := x.inService d record plans cache link tag) hq] at hend
  rw [State.mountedSince, seenSince_frame, hend]
  rfl

/-- With a live glyph record the end of a mount begins its load (R125, R126). -/
theorem State.mountedSince_begun (hfree : x.store.port = none) {a : Asset} (hk : x.catalog.glyphKey ≠ 0)
    (ha : x.catalog.liveRecord x.catalog.glyphKey = some a) : GlyphBegun x.catalog a (s.mountedSince record x) := by
  obtain ⟨plans, cache, link, tag, l, hend, -⟩ := mountService_eq hd record
  rw [mountGlyphs_loads (s := x.inService d record plans cache link tag) ((Store.reads_iff _).2 d.service_reads) hk ha] at hend
  obtain ⟨hcatalog, hasks⟩ := startGlyphLoad_begun a (s := x.inService d record plans cache link tag) hfree
  obtain ⟨added, _, hwaits, -⟩ := (startGlyphLoad a (x.inService d record plans cache link tag)).store.eraser_waiting
  have harbiter : (s.mountedSince record x).store.arbiter =
      (startGlyphLoad a (x.inService d record plans cache link tag)).store.arbiter ++ added := by
    rw [State.mountedSince, seenSince_frame, hend]
    exact hwaits
  refine ⟨?_, fun r more h => ?_⟩
  · rw [State.mountedSince, seenSince_frame, hend]
    exact hcatalog
  · rw [harbiter]
    exact List.mem_append_left _ (hasks r more h)

end Served

end Sys2Proof.Machine
end

section
/-!
The mount's reads of the catalog image (R126, R136, R145): the next read, the image that loads, and the image that is lost; for the
statement of O29.
-/

namespace Sys2Proof.Machine

open Sys2Proof

/-! ### The port after a read of the mount -/

section Freed

variable (p : PortOp) (st : Store)

@[simp] theorem Store.portFreed_descriptor : (st.portFreed p).descriptor = st.descriptor := by
  obtain ⟨units, h⟩ := st.portFreed_frame p
  rw [h]

@[simp] theorem Store.portFreed_startUp : (st.portFreed p).startUp = st.startUp := by
  obtain ⟨units, h⟩ := st.portFreed_frame p
  rw [h]

@[simp] theorem Store.portFreed_remountTag : (st.portFreed p).remountTag = st.remountTag := by
  obtain ⟨units, h⟩ := st.portFreed_frame p
  rw [h]

@[simp] theorem Store.portFreed_pagesPerUnit : (st.portFreed p).pagesPerUnit = st.pagesPerUnit := by
  obtain ⟨units, h⟩ := st.portFreed_frame p
  rw [h]
  rfl

end Freed

/-- The state with the port free after the operation (R148). -/
def State.freed (s : State) (p : PortOp) : State := s.setStore (s.store.portFreed p)

/-- The state with the mount's next read placed behind the free port (R136, R148). -/
def State.asksMount (s : State) (p : PortOp) (step : MountStep) (purpose : Purpose) (run : Run) : State :=
  s.setStore (({ s.store.portFreed p with mount := step } : Store).place purpose .write (.pageRead run))

theorem asksMount_seenSince (s : State) (p : PortOp) (step : MountStep) (purpose : Purpose) (run : Run) :
    let t := (s.asksMount p step purpose run).seenSince s
    t.store.mount = step ∧ t.store.port = none ∧ ⟨purpose, .write, .pageRead run, 0⟩ ∈ t.store.arbiter := by
  intro t
  have hstore : t.store = { ({ s.store.portFreed p with mount := step } : Store) with
      arbiter := (s.store.portFreed p).arbiter ++ [⟨purpose, .write, .pageRead run, 0⟩] } := by
    have hasked : (s.asksMount p step purpose run).store = _ :=
      Store.place_of_free (purpose := purpose) (cls := .write) (op := .pageRead run)
        (st := { s.store.portFreed p with mount := step }) (Store.portFreed_port p s.store)
    exact (congrArg State.store (seenSince_frame (s.asksMount p step purpose run) s)).trans hasked
  rw [hstore]
  exact ⟨rfl, Store.portFreed_port p s.store, List.mem_append_right _ (List.mem_singleton_self _)⟩

/-! ### The completion of an image read (R126, R145) -/

section ImageRead

variable {s : State} {p : PortOp} {run : Run} {pages : List PageRead} (record : RootRecord) (data : List Byte)
  (hl : s.power.resetLow = false) (hp : s.store.port = some p) (hop : p.op = .pageRead run) (hlen : pages.length = run.count)
  (hr : p.releaseReader = none) (hpurpose : p.purpose = .mountImage)
include hl hp hop hlen hr hpurpose

theorem exec_catalogImageReadDone_next {r : Run} {more : List Run} (hm : s.store.mount = .image record data (r :: more))
    (hread : pages.all readable = true) : exec (.catalogImageReadDone pages) s = .next
      ((s.asksMount p (.image record (data ++ pages.flatMap pageBytes) more) .mountImage r).seenSince s) := by
  have hstep : catalogImageReadDoneStep pages s =
      s.asksMount p (.image record (data ++ pages.flatMap pageBytes) more) .mountImage r := by
    simp only [catalogImageReadDoneStep, hp, hm, hop, if_pos (And.intro hpurpose hlen), portEnd_none hp hr, if_pos hread]
    rfl
  have hexec : exec (.catalogImageReadDone pages) s = live (catalogImageReadDoneStep pages) s := rfl
  rw [hexec, live_of_live hl, hstep]

/-- With the last read the image is taken as a whole (R126). -/
theorem exec_catalogImageReadDone_last (hm : s.store.mount = .image record data []) (hread : pages.all readable = true) :
    exec (.catalogImageReadDone pages) s = .next
      ((eraserStep (imageRead record (data ++ pages.flatMap pageBytes) (s.freed p))).seenSince s) := by
  have hstep : catalogImageReadDoneStep pages s = eraserStep (imageRead record (data ++ pages.flatMap pageBytes) (s.freed p)) := by
    simp only [catalogImageReadDoneStep, hp, hm, hop, if_pos (And.intro hpurpose hlen), portEnd_none hp hr, if_pos hread]
    rfl
  have hexec : exec (.catalogImageReadDone pages) s = live (catalogImageReadDoneStep pages) s := rfl
  rw [hexec, live_of_live hl, hstep]

theorem exec_catalogImageReadDone_valid {c : Catalog} (hm : s.store.mount = .image record data []) (hread : pages.all readable = true)
    (hc : buildCatalog record.image ((data ++ pages.flatMap pageBytes).take record.image.length) s.catalog = some c) :
    exec (.catalogImageReadDone pages) s = .next (s.mountedSince (some record) ((s.freed p).setCatalog c)) := by
  have himage : imageRead record (data ++ pages.flatMap pageBytes) (s.freed p) = mountService (some record) ((s.freed p).setCatalog c) := by
    rw [imageRead, State.freed, State.setStore_catalog, hc]
  rw [exec_catalogImageReadDone_last record data hl hp hop hlen hr hpurpose hm hread, himage, State.mountedSince]

theorem exec_catalogImageReadDone_lost {rest : List Run} (hm : s.store.mount = .image record data rest)
    (hlost : pages.all readable = false ∨ rest = [] ∧
      buildCatalog record.image ((data ++ pages.flatMap pageBytes).take record.image.length) s.catalog = none) :
    exec (.catalogImageReadDone pages) s = .next (s.mountedSince (some record)
      ((s.freed p).setCatalog (s.catalog.noGeneration .lost))) := by
  cases hread : pages.all readable with
  | false =>
    have hstep : catalogImageReadDoneStep pages s = eraserStep (imageLost record (s.freed p)) := by
      simp only [catalogImageReadDoneStep, hp, hm, hop, if_pos (And.intro hpurpose hlen), portEnd_none hp hr, hread]
      rfl
    have hexec : exec (.catalogImageReadDone pages) s = live (catalogImageReadDoneStep pages) s := rfl
    rw [hexec, live_of_live hl, hstep]
    rfl
  | true =>
    obtain ⟨rfl, hc⟩ := hlost.resolve_left (by rw [hread]; exact Bool.noConfusion)
    have himage : imageRead record (data ++ pages.flatMap pageBytes) (s.freed p) = imageLost record (s.freed p) := by
      rw [imageRead, State.freed, State.setStore_catalog, hc]
    rw [exec_catalogImageReadDone_last record data hl hp hop hlen hr hpurpose hm hread, himage]
    rfl

end ImageRead

/-! ### The Catalog of an image (R126, R202) -/

theorem sublist_map_filterMap {α β γ : Type} {f : α → Option β} {g : β → γ} {h : α → γ}
    (hfg : ∀ a b, f a = some b → g b = h a) (l : List α) : ((l.filterMap f).map g).Sublist (l.map h) := by
  induction l with
  | nil => exact .slnil
  | cons a l ih =>
    cases ha : f a with
    | none =>
      rw [List.filterMap_cons_none ha]
      exact ih.cons _
    | some b =>
      rw [List.filterMap_cons_some ha, List.map_cons, List.map_cons, hfg a b ha]
      exact ih.cons_cons _

theorem assetAtOffset_loaded {bytes : List Byte} {o uid : Nat} {a : Asset} (h : assetAtOffset bytes o uid = some a) :
    a.uid = uid ∧ a.readers = 0 := by
  obtain ⟨kind, -, rfl⟩ := Option.map_eq_some_iff.1 h
  exact ⟨rfl, rfl⟩

/-- An image that loads makes the live generation of its units, of records without readers that no reader can confuse; glyph memory
stays (R107, R126). -/
theorem buildCatalog_loads {part : ImagePart} {bytes : List Byte} {c d : Catalog} (h : buildCatalog part bytes c = some d) :
    d.state = .valid ∧ d.liveImage = part.units ∧ d.glyphs = c.glyphs ∧ d.glyphLoad = c.glyphLoad ∧
      (d.pool.map (·.uid)).Nodup ∧ ∀ a ∈ d.pool, a.readers = 0 := by
  unfold buildCatalog at h
  dsimp only at h
  split at h
  · cases h
    refine ⟨rfl, rfl, rfl, rfl, ?_, ?_⟩
    · simp only [List.filterMap_map, Function.id_comp]
      refine (sublist_map_filterMap (h := fun i => c.nextUid + i) (fun i a ha => (assetAtOffset_loaded ha).1) _).nodup ?_
      exact List.nodup_range.map fun i j hij => Nat.add_left_cancel hij
    · intro a ha
      simp only [List.filterMap_map, Function.id_comp] at ha
      obtain ⟨i, -, hi⟩ := List.mem_filterMap.1 ha
      exact (assetAtOffset_loaded hi).2
  · cases h

end Sys2Proof.Machine
end

section
/-!
The mount's reads of the root units and the hand-over of the newest record (R133, R136): the next read, the settings and the log position
that a hand-over leaves, and where the mount goes on; for the statement of O29.
-/

namespace Sys2Proof.Machine

open Sys2Proof

/-! ### The hand-over (R136) -/

/-- The store with the log position, the highest sequence and the newest root page that the root units give (R136). -/
def Store.logged (st : Store) (pos : PagePos) (sequence : Nat) (newest : Option Nat) : Store :=
  { st with rootPos := some pos, highestSeq := sequence, newestRoot := newest }

/-- The state whose Power Controller has been handed the settings block: a start-up mount loads it, a REMOUNT none (R136, R171, R175). -/
def State.handed (s : State) (block : Option (List Nat)) : State := if s.store.startUp then settingsLoad block s else s

theorem State.handed_catalog (s : State) (block : Option (List Nat)) : (s.handed block).catalog = s.catalog := by
  obtain ⟨-, -, -, -, hcatalog, -⟩ := settingsLoad_others block s
  unfold State.handed
  split
  · exact hcatalog
  · rfl

theorem State.handed_settings {s : State} (h : s.store.startUp = true) (block : Option (List Nat)) :
    (s.handed block).power.settings = some (if block.isSome = true then .loaded else .defaults) := by
  rw [State.handed, if_pos h]
  exact (settingsLoad_others block s).1

theorem State.handed_causes (s : State) (block : Option (List Nat)) : (s.handed block).power.causes = s.power.causes := by
  unfold State.handed
  split
  · exact settingsLoad_causes block s
  · rfl

theorem State.handed_wantedOn {s : State} (h : s.store.startUp = true) (block : Option (List Nat)) (i : Fin 2) :
    ((s.handed block).screen i).wantedOn = true := by
  rw [State.handed, if_pos h]
  exact settingsLoad_wantedOn block s i

/-- The hand-over without a generation to load (R126, R136). -/
def State.bare (s : State) (k : CatalogState) (block : Option (List Nat)) (st : Store) : State :=
  ((s.handed block).setStore st).setCatalog (s.catalog.noGeneration k)

section HandOver

variable {s : State} {st : Store} (hstart : st.startUp = s.store.startUp)
include hstart

theorem handed_setStore (block : Option (List Nat)) :
    (if (s.setStore st).store.startUp then settingsLoad block (s.setStore st) else s.setStore st) = (s.handed block).setStore st := by
  rw [State.setStore_store, hstart, settingsLoad_setStore, State.handed]
  split <;> rfl

theorem handOver_none : handOver none (s.setStore st) = mountService none (s.bare .empty none st) := by
  unfold handOver
  rw [Option.map_none, handed_setStore hstart, State.bare, ← s.handed_catalog none]
  rfl

variable {d : Descriptor} {r : RootRecord} (hd : st.descriptor = some d)
include hd

/-- A record that names no image hands over an empty generation (R126). -/
theorem handOver_imageless (hunits : r.image.units = []) :
    handOver (some r) (s.setStore st) = mountService (some r) (s.bare .empty (some r.settings) st) := by
  unfold handOver
  rw [Option.map_some, handed_setStore hstart, State.bare, ← s.handed_catalog (some r.settings)]
  simp only [State.setStore_store, hd, if_pos hunits]
  rfl

/-- An image that no store can have is lost before it is read (log entry 27). -/
theorem handOver_unreadable (hunits : r.image.units ≠ []) (himage : imageReadable d r.image = false) :
    handOver (some r) (s.setStore st) = mountService (some r) (s.bare .lost (some r.settings) st) := by
  unfold handOver
  rw [Option.map_some, handed_setStore hstart, State.bare, ← s.handed_catalog (some r.settings)]
  simp only [State.setStore_store, hd, if_neg hunits, himage]
  rfl

/-- The first read of an image that can be read (R126, R202). -/
theorem handOver_image (hunits : r.image.units ≠ []) (himage : imageReadable d r.image = true) {run : Run} {more : List Run}
    (hruns : readRuns (imageRuns d.pagesPerUnit r.image) = run :: more) : handOver (some r) (s.setStore st) =
      (s.handed (some r.settings)).setStore (({ st with mount := .image r [] more } : Store).place .mountImage .write (.pageRead run)) := by
  unfold handOver
  rw [Option.map_some, handed_setStore hstart]
  simp only [State.setStore_store, hd, if_neg hunits, if_pos himage, hruns]
  rfl

end HandOver

/-! ### The reads of an image (R202) -/

theorem readRuns_takePages_ne_nil {n : Nat} {r : Run} (hn : n ≠ 0) (hr : r.count ≠ 0) (rs : List Run) :
    readRuns (takePages n (r :: rs)) ≠ [] := by
  have hsplit : ∀ {m : Nat} (q : Run), m ≠ 0 → splitRun m q ≠ [] := fun {m} q hm => by
    obtain ⟨k, rfl⟩ := Nat.exists_eq_succ_of_ne_zero hm
    unfold splitRun
    split <;> exact List.cons_ne_nil _ _
  rw [takePages, if_neg hn]
  split
  · exact fun h => hsplit _ hn (List.append_eq_nil_iff.1 h).1
  · exact fun h => hsplit _ hr (List.append_eq_nil_iff.1 h).1

/-- An image with its head and a unit has pages to read. -/
theorem imageRuns_reads {ppu : Nat} {part : ImagePart} (hunits : part.units ≠ []) (hlength : 16 ≤ part.length) (hppu : ppu ≠ 0) :
    ∃ run more, readRuns (imageRuns ppu part) = run :: more := by
  obtain ⟨u, us, hu⟩ := List.exists_cons_of_ne_nil hunits
  refine List.exists_cons_of_ne_nil ?_
  rw [imageRuns, hu, List.map_cons]
  exact readRuns_takePages_ne_nil (by unfold pagesFor; omega) hppu _

/-! ### The log position (R136) -/

/-- The log position of the newest record: behind the last programmed page of its unit (R136). -/
def logOf (all : List PageRead) (ppu page : Nat) : PagePos :=
  ⟨page / ppu, afterProgrammed ((all.drop (page / ppu * ppu)).take ppu)⟩

theorem logOf_spec (all : List PageRead) (ppu page : Nat) :
    let programmed := fun pg : PageRead => readable pg = false ∨ ∃ b ∈ pageBytes pg, b ≠ 0xFF#8
    let unit := (all.drop (page / ppu * ppu)).take ppu
    ∃ n, logOf all ppu page = ⟨page / ppu, n⟩ ∧ (0 < n → ∃ pg, unit[n - 1]? = some pg ∧ programmed pg) ∧
      ∀ (m : Nat) (pg : PageRead), n ≤ m → unit[m]? = some pg → ¬ programmed pg := by
  intro programmed unit
  obtain ⟨hlast, hafter⟩ := afterProgrammed_spec unit
  refine ⟨afterProgrammed unit, rfl, fun hpos => ?_, fun m pg hm hpg => ?_⟩
  · obtain ⟨pg, hpg, hprogrammed⟩ := hlast hpos
    exact ⟨pg, hpg, (pageProgrammed_iff pg).1 hprogrammed⟩
  · exact fun h => Bool.false_ne_true ((hafter m pg hm hpg).symm.trans ((pageProgrammed_iff pg).2 h))

/-! ### The completion of a root unit's read (R136, R145) -/

theorem freed_pagesPerUnit {s : State} {d : Descriptor} (p : PortOp) (hd : s.store.descriptor = some d) :
    (s.freed p).store.pagesPerUnit = d.pagesPerUnit := by
  rw [State.freed, State.setStore_store, Store.portFreed_pagesPerUnit, Store.pagesPerUnit, hd]

section RootsRead

variable {s : State} {p : PortOp} {run : Run} {pages : List PageRead} (done : List PageRead)
  (hl : s.power.resetLow = false) (hp : s.store.port = some p) (hop : p.op = .pageRead run) (hlen : pages.length = run.count)
  (hr : p.releaseReader = none) (hpurpose : p.purpose = .mountRoots)
include hl hp hop hlen hr hpurpose

theorem exec_rootUnitReadDone_next {r : Run} {more : List Run} (hm : s.store.mount = .roots done (r :: more)) :
    exec (.rootUnitReadDone pages) s = .next ((s.asksMount p (.roots (done ++ pages) more) .mountRoots r).seenSince s) := by
  have hstep : rootUnitReadDoneStep pages s = s.asksMount p (.roots (done ++ pages) more) .mountRoots r := by
    simp only [rootUnitReadDoneStep, hp, hm, hop, if_pos (And.intro hpurpose hlen), portEnd_none hp hr]
    rfl
  have hexec : exec (.rootUnitReadDone pages) s = live (rootUnitReadDoneStep pages) s := rfl
  rw [hexec, live_of_live hl, hstep]

variable (hm : s.store.mount = .roots done [])
include hm

theorem exec_rootUnitReadDone_last :
    exec (.rootUnitReadDone pages) s = .next ((eraserStep (rootsRead (done ++ pages) (s.freed p))).seenSince s) := by
  have hstep : rootUnitReadDoneStep pages s = eraserStep (rootsRead (done ++ pages) (s.freed p)) := by
    simp only [rootUnitReadDoneStep, hp, hm, hop, if_pos (And.intro hpurpose hlen), portEnd_none hp hr]
    rfl
  have hexec : exec (.rootUnitReadDone pages) s = live (rootUnitReadDoneStep pages) s := rfl
  rw [hexec, live_of_live hl, hstep]

variable {d : Descriptor} (hd : s.store.descriptor = some d)
include hd

/-- Without a valid root record the mount ends in service, the log at the end of unit 1 (R136). -/
theorem exec_rootUnitReadDone_none (hnone : newestRecord (done ++ pages) = none) : exec (.rootUnitReadDone pages) s =
    .next (s.mountedSince none (s.bare .empty none ((s.store.portFreed p).logged ⟨1, d.pagesPerUnit⟩ 0 none))) := by
  have hppu := freed_pagesPerUnit p hd
  have hread : rootsRead (done ++ pages) (s.freed p) =
      handOver none (s.setStore ((s.store.portFreed p).logged ⟨1, d.pagesPerUnit⟩ 0 none)) := by
    simp only [rootsRead, hnone, hppu]
    rfl
  have hover := handOver_none (s := s) (st := (s.store.portFreed p).logged ⟨1, d.pagesPerUnit⟩ 0 none)
    (Store.portFreed_startUp p s.store)
  rw [exec_rootUnitReadDone_last done hl hp hop hlen hr hpurpose hm, hread, hover,
    State.mountedSince]

/-- With a newest root record its fields are handed over, and the log goes on behind the last programmed page of its unit (R136). -/
theorem exec_rootUnitReadDone_found {r : RootRecord} {page : Nat} (hfound : newestRecord (done ++ pages) = some (r, page)) :
    exec (.rootUnitReadDone pages) s = .next ((eraserStep (handOver (some r) (s.setStore
      ((s.store.portFreed p).logged (logOf (done ++ pages) d.pagesPerUnit page) r.sequence (some page))))).seenSince s) := by
  have hppu := freed_pagesPerUnit p hd
  have hread : rootsRead (done ++ pages) (s.freed p) = handOver (some r) (s.setStore
      ((s.store.portFreed p).logged (logOf (done ++ pages) d.pagesPerUnit page) r.sequence (some page))) := by
    simp only [rootsRead, hfound, hppu]
    rfl
  rw [exec_rootUnitReadDone_last done hl hp hop hlen hr hpurpose hm, hread]

end RootsRead

end Sys2Proof.Machine
end

section
/-!
What the completed reads of a mount leave: the ends of a mount with no generation, with a lost image and with a loaded one, and the begin
of the image's reads; then the statement of O29.
-/

namespace Sys2Proof.Machine

open Sys2Proof

/-! ### The end of a mount without a generation (R126, R136) -/

/-- What a hand-over leaves of the Power Controller, the light, the screens and the colour matrices (R136, R175). -/
def State.LoadedAs (s : State) (block : Option (List Nat)) (t : State) : Prop :=
  t.power = (s.handed block).power ∧ t.light = (s.handed block).light ∧ t.screens = (s.handed block).screens ∧
    ∀ i : Fin 2, (t.compScreen i).matrix = ((s.handed block).compScreen i).matrix

section Bare

variable {s : State} {st : Store} {d : Descriptor} {k : CatalogState} {block : Option (List Nat)} {record : Option RootRecord}

theorem State.bare_keptPart (hk : k ≠ .valid) : (s.bare k block st).keptPart record = {} := if_neg hk

theorem State.bare_heldUnits (hpool : s.catalog.pool = []) : (s.bare k block st).heldUnits d = [] := by
  have hbare : (s.bare k block st).heldUnits d =
      (s.catalog.pool.filter fun a => !a.inLive).flatMap fun a => unitsOfRuns d.pagesPerUnit a.extents := rfl
  rw [hbare, hpool]
  rfl

/-- A mount that has ended in service without a generation, in a catalog state (R126, R136). -/
structure State.EndsBare (s : State) (k : CatalogState) (block : Option (List Nat)) (st : Store) (d : Descriptor) (bad : List Nat)
    (t : State) : Prop extends (s.bare k block st).ServedAs d bad ((s.bare k block st).heldUnits d) {} t where
  catalog : t.catalog = s.catalog.noGeneration k

theorem State.mountedSince_bare (hd : st.descriptor = some d) (hk : k ≠ .valid) (record : Option RootRecord) :
    s.EndsBare k block st d ((record.map (·.badUnits)).getD []) (s.mountedSince record (s.bare k block st)) := by
  have hserved := State.mountedSince_served (x := s.bare k block st) hd record s
  rw [State.bare_keptPart hk] at hserved
  exact ⟨hserved, State.mountedSince_quiet (x := s.bare k block st) hd record s (.inl rfl)⟩

section Ended

variable {bad : List Nat} {t : State} (h : s.EndsBare k block st d bad t)
include h

theorem State.EndsBare.loadedAs : s.LoadedAs block t := by
  obtain ⟨hpower, hlight, hscreens⟩ := h.others
  exact ⟨hpower, hlight, hscreens, h.matrix⟩

theorem State.EndsBare.generation : t.catalog.state = k ∧ t.catalog.number = 0 ∧ t.catalog.titles = [] := by
  rw [h.catalog]
  exact ⟨rfl, rfl, rfl⟩

/-- No glyph load begins without a generation (R125). -/
theorem State.EndsBare.glyphs : t.catalog.glyphs = s.catalog.glyphs ∧ t.catalog.glyphLoad = s.catalog.glyphLoad := by
  rw [h.catalog]
  exact ⟨rfl, rfl⟩

/-- Catalog memory that was empty hands over no holders (R126). -/
theorem State.EndsBare.table (hpool : s.catalog.pool = []) : d.tabled bad [] t.store.units := by
  have hunits := h.units
  rwa [State.bare_heldUnits hpool] at hunits

end Ended

/-- The reply to a REMOUNT that ends with an EMPTY catalog (R137). -/
theorem State.mountTold.remount_empty {tag : Option Nat} {l : Link} (h : (s.bare .empty block st).mountTold d.service tag l)
    (hstart : st.startUp = false) {n : Nat} (hn : st.remountTag = some n) :
    tag = none ∧ replyMsg 0x11 n .ok ([byteOf d.service.code, 2] ++ beBytes 4 0) .nothing ∈ l.queued := by
  obtain ⟨-, hremount⟩ := h
  exact hremount hstart n hn

/-- The HELLO of a start-up mount that finds no record (R171, R172). -/
def emptyHello (d : Descriptor) (causes : List ResetCause) : LinkMsg :=
  { kind := 0xE0, tag := 0
    payload := [0x54, 0x36, 3, byteOf d.service.code, 2] ++ beBytes 4 0 ++ [1] ++
      byteOf causes.length :: causes.map (fun c => byteOf c.code) }

theorem State.mountTold.hello_defaults {tag : Option Nat} {l : Link} (h : (s.bare .empty none st).mountTold d.service tag l)
    (hs : s.store.startUp = true) (hstart : st.startUp = true) : l.helloSent = true ∧ emptyHello d s.power.causes ∈ l.queued := by
  obtain ⟨hhello, -⟩ := h
  obtain ⟨hsent, hqueued⟩ := hhello hstart
  have hsettings : (s.bare .empty none st).power.settings = some .defaults := s.handed_settings hs none
  have hcauses : (s.bare .empty none st).power.causes = s.power.causes := s.handed_causes none
  have hmsg : helloMsg d.service (s.bare .empty none st) = emptyHello d s.power.causes := by
    rw [helloMsg, hsettings, hcauses]
    rfl
  rw [hmsg] at hqueued
  exact ⟨hsent, hqueued⟩

end Bare

/-! ### The begin of the image's reads (R126, R136) -/

/-- The first read of the image waits with the arbiter, and the hand-over is as it was left (R136, R145). -/
theorem image_begins {s u : State} {st : Store} {step : MountStep} {run : Run} (hfree : st.port = none) :
    let t := (eraserStep (u.setStore (({ st with mount := step } : Store).place .mountImage .write (.pageRead run)))).seenSince s
    t.store.mount = step ∧ ⟨.mountImage, .write, .pageRead run, 0⟩ ∈ t.store.arbiter ∧ t.store.highestSeq = st.highestSeq ∧
      t.store.newestRoot = st.newestRoot ∧ t.store.rootPos = st.rootPos ∧ t.power = u.power ∧ t.light = u.light ∧
      t.screens = u.screens ∧ ∀ i : Fin 2, (t.compScreen i).matrix = (u.compScreen i).matrix := by
  intro t
  let asked : Store := ({ st with mount := step } : Store).place .mountImage .write (.pageRead run)
  have hasked : asked = { st with mount := step, arbiter := st.arbiter ++ [⟨.mountImage, .write, .pageRead run, 0⟩] } :=
    Store.place_of_free hfree
  have hframe : t = { eraserStep (u.setStore asked) with comp := t.comp } := seenSince_frame _ s
  have hmatrix := fun i => (seenSince_spec (eraserStep (u.setStore asked)) s i).1
  have hstore : t.store = asked.eraser := congrArg State.store hframe
  obtain ⟨units, batch, arb, held, herased, -⟩ := asked.eraser_frame
  obtain ⟨added, _, hwaits, -⟩ := asked.eraser_waiting
  refine ⟨?_, ?_, ?_, ?_, ?_, by rw [hframe]; rfl, by rw [hframe]; rfl, by rw [hframe]; rfl, fun i => (hmatrix i).trans rfl⟩
  case refine_2 =>
    rw [hstore, hwaits, hasked]
    exact List.mem_append_left _ (List.mem_append_right _ (List.mem_singleton_self _))
  all_goals rw [hstore, herased, hasked]

/-! ### The end of a mount with a generation (R125, R126) -/

/-- The live generation as the host sees it: readers, glyph memory and its load apart (R103). -/
structure Catalog.SameLive (c e : Catalog) : Prop where
  state : e.state = c.state
  number : e.number = c.number
  titles : e.titles = c.titles
  glyphKey : e.glyphKey = c.glyphKey
  records : e.pool.map (fun a => (a.key, a.extents, a.inLive)) = c.pool.map (fun a => (a.key, a.extents, a.inLive))

theorem GlyphBegun.sameLive {c : Catalog} {a : Asset} {t : State} (h : GlyphBegun c a t) : c.SameLive t.catalog := by
  have hpool : t.catalog.pool = c.pool.map fun b => if b.uid = a.uid then { b with readers := b.readers + 1 } else b := by
    rw [h.catalog]
    rfl
  refine ⟨?_, ?_, ?_, ?_, ?_⟩
  case refine_5 =>
    rw [hpool, List.map_map]
    refine List.map_congr_left fun b _ => ?_
    simp only [Function.comp_apply]
    split <;> rfl
  all_goals rw [h.catalog]; rfl

/-- The glyph load that has begun holds the record's one reader, and its first read waits (R107, R125). -/
theorem GlyphBegun.reads {c : Catalog} {a : Asset} {t : State} (h : GlyphBegun c a t) (hn : (c.pool.map (·.uid)).Nodup)
    (ha : a ∈ c.pool) (hreaders : a.readers = 0) : t.catalog.glyphs = none ∧ (t.catalog.record a.uid).map (·.readers) = some 1 ∧
      ∃ rest, t.catalog.glyphLoad = some ⟨a.uid, rest, []⟩ ∧
        ∀ (r : Run) (more : List Run), readRuns (takePages (pagesFor a.length) a.extents) = r :: more → rest = more ∧
          ∃ w ∈ t.store.arbiter, w.purpose = .glyph ∧ w.cls = .prefetch ∧ w.op = .pageRead r := by
  have hrecord : t.catalog.record a.uid = (c.modify a.uid fun a => { a with readers := a.readers + 1 }).record a.uid := by
    rw [h.catalog]
    rfl
  refine ⟨by rw [h.catalog], ?_, _, by rw [h.catalog], fun r more hruns =>
    ⟨by rw [hruns]; rfl, _, h.asks r more hruns, rfl, rfl, rfl⟩⟩
  rw [hrecord, Catalog.record_modify (f := fun a => { a with readers := a.readers + 1 }) (hf := fun _ => rfl),
    Catalog.record_of_mem hn ha]
  simp [hreaders]

section Valid

variable {s : State} {p : PortOp} {d : Descriptor} {record : RootRecord} {c : Catalog} (hd : s.store.descriptor = some d)
include hd

theorem mountedSince_valid_served (hvalid : c.state = .valid) : ((s.freed p).setCatalog c).ServedAs d record.badUnits
    (c.liveImage ++ c.pool.flatMap fun a => unitsOfRuns d.pagesPerUnit a.extents) record.image
    (s.mountedSince (some record) ((s.freed p).setCatalog c)) := by
  have hserved := State.mountedSince_served (x := (s.freed p).setCatalog c) ((Store.portFreed_descriptor p s.store).trans hd)
    (some record) s
  have hpart : ((s.freed p).setCatalog c).keptPart (some record) = record.image := if_pos hvalid
  rwa [hpart] at hserved

theorem mountedSince_valid_quiet (hq : c.glyphKey = 0 ∨ c.liveRecord c.glyphKey = none) :
    (s.mountedSince (some record) ((s.freed p).setCatalog c)).catalog = c :=
  State.mountedSince_quiet (x := (s.freed p).setCatalog c) ((Store.portFreed_descriptor p s.store).trans hd) (some record) s hq

theorem mountedSince_valid_begun {a : Asset} (hk : c.glyphKey ≠ 0) (ha : c.liveRecord c.glyphKey = some a) :
    GlyphBegun c a (s.mountedSince (some record) ((s.freed p).setCatalog c)) :=
  State.mountedSince_begun (x := (s.freed p).setCatalog c) ((Store.portFreed_descriptor p s.store).trans hd) (some record) s
    (Store.portFreed_port p s.store) hk ha

theorem mountedSince_valid_sameLive : c.SameLive (s.mountedSince (some record) ((s.freed p).setCatalog c)).catalog := by
  by_cases hk : c.glyphKey = 0
  · rw [mountedSince_valid_quiet hd (.inl hk)]
    exact ⟨rfl, rfl, rfl, rfl, rfl⟩
  · cases ha : c.liveRecord c.glyphKey with
    | none =>
      rw [mountedSince_valid_quiet hd (.inr ha)]
      exact ⟨rfl, rfl, rfl, rfl, rfl⟩
    | some a => exact (mountedSince_valid_begun hd hk ha).sameLive

end Valid

/-! ### The statement -/

/-- Settles O29: a completed read of the roots or of the image places the next one; the last one hands the newest record over or builds
the generation, and each end of the mount is the one service of `mountedSince`. -/
theorem mountReadsTheRootsAndTheImage : Obligations.MountReadsTheRootsAndTheImage := by
  unfold Obligations.MountReadsTheRootsAndTheImage
  refine ⟨fun pg => ⟨rootRecordOf_isSome_iff pg, fun r => rootRecordOf_fields⟩, imageReadable_iff,
    fun pages => ⟨newestRecord_eq_none_iff pages, newestRecord_eq_some_iff pages⟩, ?_⟩
  intro s p run pages hl hp hop hlen hr service table loads noLoad found
  refine ⟨fun hpurpose done rest hm => ⟨?next, ?none, ?newest⟩, fun hpurpose record data rest hm => ⟨?nextImage, ?valid, ?lost⟩⟩
  case next =>
    rintro r more rfl
    obtain ⟨hmount, hport, hasked⟩ := asksMount_seenSince s p (.roots (done ++ pages) more) .mountRoots r
    exact ⟨_, exec_rootUnitReadDone_next done hl hp hop hlen hr hpurpose hm, hmount, hport, _, hasked, rfl, rfl⟩
  case none =>
    rintro d rfl hnone hd hpool
    let st := (s.store.portFreed p).logged ⟨1, d.pagesPerUnit⟩ 0 none
    have hst : st.descriptor = some d := (Store.portFreed_descriptor p s.store).trans hd
    have hstart : st.startUp = s.store.startUp := Store.portFreed_startUp p s.store
    have hend := State.mountedSince_bare (s := s) (k := .empty) (block := none) hst CatalogState.noConfusion none
    obtain ⟨hpos, hseq, hnewest⟩ := hend.log
    obtain ⟨hstate, hnumber, htitles⟩ := hend.generation
    refine ⟨_, exec_rootUnitReadDone_none done hl hp hop hlen hr hpurpose hm hd hnone, hend.state, hend.mount, hpos, hseq, hnewest,
      hend.badUnits, hend.loadedAs, hend.startUp, hstate, hnumber, htitles, hend.table hpool, hend.glyphs, fun hs tag htag => ?_,
      fun hs => ?_⟩
    · exact hend.told.remount_empty (hstart.trans hs) ((Store.portFreed_remountTag p s.store).trans htag)
    · obtain ⟨hpower, -, hscreens, -⟩ := hend.loadedAs
      obtain ⟨hsent, hqueued⟩ := hend.told.hello_defaults hs (hstart.trans hs)
      refine ⟨hsent, by rw [hpower]; exact s.handed_settings hs none, hqueued, fun i => ?_⟩
      rw [State.screen, hscreens]
      exact s.handed_wantedOn hs none i
  case newest =>
    rintro d r page rfl hfound hd
    let st := (s.store.portFreed p).logged (logOf (done ++ pages) d.pagesPerUnit page) r.sequence (some page)
    have hst : st.descriptor = some d := (Store.portFreed_descriptor p s.store).trans hd
    have hstart : st.startUp = s.store.startUp := Store.portFreed_startUp p s.store
    have hexec := exec_rootUnitReadDone_found done hl hp hop hlen hr hpurpose hm hd hfound
    have hlog : ∀ t : State, t.store.highestSeq = st.highestSeq → t.store.newestRoot = st.newestRoot →
        t.store.rootPos = st.rootPos → found (done ++ pages) d r page t := fun t hseq hnewest hpos => by
      obtain ⟨n, hn, hprogrammed⟩ := logOf_spec (done ++ pages) d.pagesPerUnit page
      exact ⟨hseq, hnewest, n, hpos.trans (congrArg some hn), hprogrammed⟩
    refine ⟨fun hunits himage hppu => ?_, fun hunits himage => ?_, fun hunits hpool => ?_⟩
    · obtain ⟨-, hlength, -⟩ := (imageReadable_iff d r.image).1 himage
      obtain ⟨first, more, hruns⟩ := imageRuns_reads hunits hlength hppu
      rw [handOver_image hstart hst hunits himage hruns] at hexec
      obtain ⟨hmount, hasked, hseq, hnewest, hpos, hpower, hlight, hscreens, hmatrix⟩ :=
        image_begins (s := s) (u := s.handed (some r.settings)) (st := st) (step := .image r [] more) (run := first)
          (Store.portFreed_port p s.store)
      refine ⟨_, hexec, ⟨more, hmount⟩, hlog _ hseq hnewest hpos, ⟨hpower, hlight, hscreens, hmatrix⟩,
        ⟨_, hasked, rfl, rfl⟩, fun hs => ?_⟩
      rw [hpower]
      exact s.handed_settings hs (some r.settings)
    · rw [handOver_unreadable hstart hst hunits himage] at hexec
      have hend := State.mountedSince_bare (s := s) (k := .lost) (block := some r.settings) hst CatalogState.noConfusion (some r)
      obtain ⟨hpos, hseq, hnewest⟩ := hend.log
      obtain ⟨hstate, hnumber, htitles⟩ := hend.generation
      exact ⟨_, hexec, hend.state, hend.mount, hstate, hnumber, htitles, hend.imagePart, hend.badUnits, hend.glyphs,
        hlog _ hseq hnewest hpos, hend.loadedAs⟩
    · rw [handOver_imageless hstart hst hunits] at hexec
      have hend := State.mountedSince_bare (s := s) (k := .empty) (block := some r.settings) hst CatalogState.noConfusion (some r)
      obtain ⟨hpos, hseq, hnewest⟩ := hend.log
      obtain ⟨hstate, hnumber, htitles⟩ := hend.generation
      exact ⟨_, hexec, hend.state, hstate, hnumber, htitles, hlog _ hseq hnewest hpos, hend.loadedAs, hend.badUnits,
        hend.table hpool, hend.glyphs⟩
  case nextImage =>
    rintro r more rfl hread
    obtain ⟨hmount, -, hasked⟩ := asksMount_seenSince s p (.image record (data ++ pages.flatMap pageBytes) more) .mountImage r
    exact ⟨_, exec_catalogImageReadDone_next record data hl hp hop hlen hr hpurpose hm hread, hmount, _, hasked, rfl, rfl⟩
  case valid =>
    rintro d c rfl hread hd hc
    obtain ⟨hvalid, himage, hglyphs, hload, hnodup, hreaders⟩ := buildCatalog_loads hc
    have hserved := mountedSince_valid_served (p := p) (record := record) hd hvalid
    have hlive := mountedSince_valid_sameLive (p := p) (record := record) (c := c) hd
    rw [himage] at hserved
    obtain ⟨hpower, hlight, hscreens⟩ := hserved.others
    obtain ⟨hhello, -⟩ := hserved.told
    refine ⟨_, exec_catalogImageReadDone_valid record data hl hp hop hlen hr hpurpose hm hread hc, hserved.state, hserved.mount,
      hlive.state.trans hvalid, hlive.number, hlive.titles, hlive.glyphKey, hlive.records, hserved.imagePart, hserved.badUnits,
      hserved.units, fun hq => ?_, fun a hk ha => ?_, hpower, hlight, hscreens, fun hs => ?_⟩
    · have hcatalog := mountedSince_valid_quiet (s := s) (p := p) (record := record) hd hq
      exact ⟨(congrArg (·.glyphs) hcatalog).trans hglyphs, (congrArg (·.glyphLoad) hcatalog).trans hload⟩
    · have hmem := List.mem_of_find?_eq_some ha
      exact (mountedSince_valid_begun hd hk ha).reads hnodup hmem (hreaders a hmem)
    · obtain ⟨hsent, -⟩ := hhello ((Store.portFreed_startUp p s.store).trans hs)
      exact hsent
  case lost =>
    intro d hlost hd
    let x := (s.freed p).setCatalog (s.catalog.noGeneration .lost)
    have hx : x.store.descriptor = some d := (Store.portFreed_descriptor p s.store).trans hd
    have hserved := State.mountedSince_served (x := x) hx (some record) s
    have hcatalog := State.mountedSince_quiet (x := x) hx (some record) s (.inl rfl)
    exact ⟨_, exec_catalogImageReadDone_lost record data hl hp hop hlen hr hpurpose hm hlost, (congrArg (·.state) hcatalog :),
      (congrArg (·.number) hcatalog :), (congrArg (·.titles) hcatalog :), hserved.mount, hserved.imagePart, hserved.badUnits,
      hserved.state, (congrArg (·.glyphs) hcatalog :), (congrArg (·.glyphLoad) hcatalog :)⟩

end Sys2Proof.Machine
end
